-- ==== Sys2Proof/Word.lean ====
section
/-! DEFINITION. The word types of the LW418: bytes and 16-bit fields of frames, records and the parameter image, and local
time (00_scope.md, Conventions and Units). -/

namespace Sys2Proof

/-- One byte of a frame, a record or the parameter image. -/
abbrev Byte := BitVec 8

/-- A 16-bit field: an epoch, a version, a digest, a mark number, a frequency or an angle (Tables 5 and 6). -/
abbrev Half := BitVec 16

/-- A local time or a duration, in whole microseconds of the station's own time base (DESIGN CHOICE, safe: log 1). -/
abbrev Time := Nat

/-- Milliseconds as a duration. -/
def ms (n : Nat) : Time := 1000 * n

/-- Seconds as a duration. -/
def sec (n : Nat) : Time := 1000000 * n

end Sys2Proof
end

