-- ==== Sys2Proof/Config.lean ====
section
/-! DEFINITION. What the part fixes once (counts and capacities of the spec) and the free values: constants without a body,
so that no proof can see what they are. -/

namespace Sys2Proof.Config

/-- R1, Table 1: station numbers run 0 to 27. -/
def stations : Nat := 28

/-- R152: the transmit queue never holds more than 6 frames. -/
def queueCapacity : Nat := 6

/-- R150: the collision count at which a frame other than an ALARM is dropped. -/
def retryLimit : Nat := 16

/-- R151: the echo-miss count at which isolation is reported. -/
def echoMissLimit : Nat := 3

/-- R188: the join window ends at the third report tick after the entry to JOINING. -/
def joinTicks : Nat := 3

/-- R104: the crossing list never holds more than 8 entries. -/
def crossingCapacity : Nat := 8

/-- R103: the clearance count at which a catch fails. -/
def clearanceLimit : Nat := 3

/-- R118: a conversion takes 5 µs. -/
def conversionTime : Time := 5

/-- R137, R184: the wait between the fall of GATE_EN and the release of the coil. -/
def gateOffWait : Time := 10

/-- R179: the length of the SWITCH pulse. -/
def switchPulse : Time := 10

/-- R176: LSCK low this long ends a transfer. -/
def transferIdle : Time := 10

/-- R187: a taken write lasts 4 ms. -/
def writeTime : Time := ms 4

/-- R176, R178: the bits of the 65-byte release record. -/
def recordBits : Nat := 520

/-- FREE VALUE (log 8): the byte a port read returns for an offset above 63, for which R186 states no value.
Applied to the state's counter, so that each byte is a value of its own. -/
opaque portByte : Nat → Byte

/-- FREE VALUE (log 9): whether the direction is taken as forward when the offset d of R106 lies within w of P/3 and
within w of 2P/3 as well (possible when CATCH_TOL is above 16). Applied to the state's counter. -/
opaque overlapForward : Nat → Bool

/-- FREE VALUE (log 10): the 16 bits that stand in a frame's or record's frequency field for a frequency outside
−32768 to 32767 (0.01 Hz), for which the spec states no encoding. A function of the frequency. -/
opaque frequencyBits : Int → Half

end Sys2Proof.Config
end

