-- ==== Sys2Proof/Syntax.lean ====
section
/-! DEFINITION. The commands of the LW418: one constructor of `Instr` for each row of spec/opcode_table.json, with the
row's operands. Every command carries the local time of its event. -/

namespace Sys2Proof

/-- R146: one bit cell on the medium, two half-cells, each light (`true`) or dark (`false`). -/
structure BitCell where
  first  : Bool
  second : Bool
  deriving DecidableEq, Repr

/-- R147: a transmission as a receiver sees it, from the first light half-cell to its last bit cell. -/
abbrev Transmission := List BitCell

/-- R185: the strap pins as they stand at the end of a reset: ROLE, PH[1:0] and POS[3:0]. -/
structure Straps where
  roleHigh : Bool
  ph       : BitVec 2
  pos      : BitVec 4
  deriving DecidableEq, Repr

/-- R123: the two fault inputs of a cell station. -/
inductive FaultInput where
  | bridge
  | cell
  deriving DecidableEq, Repr

/-- R174: the discrete inputs of the line port. -/
inductive LineInput where
  | runReq
  | brakeOpen
  | dir
  | overhaul
  | slowZone
  | driveTrip
  | faultRst
  deriving DecidableEq, Repr

/-- R184: an edge of RESET#: its fall, where `held` says that it then stays low for at least 1 µs, or its rise. -/
inductive ResetEdge where
  | falls (held : Bool)
  | rises
  deriving DecidableEq, Repr

/-- R186: WP# during an access: low throughout, high when the access begins, or low at its beginning and risen once `n`
bytes of the whole access had been returned (in a WRITE access, at any moment of it). -/
inductive WpPin where
  | low
  | high
  | rises (n : Nat)
  deriving DecidableEq, Repr

/-- R186: an access of the programming port: the time of the falling edge of PCS# that began it, WP# during it, and its
first byte, the command. -/
structure Access where
  began   : Time
  wp      : WpPin
  command : Byte
  deriving DecidableEq, Repr

/-- The commands: the 51 rows of spec/opcode_table.json. `t` is the local time of the event. -/
inductive Instr where
  /-- POWER_ON_RESET (R184). -/
  | powerOnReset (t : Time) (straps : Straps)
  /-- PIN_RESET (R184): an edge of RESET#, and the straps then: the reset is in force from the fall to the rise (log 21). -/
  | pinReset (t : Time) (edge : ResetEdge) (straps : Straps)
  /-- PIN_RESET_COIL_RELEASE (R184). -/
  | pinResetCoilRelease (t : Time)
  /-- READ_IMAGE (R186): `count` whole bytes are clocked out from `offset`. -/
  | readImage (t : Time) (access : Access) (offset : Byte) (count : Nat)
  /-- READ_WORKING (R186). -/
  | readWorking (t : Time) (access : Access) (offset : Byte) (count : Nat)
  /-- STATUS (R186): the status byte as it stands at `t` is clocked out `count` times; an access in which it changes is
  several STATUS commands with one beginning (log 46). -/
  | status (t : Time) (access : Access) (count : Nat)
  /-- WRITE (R187): `bytes` are the whole bytes after the command byte, the offset first; `trailing` says that a part
  byte followed them. `t` is the rising edge of PCS#. -/
  | write (t : Time) (access : Access) (bytes : List Byte) (trailing : Bool)
  /-- WRITE_COMPLETION (R187). -/
  | writeCompletion (t : Time)
  /-- REPORT_TICK (R158). -/
  | reportTick (t : Time)
  /-- JOIN_WINDOW_END (R188). -/
  | joinWindowEnd (t : Time)
  /-- HEARD_STATUS_TIMEOUT (R157) of one heard-table entry. -/
  | heardStatusTimeout (t : Time) (station : Nat)
  /-- ISOLATE_TIMEOUT (R160). -/
  | isolateTimeout (t : Time)
  /-- TRANSMISSION_ATTEMPT (R149). -/
  | transmissionAttempt (t : Time)
  /-- DEFER (R148). -/
  | defer (t : Time)
  /-- ATTEMPT_COMPLETED (R149). -/
  | attemptCompleted (t : Time)
  /-- COLLISION (R150). -/
  | collision (t : Time)
  /-- ECHO_MISS (R151). -/
  | echoMiss (t : Time)
  /-- INVALID_TRANSMISSION (R147). -/
  | invalidTransmission (t : Time) (x : Transmission)
  /-- DUPLICATE_ADDRESS (R161). -/
  | duplicateAddress (t : Time) (x : Transmission)
  /-- STATE_RECEIVED (R168). -/
  | stateReceived (t : Time) (x : Transmission)
  /-- SUMMARY_RECEIVED (R16). -/
  | summaryReceived (t : Time) (x : Transmission)
  /-- ALARM_RECEIVED (R34). -/
  | alarmReceived (t : Time) (x : Transmission)
  /-- STEP_RECEIVED (R50). -/
  | stepReceived (t : Time) (x : Transmission)
  /-- LINE_RECEIVED (R36). -/
  | lineReceived (t : Time) (x : Transmission)
  /-- DWELL_EXPIRY (R42). -/
  | dwellExpiry (t : Time)
  /-- SETTLE_EXPIRY (R44). -/
  | settleExpiry (t : Time)
  /-- AGREE_EXPIRY (R48). -/
  | agreeExpiry (t : Time)
  /-- ARM_EXPIRY (R51). -/
  | armExpiry (t : Time)
  /-- REVISE_EXPIRY (R93). -/
  | reviseExpiry (t : Time)
  /-- BUILD_START (R63). -/
  | buildStart (t : Time)
  /-- WALK_READ (R64). -/
  | walkRead (t : Time)
  /-- FINISHING_STEP (R67). -/
  | finishingStep (t : Time)
  /-- AGING_DEADLINE (R69). -/
  | agingDeadline (t : Time)
  /-- CONVERSION_COMPLETE (R118): the conversion's result in per mille of full scale; `taken` says whether an ACTIVE
  catch takes the slot before the channel's next result is stored (log 19). -/
  | conversionComplete (t : Time) (value : Nat) (taken : Bool)
  /-- QUIET_MARK_EXPIRY (R108). -/
  | quietMarkExpiry (t : Time)
  /-- CATCH_TIMER_EXPIRY (R110). -/
  | catchTimerExpiry (t : Time)
  /-- BUDGET_EXPIRY (R114). -/
  | budgetExpiry (t : Time)
  /-- FAULT_INPUT_CHANGE (R123): the input's new filtered level, asserted or not. -/
  | faultInputChange (t : Time) (input : FaultInput) (asserted : Bool)
  /-- REST_HOLDOFF_EXPIRY (R95). -/
  | restHoldoffExpiry (t : Time)
  /-- BYPASS_FB_CHANGE (R136): the feedback's new filtered level. -/
  | bypassFbChange (t : Time) (closed : Bool)
  /-- CONTACT_EXPIRY (R140). -/
  | contactExpiry (t : Time)
  /-- GATE_OFF_WAIT_END (R137). -/
  | gateOffWaitEnd (t : Time)
  /-- DRIVE_TRIP_RISING (R174). -/
  | driveTripRising (t : Time)
  /-- BRAKE_OPEN_FALLING (R109). -/
  | brakeOpenFalling (t : Time)
  /-- FAULT_RST_FALLING (R175). -/
  | faultRstFalling (t : Time)
  /-- DISCRETE_INPUT_CHANGE (R174): the input's new filtered level, asserted or not. -/
  | discreteInputChange (t : Time) (input : LineInput) (asserted : Bool)
  /-- TRANSFER_START (R176): LSI at the first rising edge of LSCK. -/
  | transferStart (t : Time) (lsi : Bool)
  /-- TRANSFER_END (R176). -/
  | transferEnd (t : Time)
  /-- SWITCH_PULSE_END (R179). -/
  | switchPulseEnd (t : Time)
  /-- LSCK_CLOCK_EDGE (R176): a rising edge with LSI, or a falling edge. -/
  | lsckClockEdge (t : Time) (rising : Bool) (lsi : Bool)
  /-- LOSS_OF_SUPPLY (R187). -/
  | lossOfSupply (t : Time)
  deriving DecidableEq, Repr

/-- The local time a command carries. -/
def Instr.time : Instr → Time
  | .powerOnReset t _ | .pinReset t _ _ | .pinResetCoilRelease t | .readImage t _ _ _ | .readWorking t _ _ _
  | .status t _ _ | .write t _ _ _ | .writeCompletion t | .reportTick t | .joinWindowEnd t | .heardStatusTimeout t _
  | .isolateTimeout t | .transmissionAttempt t | .defer t | .attemptCompleted t | .collision t | .echoMiss t
  | .invalidTransmission t _ | .duplicateAddress t _ | .stateReceived t _ | .summaryReceived t _ | .alarmReceived t _
  | .stepReceived t _ | .lineReceived t _ | .dwellExpiry t | .settleExpiry t | .agreeExpiry t | .armExpiry t
  | .reviseExpiry t | .buildStart t | .walkRead t | .finishingStep t | .agingDeadline t | .conversionComplete t _ _
  | .quietMarkExpiry t | .catchTimerExpiry t | .budgetExpiry t | .faultInputChange t _ _ | .restHoldoffExpiry t
  | .bypassFbChange t _ | .contactExpiry t | .gateOffWaitEnd t | .driveTripRising t | .brakeOpenFalling t
  | .faultRstFalling t | .discreteInputChange t _ _ | .transferStart t _ | .transferEnd t | .switchPulseEnd t
  | .lsckClockEdge t _ _ | .lossOfSupply t => t

end Sys2Proof
end

