-- ==== Sys2Proof/Decode.lean ====
section
/-! DEFINITION. The commands that a word spells: none. No row of spec/opcode_table.json gives bits (the LW418 is commanded by
events on its bus, pins and timers, not by words), so no word spells a command. -/

namespace Sys2Proof

/-- The command a word of `nbits` bits spells by the table's bits: no row gives any. -/
def decodeTableWord (_nbits _w : Nat) : Option Instr := none

end Sys2Proof
end

