-- ==== Sys2Proof/Machine/Bits.lean ====
section
/-! DEFINITION. Bit and byte order, the CRC (R3), serial comparison (R2) and the version and epoch orders (R6, R29). -/

namespace Sys2Proof.Machine

/-- R164: a 16-bit field as two bytes, most significant first. -/
def bytesOfHalf (h : Half) : List Byte := [h.extractLsb' 8 8, h.extractLsb' 0 8]

/-- R164: two bytes, most significant first, as a 16-bit field. -/
def halfOfBytes (hi lo : Byte) : Half := hi ++ lo

/-- The byte at an offset; 0 beyond the end. -/
def byteAt (bs : List Byte) (i : Nat) : Byte := bs.getD i 0

/-- The 16-bit field at an offset, most significant byte first. -/
def halfAt (bs : List Byte) (i : Nat) : Half := halfOfBytes (byteAt bs i) (byteAt bs (i + 1))

/-- R3: one bit of the CRC, polynomial x^16 + x^12 + x^5 + 1, most significant bit first. -/
def crcBit (c : Half) : Half := if c.msb then (c <<< 1) ^^^ 0x1021#16 else c <<< 1

/-- R3: one byte of the CRC. -/
def crcByte (c : Half) (b : Byte) : Half :=
  crcBit (crcBit (crcBit (crcBit (crcBit (crcBit (crcBit (crcBit (c ^^^ (b ++ 0#8)))))))))

/-- R3: the CRC of a byte string, initial value FFFFh, no final inversion. -/
def crc (bs : List Byte) : Half := bs.foldl crcByte 0xFFFF#16

/-- The eight bits of a byte, most significant first. -/
def bitsOfByte (b : Byte) : List Bool :=
  [b.getLsbD 7, b.getLsbD 6, b.getLsbD 5, b.getLsbD 4, b.getLsbD 3, b.getLsbD 2, b.getLsbD 1, b.getLsbD 0]

/-- Bytes as bits, most significant bit of each byte first (R146, R176). -/
def bitsOfBytes (bs : List Byte) : List Bool := bs.flatMap bitsOfByte

/-- Eight bits, most significant first, as a byte. -/
def byteOfBits (b7 b6 b5 b4 b3 b2 b1 b0 : Bool) : Byte :=
  BitVec.ofBool b7 ++ BitVec.ofBool b6 ++ BitVec.ofBool b5 ++ BitVec.ofBool b4 ++ BitVec.ofBool b3 ++ BitVec.ofBool b2
    ++ BitVec.ofBool b1 ++ BitVec.ofBool b0

/-- The whole bytes of a bit string; a trailing part byte is ignored (R176). -/
def wholeBytes : List Bool → List Byte
  | b7 :: b6 :: b5 :: b4 :: b3 :: b2 :: b1 :: b0 :: rest => byteOfBits b7 b6 b5 b4 b3 b2 b1 b0 :: wholeBytes rest
  | _ => []

/-- The bytes of a bit string, none when its length is not a whole number of bytes (R147). -/
def bytesOfBits? : List Bool → Option (List Byte)
  | [] => some []
  | b7 :: b6 :: b5 :: b4 :: b3 :: b2 :: b1 :: b0 :: rest =>
    match bytesOfBits? rest with
    | some bs => some (byteOfBits b7 b6 b5 b4 b3 b2 b1 b0 :: bs)
    | none => none
  | _ => none

/-- R2: `a` is newer than `b` under serial comparison. -/
def serialNewer (a b : Half) : Bool := decide (1 ≤ (a - b).toNat) && decide ((a - b).toNat ≤ 32767)

/-- R6: the successor of an entry version; the successor of 65535 is 1. -/
def versionSucc (v : Half) : Half := if v = 65535#16 then 1#16 else v + 1#16

/-- R6: `a` is a newer version than `b`. -/
def versionNewer (a b : Half) : Bool :=
  if a = 0#16 then false
  else if b = 0#16 then true
  else serialNewer a b || (decide ((a - b).toNat = 32768) && decide (b.toNat < a.toNat))

/-- R29: `a` is a newer epoch than `b`; at a difference of exactly 32768 the numerically greater is newer. -/
def epochNewer (a b : Half) : Bool :=
  serialNewer a b || (decide ((a - b).toNat = 32768) && decide (b.toNat < a.toNat))

/-- R29: the successor of an epoch, modulo 65536. -/
def epochSucc (e : Half) : Half := e + 1#16

/-- A signed frequency, in 0.01 Hz, as the 16 bits of its field (R164); a free value outside the field (log 10). -/
def frequencyField (f : Int) : Half :=
  if -32768 ≤ f ∧ f ≤ 32767 then BitVec.ofInt 16 f else Config.frequencyBits f

/-- A list with one element replaced; unchanged when the index lies beyond its end. -/
def setAt {α : Type} (l : List α) (i : Nat) (a : α) : List α := l.set i a

/-- A set of numbers kept as a rising list: insertion. -/
def insertRising (n : Nat) : List Nat → List Nat
  | [] => [n]
  | m :: rest => if n < m then n :: m :: rest else if n = m then m :: rest else m :: insertRising n rest

end Sys2Proof.Machine
end

