-- ==== Sys2Proof/Machine/Types.lean ====
section
/-! DEFINITION. The data the blocks of the LW418 hold: names of phases, conditions, classes and outcomes, frames, plan and
release records, and one structure for each block of 00_scope.md Table 2. Plain data throughout. -/

namespace Sys2Proof.Machine

/-! ## Names -/

/-- Table 2-1: the round phases. -/
inductive Phase where
  | joining | halted | settling | planning | catching | arming | running | revising | tripped | lockout | isolated
  deriving DecidableEq, Repr

/-- Table 1-2: the conditions of a roster entry. -/
inductive Condition where
  | live | resting | faulted | bypassed | silent
  deriving DecidableEq, Repr

/-- Table 1-1: who wrote an entry's content. -/
inductive Source where
  | owner | observer
  deriving DecidableEq, Repr

/-- Table 6-3: a fault class, a 4-bit code. -/
abbrev FaultClass := BitVec 4

/-- The role ROLE selects. -/
inductive Role where
  | cell | line
  deriving DecidableEq, Repr

/-- R38: the origin of an entry change. -/
inductive Origin where
  | owner | mark | merge
  deriving DecidableEq, Repr

/-- R17: the verdict of an index in a merge. -/
inductive Verdict where
  | theirsNewer | oursNewer | conflict
  deriving DecidableEq, Repr

/-- Table 8-2: the status of a heard-table entry. -/
inductive HeardStatus where
  | never | heard | quiet | silent
  deriving DecidableEq, Repr

/-- Table 2-2: the refusal record. -/
inductive Refused where
  | none | cell | line
  deriving DecidableEq, Repr

/-- Table 5-3 and R98 note 1: catch outcomes. -/
inductive CatchOutcome where
  | none | caught | carried | cold | standstill | failed | expired
  deriving DecidableEq, Repr

/-- R78: a cell's role in the plan in force; an active cell's with its carrier offset. -/
inductive CellRole where
  | active (offset : Nat)
  | spare
  | out
  | none
  deriving DecidableEq, Repr

/-- R78: the role is ACTIVE, whatever its carrier offset. -/
def CellRole.isActive : CellRole → Bool
  | .active _ => true
  | _ => false

/-- R186: the commands of the programming port. -/
inductive PortCommand where
  | readImage | readWorking | status | write
  deriving DecidableEq, Repr

/-- R81: a cell's standing in a revision. -/
inductive Standing where
  | withdrawing | restingOut | readmitting | inService | hardFault | none
  deriving DecidableEq, Repr

/-! ## Frames -/

/-- Table 9-1: the five frame kinds. -/
inductive Kind where
  | alarm | step | line | state | summary
  deriving DecidableEq, Repr

/-- Table 9-5: the STATE payload. -/
structure StatePayload where
  phase        : Byte
  planPresent  : Bool
  lineLost     : Bool
  rosterDigest : Half
  planRev      : Byte
  planDigest   : Half
  cfgDigest    : Half
  deriving DecidableEq, Repr

/-- Table 9-6: the four bytes of one SUMMARY entry, read as fields. -/
structure SummaryItem where
  cond    : BitVec 4
  owner   : Bool
  cls     : FaultClass
  version : Half
  deriving DecidableEq, Repr

/-- Table 9-9: a catch block. -/
structure CatchBlock where
  outcome : Byte
  freq    : Half
  deriving DecidableEq, Repr

/-- Table 9-9: a switch block. -/
structure SwitchBlock where
  rev    : Byte
  mark   : Half
  digest : Half
  deriving DecidableEq, Repr

/-- Table 9-9: the LINE payload. -/
structure LinePayload where
  mark        : Half
  runReq      : Bool
  brakeOpen   : Bool
  dir         : Bool
  overhaul    : Bool
  slowZone    : Bool
  driveTrip   : Bool
  faultCount  : Byte
  encFreq     : Half
  driveFreq   : Half
  driveAngle  : Half
  catchBlock  : Option CatchBlock
  switchBlock : Option SwitchBlock
  deriving DecidableEq, Repr

/-- Tables 9-5 to 9-9: the payload of a frame. -/
inductive Payload where
  | alarm (origin cls phase : Byte)
  | step (code rev : Byte) (digest : Half) (reason : Byte)
  | line (l : LinePayload)
  | state (p : StatePayload)
  | summary (items : List SummaryItem)
  deriving DecidableEq, Repr

/-- R163: a frame: the sender's station number and epoch, and the payload. Kind, rank, length and CRC follow. -/
structure Frame where
  station : Byte
  epoch   : Half
  payload : Payload
  deriving DecidableEq, Repr

/-! ## Plans -/

/-- Table 3-2: how a plan balances the phases. -/
inductive PlanMode where
  | shift | trim
  deriving DecidableEq, Repr

/-- R68: the verdict of a candidate. -/
inductive PlanVerdict where
  | viable | wait | notViable
  deriving DecidableEq, Repr

/-- Table 3-4: reasons. `shortPhase` holds the phase number 0, 1 or 2; `silentYoung` its deadline. -/
inductive Reason where
  | closing (index : Nat)
  | silentYoung (index : Nat) (deadline : Time)
  | stuckOpen (index : Nat)
  | shortPhase (phase : Nat)
  | lowFraction
  deriving DecidableEq, Repr

/-- A cell by phase number (0 A, 1 B, 2 C) and position. -/
structure CellName where
  phase : Nat
  pos   : Nat
  deriving DecidableEq, Repr

/-- One thing for each of the phases A, B and C. -/
structure Abc (α : Type) where
  a : α
  b : α
  c : α
  deriving DecidableEq, Repr

/-- Table 3-2 and note 2: the fields of a plan record that a SHORT_PHASE reason leaves absent. -/
structure PlanBody where
  thetaAB  : Nat
  thetaBC  : Nat
  thetaCA  : Nat
  span     : Nat
  fraction : Nat
  active   : Abc (List Nat)
  spares   : List CellName
  offsets  : Abc (List Nat)
  digest   : Half
  deriving DecidableEq, Repr

/-- R61, Table 3-2: a plan record. -/
structure Plan where
  epoch        : Half
  revision     : Byte
  sourceDigest : Half
  mode         : PlanMode
  counts       : Abc Nat
  body         : Option PlanBody
  verdict      : PlanVerdict
  reasons      : List Reason
  deriving DecidableEq, Repr

/-- R60: where the candidate stands. -/
inductive BuildState where
  | none | walking | finishing | built
  deriving DecidableEq, Repr

/-- Table 3-1: walk tallies. A SILENT entry read stands in `pending` with its deadline until the walk ends (R64). -/
structure Tallies where
  live    : Abc (List Nat)
  pending : List Reason
  deriving DecidableEq, Repr

/-! ## Bus Interface -/

/-- R152, Table 9-3: what a queued frame holds of its payload. -/
inductive QBody where
  | alarm (origin cls phase : Byte)
  | step (code rev : Byte) (digest : Half) (reason : Byte)
  | line (mark : Half)
  | state
  | summary
  deriving DecidableEq, Repr

/-- R152: a frame of the transmit queue. `renewed` is the new frame of a frame renewed in its attempt (R153). -/
structure QFrame where
  body       : QBody
  queuedAt   : Time
  collisions : Nat
  inAttempt  : Bool
  renewed    : Option QBody
  deriving DecidableEq, Repr

/-- R149: the attempt in progress: the frame as stamped at its start. -/
structure Attempt where
  frame   : Frame
  started : Time
  deriving DecidableEq, Repr

/-- Table 8-2: what the latest STATE of a station showed. -/
structure HeardState where
  time         : Time
  epoch        : Half
  phase        : Phase
  rosterDigest : Half
  planPresent  : Bool
  planRev      : Byte
  planDigest   : Half
  cfgDigest    : Half
  lineLost     : Bool
  deriving DecidableEq, Repr

/-- Table 8-2: a heard-table entry. -/
structure HeardEntry where
  status    : HeardStatus
  lastHeard : Option Time
  epoch     : Option Half
  state     : Option HeardState
  deriving DecidableEq, Repr

/-- The Bus Interface (08_cell_bus.md). -/
structure Bif where
  queue      : List QFrame
  attempt    : Option Attempt
  quietStart : Option Time
  heard      : List HeardEntry
  echoMisses : Nat
  duplicate  : Bool
  isoClock   : Time
  nextTick   : Time
  resetAt    : Time
  deriving DecidableEq, Repr

/-! ## Roster Unit -/

/-- Table 1-1: a roster entry. -/
structure RosterEntry where
  cond        : Condition
  source      : Source
  cls         : FaultClass
  version     : Half
  silentSince : Time
  deriving DecidableEq, Repr

/-- The Roster Unit (01_roster.md, R7). -/
structure Roster where
  entries      : List RosterEntry
  digest       : Half
  digestChange : Time
  mismatch     : List (Nat × Verdict)
  answerSent   : Bool
  answerOwed   : Bool
  diff         : List Nat
  authority    : Bool
  deriving DecidableEq, Repr

/-! ## Round Controller -/

/-- R50: an early step, the latest of its sender. -/
structure EarlyStep where
  station : Nat
  armed   : Bool
  digest  : Half
  deriving DecidableEq, Repr

/-- Table 2-5: the catch block held, with its frame's header epoch. -/
structure HeldCatch where
  outcome : CatchOutcome
  epoch   : Half
  deriving DecidableEq, Repr

/-- Table 2-5: the line facts. -/
structure LineFacts where
  runReq     : Bool
  prevRun    : Bool
  brakeOpen  : Bool
  faultCount : Option Byte
  catchHeld  : Option HeldCatch
  mark       : Option Half
  deriving DecidableEq, Repr

/-- The Round Controller (Table 2-2, R32, R29, R188). -/
structure Round where
  epoch        : Half
  phase        : Phase
  resettle     : Nat
  attempts     : List Time
  tripTime     : Option Time
  armed        : List Nat
  early        : List EarlyStep
  refusal      : Refused
  tripRound    : Bool
  deferred     : Bool
  runDemand    : Bool
  facts        : LineFacts
  lineLost     : Bool
  linePresent  : Bool
  lockoutClear : Option Time
  phaseTimer   : Option Time
  joinLeft     : Nat
  mismatchFlag : Bool
  firstTaken   : Bool
  deriving DecidableEq, Repr

/-! ## Plan Unit -/

/-- R80, Table 4-1: the switch record. -/
structure SwitchRecord where
  epoch  : Half
  rev    : Byte
  mark   : Half
  digest : Half
  deriving DecidableEq, Repr

/-- The Plan Unit (Table 3-1, R80). -/
structure PlanUnit where
  build        : BuildState
  candidate    : Option Plan
  cursor       : Nat
  tallies      : Tallies
  walkEnd      : Time
  inForce      : Option Plan
  switchRecord : Option SwitchRecord
  deriving DecidableEq, Repr

/-! ## Sense Scanner -/

/-- Table 6-2: the scanner's mode. -/
inductive ScanMode where
  | single | continuous
  deriving DecidableEq, Repr

/-- Table 6-2: the standing trigger. -/
inductive Standby where
  | tick | free
  deriving DecidableEq, Repr

/-- R118: the triggers of a pass. -/
inductive Trigger where
  | tick | edge | arm
  deriving DecidableEq, Repr

/-- R118: a pass in progress: the channel being converted, when the pass started, when this conversion ends. -/
structure Activity where
  channel   : Nat
  passStart : Time
  convEnd   : Time
  deriving DecidableEq, Repr

/-- R120: a result slot. -/
structure Slot where
  value   : Nat
  fresh   : Bool
  overrun : Bool
  deriving DecidableEq, Repr

/-- The Sense Scanner (Table 6-2). -/
structure Scanner where
  first    : Nat
  last     : Nat
  mode     : ScanMode
  standing : Standby
  activity : Option Activity
  pending  : Option Trigger
  slots    : List Slot
  deriving DecidableEq, Repr

/-! ## Parameter Store -/

/-- R187: a write in progress. -/
structure StoreWrite where
  offset : Nat
  data   : List Byte
  due    : Time
  deriving DecidableEq, Repr

/-- The Parameter Store, the sampled straps, the level of RESET# and the programming port's output
(11_parameters_and_start_up.md). `resetLow` says that RESET# is low for a pin reset, which is in force while the part has its
supply (R184); `freeSince` is the end of the latest
power-on load or write, before which no access that is taken begins (R186); `portOut` holds the bytes driven on PDIO in the
access that began at `portAccess`. -/
structure Store where
  image      : List Byte
  working    : List Byte
  valid      : Bool
  digest     : Half
  differs    : Bool
  write      : Option StoreWrite
  role       : Role
  ph         : BitVec 2
  pos        : BitVec 4
  resetLow   : Bool
  freeSince  : Time
  portAccess : Option Time
  portOut    : List Byte
  deriving DecidableEq, Repr

/-! ## Cell Watch -/

/-- R95: the rest hold-off timer. -/
inductive RestTimer where
  | stopped
  | running (due : Time)
  | elapsed
  deriving DecidableEq, Repr

/-- Table 6-4: the arming check. -/
inductive ArmCheck where
  | idle | openWait | senseWait | closeWait | done
  deriving DecidableEq, Repr

/-- Cell Watch (Table 6-4, R95). -/
structure Watch where
  tripHigh    : Nat
  linkLow     : Nat
  heat        : Nat
  supply      : Nat
  input       : Nat
  passSeen    : Bool
  latch       : List Nat
  leading     : FaultClass
  rest        : RestTimer
  inBand      : Nat
  check       : ArmCheck
  sentArmed   : Bool
  sentRefused : Bool
  armRequest  : Option Time
  bridgeFlt   : Option Bool
  cellFlt     : Option Bool
  deriving DecidableEq, Repr

/-! ## Bypass Controller -/

/-- Table 7-2: the bypass states. -/
inductive BypassState where
  | closed | opening | opened | closing | stuckOpen | stuckClosed
  deriving DecidableEq, Repr

/-- R138: the purpose of an OPEN. -/
inductive Purpose where
  | arm | switch
  deriving DecidableEq, Repr

/-- The Bypass Controller (Table 7-1, R184). -/
structure Bypass where
  state       : BypassState
  hold        : Bool
  contact     : Option Time
  gateOff     : Option Time
  pending     : Option Purpose
  feedback    : Option Bool
  coilRelease : Option Time
  deriving DecidableEq, Repr

/-! ## Catch Unit -/

/-- R100: the tags of the trip context. -/
inductive Tag where
  | valid | stale | empty
  deriving DecidableEq, Repr

/-- Table 5-2: the trip context. The status-word fields and the sample time share one tag. -/
structure TripContext where
  capture      : Option Time
  sampleTime   : Time
  driveFreq    : Half
  driveAngle   : Half
  encFreq      : Half
  statusTag    : Tag
  dir          : Bool
  dirTag       : Tag
  overhauling  : Bool
  overhaulTag  : Tag
  brakeOpen    : Bool
  brakeTag     : Tag
  planTag      : Tag
  deriving DecidableEq, Repr

/-- Table 5-1: a channel tracker. -/
structure Tracker where
  last      : Option (Int × Time)
  peakCross : Nat
  peakStart : Nat
  deriving DecidableEq, Repr

/-- R104: an entry of the crossing list, of V_AB or V_BC. -/
structure Crossing where
  isAB : Bool
  time : Time
  deriving DecidableEq, Repr

/-- Table 5-1: the catch record. -/
structure CatchRecord where
  epoch     : Option Half
  outcome   : CatchOutcome
  freq      : Int
  angle     : Option Half
  angleTime : Time
  used      : Bool
  deriving DecidableEq, Repr

/-- Table 5-4: the budget states. -/
inductive Budget where
  | idle | running | spent
  deriving DecidableEq, Repr

/-- The Catch Unit (Table 5-1). -/
structure CatchUnit where
  context     : TripContext
  active      : Bool
  start       : Time
  timer       : Option Time
  quiet       : Option Time
  trackAB     : Tracker
  trackBC     : Tracker
  trackCA     : Tracker
  crossings   : List Crossing
  entered     : Nat
  clearances  : Nat
  record      : CatchRecord
  retire      : Nat
  budget      : Budget
  budgetTimer : Option Time
  overdue     : Bool
  deriving DecidableEq, Repr

/-! ## Line Port -/

/-- R174: a discrete input's sample. -/
structure Sample where
  asserted : Bool
  time     : Time
  deriving DecidableEq, Repr

/-- R176: the latest status word. -/
structure StatusWord where
  driveFreq  : Half
  driveAngle : Half
  encFreq    : Half
  time       : Time
  deriving DecidableEq, Repr

/-- Table 10-3: one 12-bit slot of the release record. -/
structure RecordSlot where
  active : Bool
  offset : BitVec 11
  deriving DecidableEq, Repr

/-- Table 10-3: a release record. Its CRC is computed when its bytes are taken. -/
structure ReleaseRecord where
  valid    : Bool
  mode     : PlanMode
  epoch    : Half
  revision : Byte
  digest   : Half
  counts   : Abc Nat
  thetaAB  : Nat
  thetaBC  : Nat
  thetaCA  : Nat
  fraction : Nat
  outcome  : CatchOutcome
  freq     : Half
  angle    : Option Half
  slots    : List RecordSlot
  deriving DecidableEq, Repr

/-- R176: a transfer in progress. -/
structure Transfer where
  clocked  : Nat
  lsi      : List Bool
  lsoIndex : Nat
  high     : Bool
  lastFall : Time
  snapshot : ReleaseRecord
  changed  : Bool
  deriving DecidableEq, Repr

/-- R180: the STEP the line station queues for an entry to ARMING, whole. -/
structure StepDecision where
  code     : Byte
  revision : Byte
  digest   : Half
  reason   : Byte
  deriving DecidableEq, Repr

/-- The Line Port (Table 10-1, R85). -/
structure Port where
  runReq        : Option Sample
  brakeOpen     : Option Sample
  dir           : Option Sample
  overhaul      : Option Sample
  slowZone      : Option Sample
  driveTrip     : Option Sample
  faultRst      : Option Sample
  faultCount    : Byte
  status        : Option StatusWord
  record        : ReleaseRecord
  presented     : Option ReleaseRecord
  switchPending : Option SwitchBlock
  transfer      : Option Transfer
  rready        : Bool
  switchPulse   : Option Time
  stepDecision  : Option StepDecision
  lastMark      : Half
  deriving DecidableEq, Repr

end Sys2Proof.Machine
end

