-- ==== Sys2Proof/Machine/Codes.lean ====
section
/-! DEFINITION. The codes of the names (Tables 1-2, 2-1, 6-3, 9-9, 10-3), the fault classes by name, what Table 1-2 allows,
and the numbering of cells, stations and roster indices (R1). -/

namespace Sys2Proof.Machine

/-- Table 2-1: the phase code. -/
def Phase.code : Phase → Byte
  | .joining => 0 | .halted => 1 | .settling => 2 | .planning => 3 | .catching => 4 | .arming => 5 | .running => 6
  | .revising => 7 | .tripped => 8 | .lockout => 9 | .isolated => 10

/-- Table 2-1: the phase of a code; none above 10 (R166). -/
def Phase.ofCode (b : Byte) : Option Phase :=
  if b = 0 then some .joining else if b = 1 then some .halted else if b = 2 then some .settling
  else if b = 3 then some .planning else if b = 4 then some .catching else if b = 5 then some .arming
  else if b = 6 then some .running else if b = 7 then some .revising else if b = 8 then some .tripped
  else if b = 9 then some .lockout else if b = 10 then some .isolated else none

/-- RUNNING or REVISING: the phases in which the drive modulates. -/
def Phase.drives (p : Phase) : Bool := p == .running || p == .revising

/-- JOINING or ISOLATED: the phases outside the drive. -/
def Phase.outside (p : Phase) : Bool := p == .joining || p == .isolated

/-- Table 1-2: the condition code. -/
def Condition.code : Condition → BitVec 4
  | .live => 0 | .resting => 1 | .faulted => 2 | .bypassed => 3 | .silent => 4

/-- Table 1-2: the condition of a code; none above 4 (R16). -/
def Condition.ofCode (b : BitVec 4) : Option Condition :=
  if b = 0 then some .live else if b = 1 then some .resting else if b = 2 then some .faulted
  else if b = 3 then some .bypassed else if b = 4 then some .silent else none

namespace FaultClass
/-- Table 6-3. -/
def none : FaultClass := 0
/-- Table 6-3. -/
def bridge : FaultClass := 1
/-- Table 6-3. -/
def cell : FaultClass := 2
/-- Table 6-3. -/
def linkHigh : FaultClass := 3
/-- Table 6-3. -/
def bypass : FaultClass := 4
/-- Table 6-3. -/
def linkLow : FaultClass := 5
/-- Table 6-3. -/
def heat : FaultClass := 6
/-- Table 6-3. -/
def supply : FaultClass := 7
/-- Table 6-3. -/
def input : FaultClass := 8
/-- Table 6-3. -/
def isolation : FaultClass := 9
/-- Table 6-3. -/
def silent : FaultClass := 10
/-- Table 6-3. -/
def drive : FaultClass := 11
/-- Table 6-3. -/
def line : FaultClass := 12
/-- Table 6-3. -/
def refused : FaultClass := 13
end FaultClass

/-- A fault class as a byte of a frame. -/
def FaultClass.byte (c : FaultClass) : Byte := c.setWidth 8

/-- Table 9-8: the reason NO_RUN of a STEP REFUSED. -/
def reasonNoRun : Byte := 16

/-- Table 9-8: the STEP code ARMED. -/
def stepArmed : Byte := 1

/-- Table 9-8: the STEP code REFUSED. -/
def stepRefused : Byte := 2

/-- Table 1-2: the classes a condition may carry. -/
def classAllowed : Condition → FaultClass → Bool
  | .live, k => k == 0
  | .resting, k => k == 5 || k == 6 || k == 7 || k == 8 || k == 9 || k == 13
  | .faulted, k => k == 1 || k == 2 || k == 3 || k == 4
  | .bypassed, k => k == 1 || k == 2 || k == 3 || k == 4
  | .silent, k => k == 0

/-- Table 1-2: the one source a condition may carry. -/
def sourceOf : Condition → Source
  | .silent => .observer
  | _ => .owner

/-- R5: the entry lies inside Table 1-2. -/
def entryAllowed (c : Condition) (src : Source) (k : FaultClass) : Bool := classAllowed c k && src == sourceOf c

/-- Table 9-9: the outcome code of a catch block, and of a release record with 0 for NONE (Table 10-3). -/
def CatchOutcome.code : CatchOutcome → Byte
  | .none => 0 | .caught => 1 | .carried => 2 | .cold => 3 | .standstill => 4 | .failed => 5 | .expired => 6

/-- Table 9-9: the outcome of a catch block's code; none outside 1 to 6 (R166). -/
def CatchOutcome.ofCode (b : Byte) : Option CatchOutcome :=
  if b = 1 then some .caught else if b = 2 then some .carried else if b = 3 then some .cold
  else if b = 4 then some .standstill else if b = 5 then some .failed else if b = 6 then some .expired else none

/-- R1: the station number of the cell at position `k` of phase `p`. -/
def stationOfCell (p k : Nat) : Nat := 9 * p + k

/-- R1: the roster index of the cell at position `k` of phase `p`, with `n` cells per phase. -/
def indexOfCell (n p k : Nat) : Nat := p * n + k

/-- R64: the phase of a roster index. -/
def phaseOfIndex (n i : Nat) : Nat := (i - 1) / n

/-- R64: the position of a roster index. -/
def posOfIndex (n i : Nat) : Nat := i - phaseOfIndex n i * n

/-- R4 note 2: the station number of the owner of a roster index. -/
def stationOfIndex (n i : Nat) : Nat := stationOfCell (phaseOfIndex n i) (posOfIndex n i)

/-- One of the three phases' values, by phase number. -/
def Abc.get {α : Type} (x : Abc α) (p : Nat) : α := if p = 0 then x.a else if p = 1 then x.b else x.c

/-- A function applied to each phase's value. -/
def Abc.map {α β : Type} (f : α → β) (x : Abc α) : Abc β := ⟨f x.a, f x.b, f x.c⟩

/-- R186: the command a first byte names; none for any other value. -/
def portCommandOf (b : Byte) : Option PortCommand :=
  if b = 1 then some .readImage
  else if b = 2 then some .readWorking
  else if b = 3 then some .status
  else if b = 4 then some .write
  else none

end Sys2Proof.Machine
end

