-- ==== Sys2Proof/Machine/Frame.lean ====
section
/-! DEFINITION. Frames on the medium: the envelope and the layouts (R163 to R165, Tables 9-4 to 9-9), written and read, and
the examination of a transmission (R146, R147). -/

namespace Sys2Proof.Machine

/-- The kind of a payload (Table 9-1). -/
def Payload.kind : Payload → Kind
  | .alarm _ _ _ => .alarm
  | .step _ _ _ _ => .step
  | .line _ => .line
  | .state _ => .state
  | .summary _ => .summary

/-- Table 9-1: the rank of a kind. -/
def Kind.rank : Kind → Nat
  | .alarm => 0 | .step => 1 | .line => 2 | .state => 3 | .summary => 3

/-- Table 9-1: the kind and rank byte. -/
def Kind.byte : Kind → Byte
  | .alarm => 0x10 | .step => 0x21 | .line => 0x32 | .state => 0x43 | .summary => 0x53

/-- Table 9-1: the kind of a kind and rank byte; none for any other value (R163). -/
def Kind.ofByte (b : Byte) : Option Kind :=
  if b = 0x10 then some .alarm else if b = 0x21 then some .step else if b = 0x32 then some .line
  else if b = 0x43 then some .state else if b = 0x53 then some .summary else none

/-- The lead-in byte (R146). -/
def leadIn : Byte := 0xD5

/-! ## Writing -/

/-- Table 9-5. -/
def StatePayload.bytes (p : StatePayload) : List Byte :=
  [p.phase, BitVec.ofBool p.planPresent ++ BitVec.ofBool p.lineLost ++ 0#6] ++ bytesOfHalf p.rosterDigest
    ++ [p.planRev] ++ bytesOfHalf p.planDigest ++ bytesOfHalf p.cfgDigest

/-- Table 9-6: the four bytes of an entry. -/
def SummaryItem.bytes (e : SummaryItem) : List Byte :=
  [e.cond ++ 0#3 ++ BitVec.ofBool e.owner, 0#4 ++ e.cls] ++ bytesOfHalf e.version

/-- Table 9-9: the catch block's bytes. -/
def CatchBlock.bytes (c : CatchBlock) : List Byte := c.outcome :: bytesOfHalf c.freq

/-- Table 9-9: the switch block's bytes. -/
def SwitchBlock.bytes (w : SwitchBlock) : List Byte := w.rev :: (bytesOfHalf w.mark ++ bytesOfHalf w.digest)

/-- Table 9-9: the flags byte. -/
def LinePayload.flags (l : LinePayload) : Byte :=
  BitVec.ofBool l.runReq ++ BitVec.ofBool l.brakeOpen ++ BitVec.ofBool l.dir ++ BitVec.ofBool l.overhaul
    ++ BitVec.ofBool l.slowZone ++ BitVec.ofBool l.driveTrip ++ 0#2

/-- Table 9-9; the catch block comes first when both are present (R165). -/
def LinePayload.bytes (l : LinePayload) : List Byte :=
  bytesOfHalf l.mark ++ [l.flags, l.faultCount] ++ bytesOfHalf l.encFreq ++ bytesOfHalf l.driveFreq
    ++ bytesOfHalf l.driveAngle
    ++ (match l.catchBlock with | some c => c.bytes | none => [])
    ++ (match l.switchBlock with | some w => w.bytes | none => [])

/-- Tables 9-5 to 9-9: the payload's bytes. -/
def Payload.bytes : Payload → List Byte
  | .alarm o c p => [o, c, p]
  | .step c r d w => [c, r] ++ bytesOfHalf d ++ [w]
  | .line l => l.bytes
  | .state p => p.bytes
  | .summary es => BitVec.ofNat 8 es.length :: es.flatMap SummaryItem.bytes

/-- Table 9-4, offsets 0 to 4 + L: header and payload. -/
def Frame.body (f : Frame) : List Byte :=
  [f.station, f.payload.kind.byte, BitVec.ofNat 8 f.payload.bytes.length] ++ bytesOfHalf f.epoch ++ f.payload.bytes

/-- R163: header, payload and CRC. -/
def Frame.bytes (f : Frame) : List Byte := f.body ++ bytesOfHalf (crc f.body)

/-- R146: a bit as its cell on the medium: a 1 is light then dark, a 0 dark then light. -/
def cellOfBit (b : Bool) : BitCell := ⟨b, !b⟩

/-- R146: the transmission of a frame: the lead-in, then the frame, most significant bits first. -/
def Frame.transmission (f : Frame) : Transmission := (bitsOfBytes (leadIn :: f.bytes)).map cellOfBit

/-- R146: how long a frame occupies the medium, (L + 8) × 0.8 µs, in whole microseconds. -/
def Frame.duration (f : Frame) : Time := (f.payload.bytes.length + 8) * 4 / 5

/-! ## Reading -/

/-- Table 9-6: entries of four bytes; none when the bytes do not come out even. -/
def readItems : List Byte → Option (List SummaryItem)
  | [] => some []
  | b0 :: b1 :: v1 :: v0 :: rest =>
    match readItems rest with
    | some es => some (⟨b0.extractLsb' 4 4, b0.getLsbD 0, b1.extractLsb' 0 4, halfOfBytes v1 v0⟩ :: es)
    | none => none
  | _ => none

/-- R165: the counts a SUMMARY may carry: a multiple of 3 from 9 to 27. -/
def summaryCount (n : Nat) : Bool := decide (9 ≤ n) && decide (n ≤ 27) && decide (n % 3 = 0)

/-- Table 9-9: the optional blocks, by what follows offset 9. -/
def readBlocks : List Byte → Option (Option CatchBlock × Option SwitchBlock)
  | [] => some (none, none)
  | [o, f1, f0] => some (some ⟨o, halfOfBytes f1 f0⟩, none)
  | [r, m1, m0, d1, d0] => some (none, some ⟨r, halfOfBytes m1 m0, halfOfBytes d1 d0⟩)
  | [o, f1, f0, r, m1, m0, d1, d0] =>
    some (some ⟨o, halfOfBytes f1 f0⟩, some ⟨r, halfOfBytes m1 m0, halfOfBytes d1 d0⟩)
  | _ => none

/-- Tables 9-5 to 9-9: a payload of a kind; none when its length is not one the kind allows (R165). -/
def readPayload : Kind → List Byte → Option Payload
  | .alarm, [o, c, p] => some (.alarm o c p)
  | .step, [c, r, d1, d0, w] => some (.step c r (halfOfBytes d1 d0) w)
  | .state, [p, fl, g1, g0, r, d1, d0, k1, k0] =>
    some (.state ⟨p, fl.getLsbD 7, fl.getLsbD 6, halfOfBytes g1 g0, r, halfOfBytes d1 d0, halfOfBytes k1 k0⟩)
  | .line, m1 :: m0 :: fl :: fc :: e1 :: e0 :: v1 :: v0 :: a1 :: a0 :: rest =>
    match readBlocks rest with
    | some (cb, sb) =>
      some (.line ⟨halfOfBytes m1 m0, fl.getLsbD 7, fl.getLsbD 6, fl.getLsbD 5, fl.getLsbD 4, fl.getLsbD 3,
        fl.getLsbD 2, fc, halfOfBytes e1 e0, halfOfBytes v1 v0, halfOfBytes a1 a0, cb, sb⟩)
    | none => none
  | .summary, n :: rest =>
    if summaryCount n.toNat then
      match readItems rest with
      | some es => if es.length = n.toNat then some (.summary es) else none
      | none => none
    else none
  | _, _ => none

/-- R147: the receive checks on the bytes after the lead-in: CRC, kind and rank, length, station number. -/
def readFrame : List Byte → Option Frame
  | st :: kb :: lb :: e1 :: e0 :: rest =>
    let payload := rest.take lb.toNat
    let check := rest.drop lb.toNat
    if check = bytesOfHalf (crc ([st, kb, lb, e1, e0] ++ payload)) ∧ payload.length = lb.toNat ∧ st.toNat ≤ 27 then
      match Kind.ofByte kb with
      | some k =>
        match readPayload k payload with
        | some p => some ⟨st, halfOfBytes e1 e0, p⟩
        | none => none
      | none => none
    else none
  | _ => none

/-- R146: the bit of a cell: 1 for light then dark, 0 for dark then light. None for a violation (light in both halves), whose
transmission R147 discards. R146's table gives a cell dark in both halves no bit, it is no violation either, and R147 does
not say how it is assembled: none as well, so that its transmission is discarded (DESIGN CHOICE, unsafe: log 57). -/
def bitOfCell? (c : BitCell) : Option Bool := if c.first = c.second then none else some c.first

/-- R146, R147: the bits of a transmission; none when it holds a violation or a cell dark in both halves (log 57). -/
def bitsOfCells? : Transmission → Option (List Bool)
  | [] => some []
  | c :: rest =>
    match bitOfCell? c, bitsOfCells? rest with
    | some b, some bs => some (b :: bs)
    | _, _ => none

/-- R147: the examination of a transmission at its end: coding (log 57), whole bytes, lead-in, then the receive
checks. -/
def examine (x : Transmission) : Option Frame :=
  match bitsOfCells? x with
  | some bits =>
    match bytesOfBits? bits with
    | some (l :: bs) => if l = leadIn then readFrame bs else none
    | _ => none
  | none => none

/-- The frame of a transmission when it is valid and of the kind named. -/
def examineKind (k : Kind) (x : Transmission) : Option Frame :=
  match examine x with
  | some f => if f.payload.kind = k then some f else none
  | none => none

/-- A frame the part can send: its station number is one of 0 to 27 and a SUMMARY's count is one the drive can have
(Table 9-1). -/
def Frame.wf (f : Frame) : Bool :=
  decide (f.station.toNat ≤ 27) &&
  match f.payload with
  | .summary es => summaryCount es.length
  | _ => true

end Sys2Proof.Machine
end

