-- ==== Sys2Proof/Machine/Params.lean ====
section
/-! DEFINITION. The parameter image: its layout and defaults (Table 11-1), validity (R182) and the config digest (R183). -/

namespace Sys2Proof.Machine

/-- Table 11-1: the parameters. Times are in the units of the table. -/
structure Params where
  cells       : Nat
  minLive     : Nat
  balance     : Nat
  minFraction : Nat
  report      : Nat
  quietLimit  : Nat
  isolate     : Nat
  drop        : Nat
  dwell       : Nat
  contact     : Nat
  settle      : Nat
  agree       : Nat
  arm         : Nat
  catchTime   : Nat
  budget      : Nat
  contextLife : Nat
  catchFloor  : Nat
  catchTol    : Nat
  coldLimit   : Nat
  rounds      : Nat
  window      : Nat
  resettle    : Nat
  rest        : Nat
  lead        : Nat
  revise      : Nat
  persist     : Nat
  softMask    : Byte
  linkLow     : Nat
  armLow      : Nat
  armHigh     : Nat
  tripHigh    : Nat
  supplyLow   : Nat
  heatHigh    : Nat
  inputLow    : Nat
  deriving DecidableEq, Repr

/-- Table 11-1: one-byte parameter at an offset. -/
def param1 (bs : List Byte) (i : Nat) : Nat := (byteAt bs i).toNat

/-- Table 11-1: two-byte parameter at an offset, most significant byte first. -/
def param2 (bs : List Byte) (i : Nat) : Nat := (halfAt bs i).toNat

/-- Table 11-1: the parameters an image or working copy holds. -/
def Params.ofBytes (bs : List Byte) : Params where
  cells       := param1 bs 0
  minLive     := param1 bs 1
  balance     := param1 bs 2
  minFraction := param2 bs 3
  report      := param1 bs 5
  quietLimit  := param1 bs 6
  isolate     := param2 bs 7
  drop        := param1 bs 9
  dwell       := param1 bs 10
  contact     := param1 bs 11
  settle      := param2 bs 12
  agree       := param2 bs 14
  arm         := param1 bs 16
  catchTime   := param2 bs 17
  budget      := param2 bs 19
  contextLife := param2 bs 21
  catchFloor  := param2 bs 23
  catchTol    := param1 bs 25
  coldLimit   := param2 bs 26
  rounds      := param1 bs 28
  window      := param2 bs 29
  resettle    := param1 bs 31
  rest        := param2 bs 32
  lead        := param1 bs 34
  revise      := param2 bs 35
  persist     := param1 bs 37
  softMask    := byteAt bs 38
  linkLow     := param2 bs 39
  armLow      := param2 bs 41
  armHigh     := param2 bs 43
  tripHigh    := param2 bs 45
  supplyLow   := param2 bs 47
  heatHigh    := param2 bs 49
  inputLow    := param2 bs 51

/-- `lo ≤ v ≤ hi`. -/
def within (lo hi v : Nat) : Bool := decide (lo ≤ v) && decide (v ≤ hi)

/-- R182, Table 11-1: every parameter lies within its range (MIN_LIVE's upper end is CELLS). -/
def Params.inRange (p : Params) : Bool :=
  within 3 9 p.cells && within 2 p.cells p.minLive && within 0 1 p.balance && within 300 1000 p.minFraction
  && within 1 20 p.report && within 3 8 p.quietLimit && within 10 400 p.isolate && within 10 200 p.drop
  && within 5 100 p.dwell && within 10 200 p.contact && within 20 500 p.settle && within 20 500 p.agree
  && within 10 200 p.arm && within 50 1000 p.catchTime && within 200 5000 p.budget && within 20 500 p.contextLife
  && within 20 300 p.catchFloor && within 1 25 p.catchTol && within 50 1000 p.coldLimit && within 1 8 p.rounds
  && within 10 600 p.window && within 1 8 p.resettle && within 1 600 p.rest && within 2 16 p.lead
  && within 20 500 p.revise && within 1 8 p.persist && p.softMask.extractLsb' 4 4 == 0#4
  && within 0 1000 p.linkLow && within 0 1000 p.armLow && within 0 1000 p.armHigh && within 0 1000 p.tripHigh
  && within 0 1000 p.supplyLow && within 0 1000 p.heatHigh && within 0 1000 p.inputLow

/-- R182: the relations between parameters that are checked, and no other. -/
def Params.related (p : Params) : Bool :=
  decide (p.minLive ≤ p.cells) && decide (2 * p.quietLimit * p.report ≤ p.isolate) && decide (p.catchTime < p.budget)
  && decide (p.linkLow < p.armLow) && decide (p.armLow < p.armHigh) && decide (p.armHigh < p.tripHigh)

/-- R183: the config digest, the CRC over offsets 0 to 61. -/
def configDigest (bs : List Byte) : Half := crc (bs.take 62)

/-- R182: the working copy is valid. -/
def imageValid (bs : List Byte) : Bool :=
  decide (configDigest bs = halfAt bs 62) && ((bs.drop 53).take 9).all (· == 0#8)
  && (Params.ofBytes bs).inRange && (Params.ofBytes bs).related

/-- R182, R135: the parameters a station acts on. An invalid copy uses the defaults of Table 11-1 for REPORT, QUIET_LIMIT
and ISOLATE, and 60 ms for CONTACT. -/
def Params.effective (valid : Bool) (bs : List Byte) : Params :=
  if valid then Params.ofBytes bs
  else { Params.ofBytes bs with report := 5, quietLimit := 4, isolate := 40, contact := 60 }

/-- Table 11-1: the default values of offsets 0 to 61. -/
def defaultBody : List Byte :=
  [6, 4, 0] ++ bytesOfHalf 500 ++ [5, 4] ++ bytesOfHalf 40 ++ [40, 20, 60] ++ bytesOfHalf 100 ++ bytesOfHalf 60 ++ [40]
  ++ bytesOfHalf 250 ++ bytesOfHalf 1500 ++ bytesOfHalf 120 ++ bytesOfHalf 50 ++ [8] ++ bytesOfHalf 200 ++ [3]
  ++ bytesOfHalf 60 ++ [3] ++ bytesOfHalf 30 ++ [4] ++ bytesOfHalf 80 ++ [3, 0x02]
  ++ bytesOfHalf 600 ++ bytesOfHalf 820 ++ bytesOfHalf 940 ++ bytesOfHalf 980 ++ bytesOfHalf 700 ++ bytesOfHalf 850
  ++ bytesOfHalf 700 ++ [0, 0, 0, 0, 0, 0, 0, 0, 0]

/-- R181: the image a new part is delivered with: the defaults and a correct CRC. -/
def defaultImage : List Byte := defaultBody ++ bytesOfHalf (crc defaultBody)

end Sys2Proof.Machine
end

