-- ==== Sys2Proof/Machine/Init.lean ====
section
/-! DEFINITION. The reset values of every block, from the last column of each chapter's state table. -/

namespace Sys2Proof.Machine

/-- Table 8-2. -/
def HeardEntry.init : HeardEntry := ⟨.never, none, none, none⟩

/-- The BIF after a reset at time `now` (R146, R151, R152, R156, R158, R160). -/
def Bif.init (now : Time) (report : Time) : Bif where
  queue      := []
  attempt    := none
  quietStart := some now
  heard      := List.replicate Config.stations HeardEntry.init
  echoMisses := 0
  duplicate  := false
  isoClock   := now
  nextTick   := now + report
  resetAt    := now

/-- R7: a roster entry after a reset at time `now`. -/
def RosterEntry.init (now : Time) : RosterEntry := ⟨.silent, .observer, 0, 0, now⟩

/-- Table 9-6, R25: the four bytes an entry contributes to a SUMMARY and to the roster digest. -/
def RosterEntry.item (e : RosterEntry) : SummaryItem := ⟨e.cond.code, e.source == .owner, e.cls, e.version⟩

/-- R25: the digest of a roster table. -/
def rosterDigestOf (es : List RosterEntry) : Half := crc (es.flatMap fun e => e.item.bytes)

/-- R4, R7: the Roster Unit after a reset: 3N entries, or none and digest 0000h with an invalid working copy. -/
def Roster.init (now : Time) (valid : Bool) (n : Nat) : Roster where
  entries      := if valid then List.replicate (3 * n) (RosterEntry.init now) else []
  digest       := if valid then rosterDigestOf (List.replicate (3 * n) (RosterEntry.init now)) else 0
  digestChange := now
  mismatch     := []
  answerSent   := false
  answerOwed   := false
  diff         := List.replicate Config.stations 0
  authority    := false

/-- Table 2-5. -/
def LineFacts.init : LineFacts := ⟨false, true, false, none, none, none⟩

/-- Table 2-2. -/
def Round.init : Round where
  epoch        := 0
  phase        := .joining
  resettle     := 0
  attempts     := []
  tripTime     := none
  armed        := []
  early        := []
  refusal      := .none
  tripRound    := false
  deferred     := false
  runDemand    := false
  facts        := LineFacts.init
  lineLost     := false
  linePresent  := false
  lockoutClear := none
  phaseTimer   := none
  joinLeft     := Config.joinTicks
  mismatchFlag := false
  firstTaken   := false

/-- R60: empty tallies. -/
def Tallies.init : Tallies := ⟨⟨[], [], []⟩, []⟩

/-- Table 3-1, Table 4-1. -/
def PlanUnit.init : PlanUnit where
  build        := .none
  candidate    := none
  cursor       := 1
  tallies      := Tallies.init
  walkEnd      := 0
  inForce      := none
  switchRecord := none

/-- Table 6-2: an empty result slot. -/
def Slot.init : Slot := ⟨0, false, false⟩

/-- Table 6-2. -/
def Scanner.init : Scanner where
  first    := 0
  last     := 3
  mode     := .single
  standing := .tick
  activity := none
  pending  := none
  slots    := [Slot.init, Slot.init, Slot.init, Slot.init]

/-- Table 6-4. -/
def Watch.init : Watch where
  tripHigh    := 0
  linkLow     := 0
  heat        := 0
  supply      := 0
  input       := 0
  passSeen    := false
  latch       := []
  leading     := FaultClass.none
  rest        := .stopped
  inBand      := 0
  check       := .idle
  sentArmed   := false
  sentRefused := false
  armRequest  := none
  bridgeFlt   := none
  cellFlt     := none

/-- Table 7-1. -/
def Bypass.init : Bypass where
  state       := .closed
  hold        := false
  contact     := none
  gateOff     := none
  pending     := none
  feedback    := none
  coilRelease := none

/-- Table 5-1: every field EMPTY. -/
def TripContext.init : TripContext where
  capture     := none
  sampleTime  := 0
  driveFreq   := 0
  driveAngle  := 0
  encFreq     := 0
  statusTag   := .empty
  dir         := false
  dirTag      := .empty
  overhauling := false
  overhaulTag := .empty
  brakeOpen   := false
  brakeTag    := .empty
  planTag     := .empty

/-- Table 5-1. -/
def Tracker.init : Tracker := ⟨none, 0, 0⟩

/-- R101 step 3: a catch record with outcome NONE. -/
def CatchRecord.blank (e : Option Half) : CatchRecord := ⟨e, .none, 0, none, 0, false⟩

/-- Table 5-1. -/
def CatchUnit.init : CatchUnit where
  context     := TripContext.init
  active      := false
  start       := 0
  timer       := none
  quiet       := none
  trackAB     := Tracker.init
  trackBC     := Tracker.init
  trackCA     := Tracker.init
  crossings   := []
  entered     := 0
  clearances  := 0
  record      := CatchRecord.blank none
  retire      := 0
  budget      := .idle
  budgetTimer := none
  overdue     := false

/-- Table 10-3: an inactive slot. -/
def RecordSlot.init : RecordSlot := ⟨false, 0⟩

/-- R177: a cleared record: valid flag clear and every other field 0. -/
def ReleaseRecord.cleared : ReleaseRecord where
  valid    := false
  mode     := .shift
  epoch    := 0
  revision := 0
  digest   := 0
  counts   := ⟨0, 0, 0⟩
  thetaAB  := 0
  thetaBC  := 0
  thetaCA  := 0
  fraction := 0
  outcome  := .none
  freq     := 0
  angle    := none
  slots    := List.replicate 27 RecordSlot.init

/-- Table 10-1. -/
def Port.init : Port where
  runReq        := none
  brakeOpen     := none
  dir           := none
  overhaul      := none
  slowZone      := none
  driveTrip     := none
  faultRst      := none
  faultCount    := 0
  status        := none
  record        := ReleaseRecord.cleared
  presented     := none
  switchPending := none
  transfer      := none
  rready        := false
  switchPulse   := none
  stepDecision  := none
  lastMark      := 0

/-- R185: the role of a strap. -/
def strapRole (x : Straps) : Role := if x.roleHigh then .line else .cell

/-- R181, R182, R183, R185: the store after a power-on reset whose load ended at `now`, RESET# being low or high. -/
def Store.powerOn (now : Time) (image : List Byte) (x : Straps) (low : Bool) : Store where
  image      := image
  working    := image
  valid      := imageValid image
  digest     := configDigest image
  differs    := false
  write      := none
  role       := strapRole x
  ph         := x.ph
  pos        := x.pos
  resetLow   := low
  freeSince  := now
  portAccess := none
  portOut    := []

/-- R184, R187: the store at the end of a pin reset: the working copy, a write in progress and the port are kept. -/
def Store.pinReset (st : Store) (x : Straps) : Store :=
  { st with
    valid := imageValid st.working, digest := configDigest st.working, differs := decide (st.image ≠ st.working)
    role := strapRole x, ph := x.ph, pos := x.pos, resetLow := false }

/-- R184: the Bypass Controller from the start of a pin reset: where BYPASS_HOLD was high it falls 10 µs later, or when an
earlier pin reset already has it fall. -/
def Bypass.inReset (now : Time) (b : Bypass) : Bypass :=
  if b.hold then
    { Bypass.init with hold := true, coilRelease := some (b.coilRelease.getD (now + Config.gateOffWait)) }
  else Bypass.init

/-- R184: the Bypass Controller at the end of a pin reset: its reset values beside a coil still to fall. -/
def Bypass.afterPinReset (b : Bypass) : Bypass :=
  { Bypass.init with hold := b.coilRelease.isSome, coilRelease := b.coilRelease }

end Sys2Proof.Machine
end

