-- ==== Sys2Proof/Machine/State.lean ====
section
/-! DEFINITION. The state of one LW418 station: its blocks, its local time, its supply and the commands that wait. Plain
data: no field has a function type. -/

namespace Sys2Proof.Machine

/-- The state of the station (INVENTORY.md, State). -/
structure State where
  now       : Time
  powered   : Bool
  freeCount : Nat
  bus       : Bif
  roster    : Roster
  round     : Round
  plan      : PlanUnit
  scanner   : Scanner
  store     : Store
  watch     : Watch
  bypass    : Bypass
  catcher   : CatchUnit
  port      : Port
  pending   : List Instr
  deriving DecidableEq, Repr

/-- Reasons a step could stop with a fault. The LW418 has none: no event of the spec stops the part. -/
inductive Fault where
  /-- Raised by no meaning; it stands so that the type has a name to give. Safe: a fault makes no claim. -/
  | unused
  deriving DecidableEq, Repr

/-- Reasons a step could be refused. -/
inductive Refusal where
  /-- Raised by an arm of `exec` whose command has no meaning yet. Safe: a refusal makes no claim. -/
  | notModelled (mnemonic : String)
  deriving DecidableEq, Repr

/-- Every block at its reset value beside a given store and bypass controller (R7, R28, R60, R80, R98, R116, R122, R135,
R173): the reset ended at `now`. -/
def State.afterReset (now : Time) (st : Store) (b : Bypass) (free : Nat) (queue : List Instr) : State where
  now       := now
  powered   := true
  freeCount := free
  bus       := Bif.init now (ms (Params.effective st.valid st.working).report)
  roster    := Roster.init now st.valid (Params.effective st.valid st.working).cells
  round     := Round.init
  plan      := PlanUnit.init
  scanner   := Scanner.init
  store     := st
  watch     := Watch.init
  bypass    := b
  catcher   := CatchUnit.init
  port      := Port.init
  pending   := queue

/-- The station acts: it has its supply and no pin reset is in force (R184). -/
def State.runs (s : State) : Bool := s.powered && !s.store.resetLow

/-- The straps of `State.reset`: cell A1 (DESIGN CHOICE, unsafe: log 4). -/
def State.resetStraps : Straps := ⟨false, 0, 1⟩

/-- The machine right after a power-on reset of a new part (R181, R184), strapped as cell A1, RESET# high, at local
time 0, with no command waiting (log 4). -/
def State.reset : State :=
  State.afterReset 0 (Store.powerOn 0 defaultImage State.resetStraps false) Bypass.init 0 []

end Sys2Proof.Machine
end

