-- ==== Sys2Proof/Machine/Ops.lean ====
section
/-! DEFINITION. Operations shared by the blocks: block updates, the clock, the parameters in force, who the station is, the
heard table and the voters (R31), and the transmit queue (R152 to R155). -/

namespace Sys2Proof.Machine

/-! ## Block updates -/

/-- The state with its Bus Interface changed. -/
def State.onBus (f : Bif → Bif) (s : State) : State := { s with bus := f s.bus }
/-- The state with its Roster Unit changed. -/
def State.onRoster (f : Roster → Roster) (s : State) : State := { s with roster := f s.roster }
/-- The state with its Round Controller changed. -/
def State.onRound (f : Round → Round) (s : State) : State := { s with round := f s.round }
/-- The state with its Plan Unit changed. -/
def State.onPlan (f : PlanUnit → PlanUnit) (s : State) : State := { s with plan := f s.plan }
/-- The state with its Sense Scanner changed. -/
def State.onScanner (f : Scanner → Scanner) (s : State) : State := { s with scanner := f s.scanner }
/-- The state with its Parameter Store changed. -/
def State.onStore (f : Store → Store) (s : State) : State := { s with store := f s.store }
/-- The state with its Cell Watch changed. -/
def State.onWatch (f : Watch → Watch) (s : State) : State := { s with watch := f s.watch }
/-- The state with its Bypass Controller changed. -/
def State.onBypass (f : Bypass → Bypass) (s : State) : State := { s with bypass := f s.bypass }
/-- The state with its Catch Unit changed. -/
def State.onCatcher (f : CatchUnit → CatchUnit) (s : State) : State := { s with catcher := f s.catcher }
/-- The state with its Line Port changed. -/
def State.onPort (f : Port → Port) (s : State) : State := { s with port := f s.port }

/-- A change made only when a condition holds. -/
def State.when (c : Bool) (f : State → State) (s : State) : State := if c then f s else s

/-! ## Parameters and the station itself -/

/-- The parameters the station acts on (R182). -/
def State.params (s : State) : Params := Params.effective s.store.valid s.store.working

/-- REPORT as a duration. -/
def State.report (s : State) : Time := ms s.params.report

/-- QUIET_LIMIT report periods as a duration. -/
def State.quietTime (s : State) : Time := s.params.quietLimit * s.report

/-- The station has the line role. -/
def State.isLine (s : State) : Bool := s.store.role == .line

/-- The station has the cell role. -/
def State.isCell (s : State) : Bool := s.store.role == .cell

/-- R1, R185: the station's own number, also when unfitted (log 28). -/
def State.number (s : State) : Nat :=
  match s.store.role with
  | .line => 0
  | .cell => stationOfCell s.store.ph.toNat s.store.pos.toNat

/-- R185: the station's address is fitted; with an invalid working copy only a POS above 9 is unfitted by its size. -/
def State.fitted (s : State) : Bool :=
  match s.store.role with
  | .line => true
  | .cell =>
    decide (s.store.ph.toNat ≠ 3) && decide (s.store.pos.toNat ≠ 0)
      && decide (s.store.pos.toNat ≤ if s.store.valid then s.params.cells else 9)

/-- R8: the roster index of the own entry; none at the line station, at an unfitted cell station and with an invalid
working copy, which holds no roster. -/
def State.ownIndex (s : State) : Option Nat :=
  if s.isCell && s.fitted && s.store.valid then
    some (indexOfCell s.params.cells s.store.ph.toNat s.store.pos.toNat)
  else none

/-- The roster entry at an index, 1 to 3N. -/
def State.entryAt (s : State) (i : Nat) : RosterEntry := s.roster.entries.getD (i - 1) (RosterEntry.init 0)

/-- The own roster entry, when the station owns one. -/
def State.ownEntry (s : State) : Option RosterEntry := s.ownIndex.map s.entryAt

/-- The condition of the own entry is `c`. -/
def State.ownCond (s : State) (c : Condition) : Bool :=
  match s.ownEntry with
  | some e => e.cond == c
  | none => false

/-! ## The heard table and the voters -/

/-- The heard-table entry of a station number. -/
def State.heardAt (s : State) (n : Nat) : HeardEntry := s.bus.heard.getD n HeardEntry.init

/-- R157: the status an entry's age calls for. -/
def heardStatusOf (now report quietTime : Time) (e : HeardEntry) : HeardStatus :=
  match e.lastHeard with
  | none => .never
  | some t =>
    if now - t < 2 * report then .heard
    else if now - t < quietTime then .quiet
    else .silent

/-- R157: an entry with its status brought to its age. -/
def HeardEntry.aged (now report quietTime : Time) (e : HeardEntry) : HeardEntry :=
  { e with status := heardStatusOf now report quietTime e }

/-- The local time moved on to the time of an event (never back: log 1), and the heard statuses with it, which change at
the moment an age reaches its threshold (R157, log 27). -/
def State.advance (t : Time) (s : State) : State :=
  { s with
    now := max s.now t
    bus := { s.bus with heard := s.bus.heard.map (HeardEntry.aged (max s.now t) s.report s.quietTime) } }

/-- R31: the latest STATE of a station makes it a voter: young enough, in the drive, and of the same configuration. -/
def State.isVoter (s : State) (n : Nat) : Bool :=
  decide (n ≠ s.number) &&
  match (s.heardAt n).state with
  | some h => decide (s.now - h.time < s.quietTime) && !h.phase.outside && h.cfgDigest == s.store.digest
  | none => false

/-- R31: the voter set, rising. -/
def State.voters (s : State) : List Nat := (List.range Config.stations).filter s.isVoter

/-- Every voter's latest STATE meets a test. -/
def State.everyVoter (s : State) (p : HeardState → Bool) : Bool :=
  s.voters.all fun n =>
    match (s.heardAt n).state with
    | some h => p h
    | none => false

/-- R32: the line station's presence; always met at the line station. -/
def State.present (s : State) : Bool := s.isLine || s.isVoter 0

/-! ## The transmit queue -/

/-- R155: sending is barred. -/
def State.barred (s : State) : Bool :=
  s.round.phase == .isolated || s.bus.duplicate || !s.fitted
    || (s.round.phase == .joining && decide (0 < s.round.joinLeft))

/-- The kind of a queued frame. -/
def QBody.kind : QBody → Kind
  | .alarm _ _ _ => .alarm
  | .step _ _ _ _ => .step
  | .line _ => .line
  | .state => .state
  | .summary => .summary

/-- R152: the rank of a queued frame. -/
def QFrame.rank (f : QFrame) : Nat := f.body.kind.rank

/-- R153: STATE, SUMMARY and LINE are single-copy kinds. -/
def Kind.single : Kind → Bool
  | .state => true | .summary => true | .line => true | .alarm => false | .step => false

/-- R152: a new frame waiting in the queue. -/
def QFrame.fresh (b : QBody) (now : Time) : QFrame := ⟨b, now, 0, false, none⟩

/-- R152: a frame placed behind every frame of its rank or better. -/
def insertByRank (f : QFrame) : List QFrame → List QFrame
  | [] => [f]
  | g :: rest => if g.rank ≤ f.rank then g :: insertByRank f rest else f :: g :: rest

/-- R153: the held frame of a single-copy kind taken up by a new frame: replaced in place when waiting, marked renewed when
in an attempt. -/
def QFrame.takeUp (b : QBody) (g : QFrame) : QFrame :=
  if g.body.kind = b.kind then
    if g.inAttempt then { g with renewed := some b } else { g with body := b, collisions := 0 }
  else g

/-- R154: the worst rank present, the highest rank number among held frames not in an attempt. -/
def worstRank (q : List QFrame) : Nat := ((q.filter fun g => !g.inAttempt).map QFrame.rank).foldl max 0

/-- R154: the most recently queued held frame of a rank, not in an attempt, discarded: the last such frame of the queue. -/
def dropNewest (rank : Nat) (q : List QFrame) : List QFrame :=
  (q.reverse.eraseP fun g => !g.inAttempt && g.rank == rank).reverse

/-- R152 to R154: a frame joins the queue. -/
def enqueueFrame (now : Time) (b : QBody) (q : List QFrame) : List QFrame :=
  if b.kind.single && q.any (fun g => g.body.kind == b.kind) then q.map (QFrame.takeUp b)
  else if q.length < Config.queueCapacity then insertByRank (QFrame.fresh b now) q
  else if b.kind != .alarm && decide (worstRank q ≤ b.kind.rank) then q
  else if q.any (fun g => !g.inAttempt && g.body.kind != .alarm) then
    insertByRank (QFrame.fresh b now) (dropNewest (worstRank q) q)
  else q

/-- R152, R155: a block queues a frame; refused while sending is barred. -/
def State.enqueue (b : QBody) (s : State) : State :=
  if s.barred then s else s.onBus fun u => { u with queue := enqueueFrame s.now b u.queue }

/-- R158: the station's STATE is queued. -/
def State.queueState (s : State) : State := s.enqueue .state

/-- R26: a SUMMARY is queued on a cause of the Roster Unit other than an answer; in JOINING and ISOLATED for no cause.
Queueing it clears the answer-owed flag (R24). -/
def State.queueSummary (s : State) : State :=
  if s.round.phase.outside then s
  else (s.enqueue .summary).onRoster fun r => { r with answerOwed := false }

/-- R155: on entry to a barred state the queue is emptied and an attempt stopped as at a collision, the medium quiet from
then (log 7). -/
def Bif.emptied (now : Time) (u : Bif) : Bif :=
  { u with queue := [], attempt := none, quietStart := if u.attempt.isSome then some now else u.quietStart }

/-- R155: the queue emptied. -/
def State.emptyQueue (s : State) : State := s.onBus (Bif.emptied s.now)

/-- R132, R180: STEP frames that have not begun transmission are withdrawn, one that waits for its retry after a collision
too (log 51). -/
def State.withdrawSteps (s : State) : State :=
  s.onBus fun u => { u with queue := u.queue.filter fun g => g.inAttempt || g.body.kind != .step }

/-! ## Roles -/

/-- R73: the carrier offset of a position by its place in a phase's active list; none outside the list. -/
def offsetAt (positions offsets : List Nat) (k : Nat) : Option Nat :=
  ((positions.zip offsets).find? fun x => x.1 == k).map Prod.snd

/-- R78: the own cell's role in a plan, an active cell's with its carrier offset (R73 gives every place of the list one). -/
def roleInPlan (ph pos : Nat) (p : Plan) : CellRole :=
  match p.body with
  | some b =>
    if (b.active.get ph).contains pos then .active ((offsetAt (b.active.get ph) (b.offsets.get ph) pos).getD 0)
    else if b.spares.contains ⟨ph, pos⟩ then .spare
    else .out
  | none => .out

/-- R78: the own cell's role in the plan in force. -/
def State.cellRole (s : State) : CellRole :=
  match s.plan.inForce with
  | some p => roleInPlan s.store.ph.toNat s.store.pos.toNat p
  | none => .none

/-- A level as last sampled: asserted; an input not sampled since the reset reads deasserted. -/
def sampledAsserted : Option Sample → Bool
  | some x => x.asserted
  | none => false

/-- R173: the latest status word when it is current: younger than 2 report periods. -/
def State.currentWord (s : State) : Option StatusWord :=
  match s.port.status with
  | some w => if s.now - w.time < 2 * s.report then some w else none
  | none => none

end Sys2Proof.Machine
end

