-- ==== Sys2Proof/Machine/Flags.lean ====
section
/-! DEFINITION. The outputs and flags that follow from the state: GATE_EN (R143), RELEASE, LOCKOUT, REVISE and SWITCH
(R179), LSO (R176), the status byte (R186) and the light on BTX (R146, R149). Every output but BYPASS_HOLD is low while a
reset is in force (R184). -/

namespace Sys2Proof.Machine

/-- R143: GATE_EN. -/
def State.gateEn (s : State) : Bool :=
  s.runs && s.isCell && s.round.phase.drives && s.cellRole.isActive && s.bypass.state == .opened
    && s.watch.latch.isEmpty

/-- BYPASS_HOLD (R135). -/
def State.bypassHold (s : State) : Bool := s.bypass.hold

/-- R179: RELEASE. -/
def State.release (s : State) : Bool :=
  s.runs && s.isLine && s.round.phase.drives && s.plan.inForce.isSome

/-- R179: the LOCKOUT output. -/
def State.lockoutOut (s : State) : Bool := s.runs && s.isLine && s.round.phase == .lockout

/-- R179: REVISE. -/
def State.reviseOut (s : State) : Bool := s.runs && s.isLine && s.port.switchPending.isSome

/-- R179: SWITCH. -/
def State.switchOut (s : State) : Bool := s.runs && s.isLine && s.port.switchPulse.isSome

/-- R178: RREADY. -/
def State.rreadyOut (s : State) : Bool := s.runs && s.isLine && s.port.rready

/-- R173: the record on LSO. -/
def Port.onLso (p : Port) : ReleaseRecord := p.presented.getD p.record

/-- Table 10-3: a slot's 12 bits. -/
def RecordSlot.bits (x : RecordSlot) : List Bool :=
  x.active :: [x.offset.getLsbD 10, x.offset.getLsbD 9, x.offset.getLsbD 8, x.offset.getLsbD 7, x.offset.getLsbD 6,
    x.offset.getLsbD 5, x.offset.getLsbD 4, x.offset.getLsbD 3, x.offset.getLsbD 2, x.offset.getLsbD 1,
    x.offset.getLsbD 0]

/-- A number as a 16-bit field of the release record. -/
def recordHalf (n : Nat) : List Byte := bytesOfHalf (BitVec.ofNat 16 n)

/-- Table 10-3, offset 0: the flags. -/
def ReleaseRecord.flags (r : ReleaseRecord) : Byte :=
  BitVec.ofBool r.valid ++ BitVec.ofBool (r.mode == .trim) ++ BitVec.ofBool r.angle.isSome ++ 0#5

/-- Table 10-3, offsets 0 to 62. -/
def ReleaseRecord.body (r : ReleaseRecord) : List Byte :=
  [r.flags] ++ bytesOfHalf r.epoch ++ [r.revision] ++ bytesOfHalf r.digest
    ++ [BitVec.ofNat 8 r.counts.a, BitVec.ofNat 8 r.counts.b, BitVec.ofNat 8 r.counts.c]
    ++ recordHalf r.thetaAB ++ recordHalf r.thetaBC ++ recordHalf r.thetaCA ++ recordHalf r.fraction
    ++ [r.outcome.code] ++ bytesOfHalf r.freq ++ bytesOfHalf (r.angle.getD 0)
    ++ wholeBytes (r.slots.flatMap RecordSlot.bits ++ [false, false, false, false])

/-- Table 10-3: the 65 bytes of a record, its CRC last (also of a cleared record: log 17). -/
def ReleaseRecord.bytes (r : ReleaseRecord) : List Byte := r.body ++ bytesOfHalf (crc r.body)

/-- R176: bit `i` of a record as it is shifted out; low after the last. -/
def ReleaseRecord.bit (r : ReleaseRecord) (i : Nat) : Bool := (bitsOfBytes r.bytes).getD i false

/-- R176: the level of LSO. -/
def State.lso (s : State) : Bool :=
  s.runs && s.isLine &&
  match s.port.transfer with
  | some t => t.snapshot.bit t.lsoIndex
  | none => s.port.onLso.bit 0

/-- R186: the status byte. -/
def State.statusByte (s : State) : Byte :=
  0b100#3 ++ BitVec.ofBool s.bus.duplicate ++ BitVec.ofBool s.round.mismatchFlag ++ BitVec.ofBool (!s.fitted)
    ++ BitVec.ofBool s.store.valid ++ BitVec.ofBool s.store.differs

/-- R146, R149: what the transmitter sends in the attempt in progress; dark without one. -/
def State.btx (s : State) : Transmission :=
  match s.bus.attempt with
  | some a => if s.runs then a.frame.transmission else []
  | none => []

end Sys2Proof.Machine
end

