-- ==== Sys2Proof/Machine/Operands.lean ====
section
/-! DEFINITION. What the operands of the commands come to: whether a timer is due, how much of a programming-port access is
taken (R186), the bytes a read returns, and the value of a conversion (Table 6-2). -/

namespace Sys2Proof.Machine

/-- A timer or deadline that runs and has been reached. -/
def due (now : Time) : Option Time → Bool
  | some d => decide (d ≤ now)
  | none => false

/-- R186: WP# is low at the beginning of an access. -/
def wpLowAtFirst : WpPin → Bool
  | .low => true
  | .high => false
  | .rises _ => true

/-- R186: an access taken as a command `c`: at its beginning WP# is low, no write is in progress and the load is over, and
its first byte is the command's. -/
def Store.takes (c : PortCommand) (a : Access) (st : Store) : Bool :=
  st.write.isNone && decide (st.freeSince ≤ a.began) && wpLowAtFirst a.wp && portCommandOf a.command == some c

/-- R186: how many of `count` bytes a taken read returns; none from the rise of WP# onward. -/
def bytesReturned (wp : WpPin) (count : Nat) : Nat :=
  match wp with
  | .low => count
  | .high => 0
  | .rises n => min n count

/-- R186: a READ's bytes from an offset of 0 to 63, wrapping after 63. -/
def readBytes (bs : List Byte) (offset count : Nat) : List Byte :=
  (List.range count).map fun j => byteAt bs ((offset + j) % 64)

/-- Log 8: the free bytes a READ from an offset above 63 returns. -/
def freeBytes (seed count : Nat) : List Byte := (List.range count).map fun j => Config.portByte (seed + j)

/-- R187: the offset and data of a WRITE access that is well formed: an offset, 1 to 8 whole data bytes, no trailing part
byte, and no byte past offset 63. -/
def writeOperands (bytes : List Byte) (trailing : Bool) : Option (Nat × List Byte) :=
  match bytes with
  | [] => none
  | o :: data =>
    if 1 ≤ data.length ∧ data.length ≤ 8 ∧ trailing = false ∧ o.toNat + data.length ≤ 64 then some (o.toNat, data)
    else none

/-- Table 6-2: a conversion's result lies in 0 to 1000 (log 20). -/
def senseValue (v : Nat) : Nat := min v 1000

end Sys2Proof.Machine
end

