-- ==== Sys2Proof/Machine/RecordOps.lean ====
section
/-! DEFINITION. The Line Port's operations: the release record (R177), RREADY (R178), the status word and the transfer (R176),
and the filtered inputs (R174). -/

namespace Sys2Proof.Machine

/-! ## The record on LSO -/

/-- R178: a change of the port's records; a change of the content on LSO sets RREADY and marks a transfer in progress. -/
def State.changeRecord (f : Port → Port) (s : State) : State :=
  s.onPort fun p =>
    if (f p).onLso = p.onLso then f p
    else { f p with rready := true, transfer := (f p).transfer.map fun t => { t with changed := true } }

/-- Table 10-3 note 1: the slot of one cell of a phase: active with the carrier offset of its place in the active list. -/
def slotOf (positions offsets : List Nat) (k : Nat) : RecordSlot :=
  match offsetAt positions offsets k with
  | some o => ⟨true, BitVec.ofNat 11 o⟩
  | none => RecordSlot.init

/-- Table 10-3: the nine slots of a phase, by position. -/
def phaseSlots (positions offsets : List Nat) : List RecordSlot :=
  (List.range 9).map fun j => slotOf positions offsets (j + 1)

/-- R177, Table 10-3: the record of a plan with a given catch part. A plan of no body (never adopted, R76) gives a cleared
record. -/
def recordOf (p : Plan) (outcome : CatchOutcome) (freq : Half) (angle : Option Half) : ReleaseRecord :=
  match p.body with
  | some b =>
    { valid := true, mode := p.mode, epoch := p.epoch, revision := p.revision, digest := b.digest, counts := p.counts,
      thetaAB := b.thetaAB, thetaBC := b.thetaBC, thetaCA := b.thetaCA, fraction := b.fraction, outcome := outcome,
      freq := freq, angle := angle,
      slots := phaseSlots b.active.a b.offsets.a ++ phaseSlots b.active.b b.offsets.b
        ++ phaseSlots b.active.c b.offsets.c }
  | none => ReleaseRecord.cleared

/-- R177: the record of a plan with the catch part of another record. -/
def recordWithCatchOf (p : Plan) (r : ReleaseRecord) : ReleaseRecord := recordOf p r.outcome r.freq r.angle

/-- R177: the record in force cleared, at the line station. -/
def State.clearRecord (s : State) : State :=
  s.when s.isLine (State.changeRecord fun p => { p with record := ReleaseRecord.cleared })

/-- R177: the record in force built at adoption at plan agreement, its catch part NONE, 0 and absent. -/
def State.buildRecord (p : Plan) (s : State) : State :=
  s.when s.isLine (State.changeRecord fun q => { q with record := recordOf p .none 0 none })

/-- R84 step 3, R177: the presented record of a candidate, with the catch part of the record in force. -/
def State.presentRecord (p : Plan) (s : State) : State :=
  s.changeRecord fun q => { q with presented := some (recordWithCatchOf p q.record) }

/-- R85, R90, R93: switch pending cleared and the presented record withdrawn. -/
def State.withdrawSwitch (s : State) : State :=
  (s.changeRecord fun q => { q with presented := none }).onPort fun q => { q with switchPending := none }

/-- R87, R177: at the line station's own mark frame the presented record becomes the record in force (built from the plan
when none is held: log 33), SWITCH is pulsed and switch pending cleared. -/
def State.switchRecords (p : Plan) (s : State) : State :=
  (s.changeRecord fun q =>
    { q with record := q.presented.getD (recordWithCatchOf p q.record), presented := none }).onPort fun q =>
      { q with switchPulse := some (s.now + Config.switchPulse), switchPending := none }

/-! ## The serial link -/

/-- R176: a transfer begun at the first rising edge of LSCK. -/
def Transfer.begun (now : Time) (lsi : Bool) (snapshot : ReleaseRecord) : Transfer :=
  ⟨1, [lsi], 0, true, now, snapshot, false⟩

/-- R176: a rising edge within a transfer samples LSI. -/
def Transfer.rise (lsi : Bool) (t : Transfer) : Transfer :=
  if t.high then t else { t with clocked := t.clocked + 1, lsi := t.lsi ++ [lsi], high := true }

/-- R176: a falling edge within a transfer moves LSO to the next bit of the snapshot. -/
def Transfer.fall (now : Time) (t : Transfer) : Transfer :=
  if t.high then { t with lsoIndex := t.lsoIndex + 1, high := false, lastFall := now } else t

/-- R176: the transfer ends: LSCK has stayed low for 10 µs. -/
def Transfer.ended (now : Time) (t : Transfer) : Bool := !t.high && decide (t.lastFall + Config.transferIdle ≤ now)

/-- R176, Table 10-2: the status word of the bytes received, when there are 8 and their CRC is right. -/
def statusWordOf (now : Time) : List Byte → Option StatusWord
  | v1 :: v0 :: a1 :: a0 :: e1 :: e0 :: c1 :: c0 :: _ =>
    if crc [v1, v0, a1, a0, e1, e0] = halfOfBytes c1 c0 then
      some ⟨halfOfBytes v1 v0, halfOfBytes a1 a0, halfOfBytes e1 e0, now⟩
    else none
  | _ => none

/-- R176, R178: the end of a transfer: the status word is taken, RREADY clears after a whole read of an unchanged record. -/
def Port.endTransfer (now : Time) (t : Transfer) (p : Port) : Port :=
  { p with
    transfer := none
    status := (statusWordOf now (wholeBytes t.lsi)).or p.status
    rready := p.rready && !(decide (Config.recordBits ≤ t.clocked) && !t.changed) }

/-! ## The discrete inputs -/

/-- R174: the sample of an input. -/
def Port.sample (i : LineInput) (p : Port) : Option Sample :=
  match i with
  | .runReq => p.runReq
  | .brakeOpen => p.brakeOpen
  | .dir => p.dir
  | .overhaul => p.overhaul
  | .slowZone => p.slowZone
  | .driveTrip => p.driveTrip
  | .faultRst => p.faultRst

/-- R174: the sample of an input replaced. -/
def Port.setSample (i : LineInput) (x : Sample) (p : Port) : Port :=
  match i with
  | .runReq => { p with runReq := some x }
  | .brakeOpen => { p with brakeOpen := some x }
  | .dir => { p with dir := some x }
  | .overhaul => { p with overhaul := some x }
  | .slowZone => { p with slowZone := some x }
  | .driveTrip => { p with driveTrip := some x }
  | .faultRst => { p with faultRst := some x }

/-- R174: a sample's time renewed, its level kept. -/
def renewSample (now : Time) (x : Option Sample) : Option Sample := x.map fun x => { x with time := now }

/-- R174: every sample's time renewed at a report tick. -/
def Port.renewSamples (now : Time) (p : Port) : Port :=
  { p with
    runReq := renewSample now p.runReq, brakeOpen := renewSample now p.brakeOpen, dir := renewSample now p.dir
    overhaul := renewSample now p.overhaul, slowZone := renewSample now p.slowZone
    driveTrip := renewSample now p.driveTrip, faultRst := renewSample now p.faultRst }

end Sys2Proof.Machine
end

