-- ==== Sys2Proof/Machine/ScannerOps.lean ====
section
/-! DEFINITION. The Sense Scanner's operations (R117 to R121). -/

namespace Sys2Proof.Machine

/-- R118: a pass over the scan range that starts at a moment. -/
def Scanner.startPass (now : Time) (c : Scanner) : Scanner :=
  { c with activity := some ⟨c.first, now, now + Config.conversionTime⟩ }

/-- R118, R119: a trigger: starts a pass when idle, is held when none is held, and is lost otherwise; every trigger is lost
in CONTINUOUS mode. -/
def Scanner.trigger (now : Time) (t : Trigger) (c : Scanner) : Scanner :=
  match c.mode, c.activity, c.pending with
  | .single, none, _ => c.startPass now
  | .single, some _, none => { c with pending := some t }
  | .single, some _, some _ => c
  | .continuous, _, _ => c

/-- R121: a forced stop. -/
def Scanner.forcedStop (c : Scanner) : Scanner := { c with activity := none, pending := none }

/-- R117: the pairs of mode and standing trigger that the scanner accepts, over a range in order. -/
def settingsAccepted (first last : Nat) (mode : ScanMode) (standing : Standby) : Bool :=
  decide (first ≤ last) && decide (last ≤ 3) &&
  match mode, standing with
  | .single, .tick => true
  | .continuous, .free => true
  | _, _ => false

/-- R117: a settings change: refused, or accepted after a forced stop; CONTINUOUS starts a pass at once. -/
def Scanner.request (now : Time) (first last : Nat) (mode : ScanMode) (standing : Standby) (c : Scanner) : Scanner :=
  if settingsAccepted first last mode standing then
    let c := { c.forcedStop with first := first, last := last, mode := mode, standing := standing }
    match mode with
    | .single => c
    | .continuous => c.startPass now
  else c

/-- R111 step 3: the default line mode, SINGLE over CH0 to CH3 on TICK; a scanner already there is left as it is
(log 29). -/
def Scanner.toDefault (now : Time) (c : Scanner) : Scanner :=
  match c.mode with
  | .continuous => c.request now 0 3 .single .tick
  | .single => c

/-- R120: a result stored in a slot. -/
def Slot.store (v : Nat) (x : Slot) : Slot := ⟨v, true, x.overrun || x.fresh⟩

/-- R120: a slot taken: both flags clear. -/
def Slot.take (x : Slot) : Slot := { x with fresh := false, overrun := false }

/-- The slot of a channel. -/
def Scanner.slot (c : Scanner) (ch : Nat) : Slot := c.slots.getD ch Slot.init

/-- R120: a result stored in a channel's slot. -/
def Scanner.storeSlot (ch v : Nat) (c : Scanner) : Scanner :=
  { c with slots := setAt c.slots ch ((c.slot ch).store v) }

/-- R120: a channel's slot taken. -/
def Scanner.takeSlot (ch : Nat) (c : Scanner) : Scanner := { c with slots := setAt c.slots ch (c.slot ch).take }

/-- R120: every slot taken. -/
def Scanner.takeAll (c : Scanner) : Scanner := { c with slots := c.slots.map Slot.take }

/-- R118, R119: the scanner past the end of the conversion of channel `ch`: the next channel, or after a pass end the
pending trigger's pass, the next repeated pass, or IDLE. -/
def Scanner.moveOn (now : Time) (a : Activity) (c : Scanner) : Scanner :=
  if a.channel < c.last then
    { c with activity := some ⟨a.channel + 1, a.passStart, now + Config.conversionTime⟩ }
  else
    match c.mode, c.pending with
    | .continuous, _ => c.startPass now
    | .single, some _ => ({ c with pending := none }).startPass now
    | .single, none => { c with activity := none }

end Sys2Proof.Machine
end

