-- ==== Sys2Proof/Machine/CatchOps.lean ====
section
/-! DEFINITION. The Catch Unit's operations (R98 to R115): the trip context, the catch and its crossings, its evaluation and
its end, the budget, and the catch part of the release record. All of them are the line station's. -/

namespace Sys2Proof.Machine

/-! ## Ending and abandoning a catch -/

/-- R111 step 2: the catch's timers stopped and its state IDLE. -/
def CatchUnit.stopped (c : CatchUnit) : CatchUnit := { c with timer := none, quiet := none, active := false }

/-- R111 step 1: the outcome written into the record of an epoch, the used flag clear. -/
def CatchUnit.decide (e : Half) (o : CatchOutcome) (f : Int) (angle : Option Half) (t : Time) (c : CatchUnit) :
    CatchUnit :=
  { c with record := ⟨some e, o, f, angle, t, false⟩ }

/-- R111: a catch ends with an outcome. Where the angle is absent the angle time is the moment of the end (log 44). -/
def State.endCatch (o : CatchOutcome) (f : Int) (angle : Option Half) (t : Time) (s : State) : State :=
  (s.onCatcher fun c => (c.decide s.round.epoch o f angle t).stopped).onScanner (Scanner.toDefault s.now)

/-- R110: a catch still ACTIVE is abandoned: no outcome is set. -/
def State.abandonCatch (s : State) : State :=
  s.when (s.isLine && s.catcher.active) fun s =>
    (s.onCatcher CatchUnit.stopped).onScanner (Scanner.toDefault s.now)

/-- R112: the catch record is of the current epoch and holds a given outcome. -/
def State.recordHolds (o : CatchOutcome) (s : State) : Bool :=
  s.catcher.record.epoch == some s.round.epoch && s.catcher.record.outcome == o

/-- R114: outcome EXPIRED set in the record of the current epoch, the angle time kept (log 44); an ACTIVE catch ends with
it. -/
def State.setExpired (s : State) : State :=
  if s.catcher.active then s.endCatch .expired 0 none s.now
  else s.onCatcher fun c =>
    { c with record := { c.record with epoch := some s.round.epoch, outcome := .expired, freq := 0, angle := none } }

/-- R114: the removal of station 0 from the armed set while the overdue flag is set. -/
def State.overdueExpiry (s : State) : State :=
  s.when (s.isLine && s.catcher.overdue) fun s => (s.setExpired).onCatcher fun c => { c with overdue := false }

/-! ## The budget (R113) -/

/-- Table 5-4: the budget returned to IDLE. -/
def CatchUnit.budgetIdle (c : CatchUnit) : CatchUnit :=
  { c with budget := .idle, budgetTimer := none, overdue := false }

/-- Table 5-4: the budget at an entry to TRIPPED whose context has a given brake-open field; SPENT sets EXPIRED. -/
def CatchUnit.budgetTripped (now budget : Time) (brakeOpen : Bool) (c : CatchUnit) : CatchUnit :=
  match c.budget with
  | .idle => if brakeOpen then { c with budget := .running, budgetTimer := some (now + budget) } else c
  | .running => c
  | .spent => { c with overdue := false, record := { c.record with outcome := .expired } }

/-- R101: the record reset to NONE for an epoch, the retirement count 0. -/
def CatchUnit.resetRecord (e : Half) (c : CatchUnit) : CatchUnit :=
  { c with record := CatchRecord.blank (some e), retire := 0 }

/-! ## The trip context (R99 to R101) -/

/-- R100: a tag by the age of its source. -/
def tagOf (now report : Time) (taken : Option Time) : Tag :=
  match taken with
  | some t => if now - t < 2 * report then .valid else .stale
  | none => .empty

/-- R99, R108: the tag of the pre-trip plan: VALID with a plan in force, but EMPTY for a trip taken during a round, one that
began with a trip, also where the round has adopted a plan (log 52). -/
def State.preTripTag (s : State) : Tag := if s.plan.inForce.isSome && !s.round.tripRound then .valid else .empty

/-- Table 5-2: the trip context as the inputs stand. -/
def State.tripContext (s : State) : TripContext where
  capture     := some s.now
  sampleTime  := (s.port.status.map StatusWord.time).getD 0
  driveFreq   := (s.port.status.map StatusWord.driveFreq).getD 0
  driveAngle  := (s.port.status.map StatusWord.driveAngle).getD 0
  encFreq     := (s.port.status.map StatusWord.encFreq).getD 0
  statusTag   := tagOf s.now s.report (s.port.status.map StatusWord.time)
  dir         := sampledAsserted s.port.dir
  dirTag      := tagOf s.now s.report (s.port.dir.map Sample.time)
  overhauling := sampledAsserted s.port.overhaul
  overhaulTag := tagOf s.now s.report (s.port.overhaul.map Sample.time)
  brakeOpen   := sampledAsserted s.port.brakeOpen
  brakeTag    := tagOf s.now s.report (s.port.brakeOpen.map Sample.time)
  planTag     := s.preTripTag

/-- R99, R101: at the line station's entry to TRIPPED the context is saved, then the restart state is set anew: a catch in
progress abandoned, the crossings and counts cleared, the record reset, the budget handled, the release record cleared. -/
def State.saveContext (s : State) : State :=
  s.when s.isLine fun s =>
    let s := (s.onCatcher fun c => { c with context := s.tripContext }).abandonCatch
    (s.onCatcher fun c =>
      (({ c with crossings := [], entered := 0, clearances := 0 }).resetRecord s.round.epoch).budgetTripped s.now
        (ms s.params.budget) c.context.brakeOpen).clearRecord

/-! ## Starting a catch (R102) -/

/-- R102: the Catch Unit made ACTIVE. -/
def CatchUnit.begin (now catchTime : Time) (c : CatchUnit) : CatchUnit :=
  { c with
    active := true, start := now, timer := some (now + catchTime), quiet := some (now + catchTime / 2)
    trackAB := Tracker.init, trackBC := Tracker.init, trackCA := Tracker.init
    crossings := [], entered := 0, clearances := 0 }

/-- R102: the line station's entry to CATCHING. -/
def State.startCatch (s : State) : State :=
  if s.catcher.record.epoch == some s.round.epoch && s.catcher.record.outcome != .none then s
  else if !sampledAsserted s.port.brakeOpen then s.endCatch .standstill 0 none s.now
  else if sampledAsserted s.port.slowZone then s.endCatch .failed 0 none s.now
  else
    ((s.onScanner Scanner.takeAll).onScanner fun c => c.request s.now 0 2 .continuous .free).onCatcher
      (CatchUnit.begin s.now (ms s.params.catchTime))

/-! ## Samples and crossings (R103, R104) -/

/-- R103: a slot's value as a signed sample. -/
def signedSample (v : Nat) : Int := 2 * ((v : Int) - 500)

/-- R104: the time of a rising crossing between two samples, interpolated and rounded down to the microsecond. -/
def crossingTime (last : Int) (t0 : Time) (new : Int) (t1 : Time) : Time :=
  t0 + ((t1 - t0) * (0 - last).toNat) / (new - last).toNat

/-- R103: a tracker's last sample cleared by a gap, its peak since catch start kept. Its amplitude window of R104 restarts,
after an earlier rising crossing too (log 49). -/
def Tracker.gap (k : Tracker) : Tracker := { k with last := none, peakCross := 0 }

/-- R103, R104: a sample that detects no crossing: the last sample and both peaks. -/
def Tracker.feed (x : Int) (now : Time) (k : Tracker) : Tracker :=
  ⟨some (x, now), max k.peakCross x.natAbs, max k.peakStart x.natAbs⟩

/-- R104: a sample that detects a rising crossing: the peak since the last crossing restarts from it. -/
def Tracker.crossed (x : Int) (now : Time) (k : Tracker) : Tracker :=
  ⟨some (x, now), x.natAbs, max k.peakStart x.natAbs⟩

/-- R104: the rising crossing a sample detects: its time and amplitude. -/
def Tracker.detect (x : Int) (now : Time) (k : Tracker) : Option (Time × Nat) :=
  match k.last with
  | some (l, t0) => if l < 0 ∧ 0 ≤ x then some (crossingTime l t0 x now, max k.peakCross x.natAbs) else none
  | none => none

/-- The tracker of a channel. -/
def CatchUnit.tracker (ch : Nat) (c : CatchUnit) : Tracker :=
  if ch = 0 then c.trackAB else if ch = 1 then c.trackBC else c.trackCA

/-- The tracker of a channel replaced. -/
def CatchUnit.setTracker (ch : Nat) (k : Tracker) (c : CatchUnit) : CatchUnit :=
  if ch = 0 then { c with trackAB := k } else if ch = 1 then { c with trackBC := k } else { c with trackCA := k }

/-- R104: a crossing placed after every held entry of earlier time. -/
def insertCrossing (x : Crossing) : List Crossing → List Crossing
  | [] => [x]
  | y :: rest => if y.time < x.time then y :: insertCrossing x rest else x :: y :: rest

/-- R104: the crossing list keeps the eight latest. -/
def capCrossings (l : List Crossing) : List Crossing := if Config.crossingCapacity < l.length then l.drop 1 else l

/-- R104: a detected crossing of a channel is entered: V_AB or V_BC, at least CATCH_FLOOR, at a time no entry holds. -/
def crossingEnters (ch floor : Nat) (x : Time × Nat) (l : List Crossing) : Bool :=
  decide (ch ≤ 1) && decide (floor ≤ x.2) && !l.any fun y => y.time == x.1

/-- R104: an entry made. -/
def CatchUnit.enter (x : Crossing) (c : CatchUnit) : CatchUnit :=
  { c with crossings := capCrossings (insertCrossing x c.crossings), entered := c.entered + 1 }

/-! ## Evaluation (R105 to R107) -/

/-- The times of a channel's entries, rising. -/
def crossingTimes (ab : Bool) (l : List Crossing) : List Time :=
  (l.filter fun x => x.isAB == ab).map Crossing.time

/-- R105: the three latest V_AB entries and the latest V_BC entry, when the list holds them. -/
def evaluationTimes (l : List Crossing) : Option (Time × Time × Time × Time) :=
  match (crossingTimes true l).reverse, (crossingTimes false l).reverse with
  | t3 :: t2 :: t1 :: _, tb :: _ => some (t1, t2, t3, tb)
  | _, _ => none

/-- R105: the two intervals differ by more than CATCH_TOL percent of the larger. -/
def unsteady (tol i1 i2 : Nat) : Bool := decide (tol * max i1 i2 < 100 * (max i1 i2 - min i1 i2))

/-- R106: the offset d of the latest V_BC entry from the latest V_AB entry, in 0 to P − 1. -/
def phaseOffset (p : Nat) (t3 tb : Time) : Nat := (((tb : Int) - (t3 : Int)) % (p : Int)).toNat

/-- R106: the offset lies within w of `k` thirds of the period, w and the thirds taken as exact fractions (log 50). -/
def withinThird (tol p d k : Nat) : Bool := decide (100 * ((3 * (d : Int)) - k * p).natAbs ≤ 3 * p * tol)

/-- R106: what the offset says of the direction: forward, reverse, undetermined, or both windows at once. -/
inductive PhaseOrder where
  | forward | reverse | undetermined | both
  deriving DecidableEq, Repr

/-- R106: the direction of an offset. -/
def phaseOrder (tol p d : Nat) : PhaseOrder :=
  match withinThird tol p d 1, withinThird tol p d 2 with
  | true, false => .forward
  | false, true => .reverse
  | false, false => .undetermined
  | true, true => .both

/-- R106: the signed frequency of a period. -/
def frequencyOf (p : Nat) (forward : Bool) : Int := if forward then (100000000 / p : Nat) else -((100000000 / p : Nat) : Int)

/-- Two frequencies differ by at most CATCH_TOL percent of the second (R107, R108). -/
def frequencyNear (tol : Nat) (f e : Int) : Bool := decide (100 * (f - e).natAbs ≤ e.natAbs * tol)

/-- R107: the two checks against the drive controller's view, and the outcome. -/
def State.checkCatch (p : Nat) (forward : Bool) (t3 : Time) (s : State) : State :=
  match s.currentWord with
  | some w =>
    if frequencyNear s.params.catchTol (frequencyOf p forward) w.encFreq.toInt && forward == sampledAsserted s.port.dir then
      s.endCatch .caught (frequencyOf p forward) (some 0) t3
    else s.endCatch .failed 0 none s.now
  | none => s.endCatch .failed 0 none s.now

/-- R105, R106: a failed attempt removes the oldest entry of the list. -/
def State.dropOldest (s : State) : State := s.onCatcher fun c => { c with crossings := c.crossings.drop 1 }

/-- R105 to R107: an attempted evaluation. Where both windows of R106 hold the offset the direction is a free value
(log 9). -/
def State.evaluateCatch (s : State) : State :=
  match evaluationTimes s.catcher.crossings with
  | none => s
  | some (t1, t2, t3, tb) =>
    if unsteady s.params.catchTol (t2 - t1) (t3 - t2) then s.dropOldest
    else
      let p := ((t2 - t1) + (t3 - t2)) / 2
      match phaseOrder s.params.catchTol p (phaseOffset p t3 tb) with
      | .forward => s.checkCatch p true t3
      | .reverse => s.checkCatch p false t3
      | .undetermined => s.dropOldest
      | .both =>
        State.checkCatch p (Config.overlapForward s.freeCount) t3 { s with freeCount := s.freeCount + 1 }

/-! ## Taking a sample (R103) -/

/-- R103: a sample that showed OVERRUN: the list is emptied, the last samples cleared, the clearance counted; at the limit
the catch fails, otherwise the sample is the first of its channel after the gap. -/
def State.overrunSample (ch : Nat) (x : Int) (s : State) : State :=
  let s := s.onCatcher fun c =>
    { c with
      crossings := [], trackAB := c.trackAB.gap, trackBC := c.trackBC.gap, trackCA := c.trackCA.gap
      clearances := c.clearances + 1 }
  if Config.clearanceLimit ≤ s.catcher.clearances then s.endCatch .failed 0 none s.now
  else s.onCatcher fun c => c.setTracker ch ((c.tracker ch).feed x s.now)

/-- R104: a sample without OVERRUN: a crossing detected, entered and evaluated, or the peaks alone. -/
def State.plainSample (ch : Nat) (x : Int) (s : State) : State :=
  match (s.catcher.tracker ch).detect x s.now with
  | none => s.onCatcher fun c => c.setTracker ch ((c.tracker ch).feed x s.now)
  | some y =>
    let s := s.onCatcher fun c => c.setTracker ch ((c.tracker ch).crossed x s.now)
    if crossingEnters ch s.params.catchFloor y s.catcher.crossings then
      (s.onCatcher fun c => c.enter ⟨ch == 0, y.1⟩).evaluateCatch
    else s

/-- R103: an ACTIVE catch takes the slot of a channel as its result is stored. -/
def State.takeSample (ch : Nat) (s : State) : State :=
  let x := s.scanner.slot ch
  let s := s.onScanner (Scanner.takeSlot ch)
  if x.overrun then s.overrunSample ch (signedSample x.value) else s.plainSample ch (signedSample x.value)

/-! ## The residual test (R108) -/

/-- R108: the residual voltage is absent. -/
def residualAbsent (floor : Nat) (c : CatchUnit) : Bool :=
  c.entered == 0 && decide (c.trackAB.peakStart < floor) && decide (c.trackBC.peakStart < floor)
    && decide (c.trackCA.peakStart < floor)

/-- R108: the capture lay less than CONTEXT_LIFE before the catch start. -/
def contextYoung (life : Time) (c : CatchUnit) : Bool :=
  match c.context.capture with
  | some t => decide (c.start - t < life)
  | none => false

/-- R108: CARRIED is allowed. -/
def State.carriedAllowed (s : State) : Bool :=
  s.catcher.context.statusTag == .valid && s.catcher.context.planTag == .valid
    && contextYoung (ms s.params.contextLife) s.catcher
    && !s.catcher.context.overhauling && !sampledAsserted s.port.overhaul
    && match s.currentWord with
      | some w => frequencyNear s.params.catchTol w.encFreq.toInt s.catcher.context.encFreq.toInt
      | none => false

/-- R108: the residual test's outcome when the residual voltage is absent. -/
def State.residualOutcome (s : State) : State :=
  if s.carriedAllowed then
    if s.catcher.context.dir == sampledAsserted s.port.dir then
      s.endCatch .carried s.catcher.context.driveFreq.toInt (some s.catcher.context.driveAngle)
        s.catcher.context.sampleTime
    else s.endCatch .failed 0 none s.now
  else
    match s.currentWord with
    | some w =>
      if w.encFreq.toInt.natAbs ≤ s.params.coldLimit then s.endCatch .cold w.encFreq.toInt none s.now
      else s.endCatch .failed 0 none s.now
    | none => s.endCatch .failed 0 none s.now

/-! ## The brake (R109) -/

/-- R109: a brake drop and the catch record; a replaced record keeps its angle time (log 44). -/
def State.brakeDrop (s : State) : State :=
  if s.catcher.active then s.endCatch .standstill 0 none s.now
  else if s.catcher.record.epoch == some s.round.epoch && !s.catcher.record.used
      && (s.catcher.record.outcome == .caught || s.catcher.record.outcome == .carried) then
    s.onCatcher fun c => { c with record := { c.record with outcome := .standstill, freq := 0, angle := none } }
  else s

/-! ## The release angle (R115) -/

/-- R115: the angle extrapolated to an instant. -/
def releaseAngle (a : Half) (f : Int) (delta : Time) : Half :=
  BitVec.ofNat 16 (a.toNat + f.natAbs * delta * 65536 / 100000000)

/-- R115, R177: the catch part the release record is given when RELEASE is asserted (EXPIRED: log 34). -/
def CatchRecord.supply (epoch : Half) (now : Time) (r : CatchRecord) : CatchOutcome × Half × Option Half :=
  if r.epoch == some epoch && !r.used then
    match r.outcome with
    | .caught => (.caught, frequencyField r.freq, r.angle.map fun a => releaseAngle a r.freq (now - r.angleTime))
    | .carried => (.carried, frequencyField r.freq, r.angle.map fun a => releaseAngle a r.freq (now - r.angleTime))
    | .cold => (.cold, frequencyField r.freq, none)
    | .standstill => (.standstill, frequencyField r.freq, none)
    | .failed => (.failed, 0, none)
    | .expired => (.none, 0, none)
    | .none => (.none, 0, none)
  else (.none, 0, none)

/-- R115, R177: RELEASE is asserted: the record in force is given its catch part and the used flag is set. -/
def State.supplyCatch (s : State) : State :=
  let x := s.catcher.record.supply s.round.epoch s.now
  (s.changeRecord fun p => { p with record := { p.record with outcome := x.1, freq := x.2.1, angle := x.2.2 } }).onCatcher
    fun c => { c with record := { c.record with used := true } }

/-! ## The catch block (R112) -/

/-- R112: the catch block of a LINE frame whose transmission begins. -/
def State.catchBlock (s : State) : Option CatchBlock :=
  if s.catcher.record.epoch == some s.round.epoch && s.catcher.record.outcome != .none then
    some ⟨s.catcher.record.outcome.code, frequencyField s.catcher.record.freq⟩
  else none

/-- R112: an attempt of a LINE frame that carries EXPIRED while the retirement count runs, a retry as well (log 43): the count
falls, and at 0 EXPIRED is replaced by FAILED. -/
def State.retireExpired (s : State) : State :=
  s.when (s.recordHolds .expired && decide (0 < s.catcher.retire)) fun s =>
    s.onCatcher fun c =>
      if c.retire = 1 then { c with retire := 0, record := { c.record with outcome := .failed } }
      else { c with retire := c.retire - 1 }

end Sys2Proof.Machine
end

