-- ==== Sys2Proof/Machine/ShiftTable.lean ====
section
/-! DEFINITION. The shift table (R71): 165 rows, one for each sorted triple of counts from 1 to 9, computed outside Lean from
the formulas of R71 with 60-digit arithmetic (DEDUCED: log 18), but for the span of row (6, 6, 4), which the manual lists as
9121 where its formula gives 9120 (log 18). -/

namespace Sys2Proof.Machine

/-- R71: an entry of the shift table. -/
structure ShiftRow where
  x    : Nat
  y    : Nat
  z    : Nat
  xy   : Nat
  yz   : Nat
  zx   : Nat
  span : Nat
  deriving DecidableEq, Repr

/-- R71: the rows whose greatest count is 1. -/
def shiftRows1 : List ShiftRow := [
  ⟨1, 1, 1, 1200, 1200, 1200, 1732⟩]

/-- R71: the rows whose greatest count is 2. -/
def shiftRows2 : List ShiftRow := [
  ⟨2, 1, 1, 900, 1800, 900, 2000⟩, ⟨2, 2, 1, 890, 1355, 1355, 2802⟩, ⟨2, 2, 2, 1200, 1200, 1200, 3464⟩]

/-- R71: the rows whose greatest count is 3. -/
def shiftRows3 : List ShiftRow := [
  ⟨3, 1, 1, 900, 1800, 900, 2000⟩, ⟨3, 2, 1, 791, 1800, 1009, 3000⟩, ⟨3, 2, 2, 1014, 1572, 1014, 3920⟩,
  ⟨3, 3, 1, 792, 1404, 1404, 3824⟩, ⟨3, 3, 2, 989, 1305, 1306, 4560⟩, ⟨3, 3, 3, 1200, 1200, 1200, 5196⟩]

/-- R71: the rows whose greatest count is 4. -/
def shiftRows4 : List ShiftRow := [
  ⟨4, 1, 1, 900, 1800, 900, 2000⟩, ⟨4, 2, 1, 791, 1800, 1009, 3000⟩, ⟨4, 2, 2, 900, 1800, 900, 4000⟩,
  ⟨4, 3, 1, 739, 1800, 1061, 4000⟩, ⟨4, 3, 2, 890, 1645, 1065, 4956⟩, ⟨4, 3, 3, 1082, 1436, 1082, 5700⟩,
  ⟨4, 4, 1, 744, 1428, 1428, 4834⟩, ⟨4, 4, 2, 890, 1355, 1355, 5605⟩, ⟨4, 4, 3, 1040, 1280, 1280, 6306⟩,
  ⟨4, 4, 4, 1200, 1200, 1200, 6928⟩]

/-- R71: the rows whose greatest count is 5. -/
def shiftRows5 : List ShiftRow := [
  ⟨5, 1, 1, 900, 1800, 900, 2000⟩, ⟨5, 2, 1, 791, 1800, 1009, 3000⟩, ⟨5, 2, 2, 900, 1800, 900, 4000⟩,
  ⟨5, 3, 1, 739, 1800, 1061, 4000⟩, ⟨5, 3, 2, 834, 1800, 966, 5000⟩, ⟨5, 3, 3, 936, 1729, 935, 5988⟩,
  ⟨5, 4, 1, 709, 1800, 1091, 5000⟩, ⟨5, 4, 2, 823, 1682, 1095, 5971⟩, ⟨5, 4, 3, 969, 1500, 1131, 6766⟩,
  ⟨5, 4, 4, 1113, 1374, 1113, 7452⟩, ⟨5, 5, 1, 715, 1443, 1442, 5840⟩, ⟨5, 5, 2, 831, 1385, 1384, 6631⟩,
  ⟨5, 5, 3, 949, 1325, 1326, 7367⟩, ⟨5, 5, 4, 1072, 1264, 1264, 8046⟩, ⟨5, 5, 5, 1200, 1200, 1200, 8660⟩]

/-- R71: the rows whose greatest count is 6. -/
def shiftRows6 : List ShiftRow := [
  ⟨6, 1, 1, 900, 1800, 900, 2000⟩, ⟨6, 2, 1, 791, 1800, 1009, 3000⟩, ⟨6, 2, 2, 900, 1800, 900, 4000⟩,
  ⟨6, 3, 1, 739, 1800, 1061, 4000⟩, ⟨6, 3, 2, 834, 1800, 966, 5000⟩, ⟨6, 3, 3, 900, 1800, 900, 6000⟩,
  ⟨6, 4, 1, 709, 1800, 1091, 5000⟩, ⟨6, 4, 2, 791, 1800, 1009, 6000⟩, ⟨6, 4, 3, 864, 1773, 963, 6998⟩,
  ⟨6, 4, 4, 1014, 1572, 1014, 7841⟩, ⟨6, 5, 1, 689, 1800, 1111, 6000⟩, ⟨6, 5, 2, 782, 1705, 1113, 6980⟩,
  ⟨6, 5, 3, 899, 1538, 1163, 7805⟩, ⟨6, 5, 4, 1014, 1428, 1158, 8536⟩, ⟨6, 5, 5, 1131, 1337, 1132, 9196⟩,
  ⟨6, 6, 1, 696, 1452, 1452, 6845⟩, ⟨6, 6, 2, 792, 1404, 1404, 7648⟩, ⟨6, 6, 3, 890, 1355, 1355, 8407⟩,
  ⟨6, 6, 4, 989, 1305, 1306, 9121⟩, ⟨6, 6, 5, 1092, 1254, 1254, 9784⟩, ⟨6, 6, 6, 1200, 1200, 1200, 10392⟩]

/-- R71: the rows whose greatest count is 7. -/
def shiftRows7 : List ShiftRow := [
  ⟨7, 1, 1, 900, 1800, 900, 2000⟩, ⟨7, 2, 1, 791, 1800, 1009, 3000⟩, ⟨7, 2, 2, 900, 1800, 900, 4000⟩,
  ⟨7, 3, 1, 739, 1800, 1061, 4000⟩, ⟨7, 3, 2, 834, 1800, 966, 5000⟩, ⟨7, 3, 3, 900, 1800, 900, 6000⟩,
  ⟨7, 4, 1, 709, 1800, 1091, 5000⟩, ⟨7, 4, 2, 791, 1800, 1009, 6000⟩, ⟨7, 4, 3, 853, 1800, 947, 7000⟩,
  ⟨7, 4, 4, 900, 1800, 900, 8000⟩, ⟨7, 5, 1, 689, 1800, 1111, 6000⟩, ⟨7, 5, 2, 761, 1800, 1039, 7000⟩,
  ⟨7, 5, 3, 818, 1800, 982, 8000⟩, ⟨7, 5, 4, 940, 1615, 1045, 8884⟩, ⟨7, 5, 5, 1056, 1489, 1055, 9632⟩,
  ⟨7, 6, 1, 676, 1800, 1124, 7000⟩, ⟨7, 6, 2, 754, 1720, 1126, 7985⟩, ⟨7, 6, 3, 852, 1564, 1184, 8830⟩,
  ⟨7, 6, 4, 948, 1464, 1188, 9591⟩, ⟨7, 6, 5, 1044, 1385, 1171, 10291⟩, ⟨7, 6, 6, 1143, 1314, 1143, 10935⟩,
  ⟨7, 7, 1, 682, 1459, 1459, 7848⟩, ⟨7, 7, 2, 764, 1418, 1418, 8660⟩, ⟨7, 7, 3, 847, 1376, 1377, 9435⟩,
  ⟨7, 7, 4, 932, 1334, 1334, 10172⟩, ⟨7, 7, 5, 1018, 1291, 1291, 10868⟩, ⟨7, 7, 6, 1108, 1246, 1246, 11520⟩,
  ⟨7, 7, 7, 1200, 1200, 1200, 12124⟩]

/-- R71: the rows whose greatest count is 8. -/
def shiftRows8 : List ShiftRow := [
  ⟨8, 1, 1, 900, 1800, 900, 2000⟩, ⟨8, 2, 1, 791, 1800, 1009, 3000⟩, ⟨8, 2, 2, 900, 1800, 900, 4000⟩,
  ⟨8, 3, 1, 739, 1800, 1061, 4000⟩, ⟨8, 3, 2, 834, 1800, 966, 5000⟩, ⟨8, 3, 3, 900, 1800, 900, 6000⟩,
  ⟨8, 4, 1, 709, 1800, 1091, 5000⟩, ⟨8, 4, 2, 791, 1800, 1009, 6000⟩, ⟨8, 4, 3, 853, 1800, 947, 7000⟩,
  ⟨8, 4, 4, 900, 1800, 900, 8000⟩, ⟨8, 5, 1, 689, 1800, 1111, 6000⟩, ⟨8, 5, 2, 761, 1800, 1039, 7000⟩,
  ⟨8, 5, 3, 818, 1800, 982, 8000⟩, ⟨8, 5, 4, 863, 1800, 937, 9000⟩, ⟨8, 5, 5, 969, 1663, 968, 9928⟩,
  ⟨8, 6, 1, 676, 1800, 1124, 7000⟩, ⟨8, 6, 2, 739, 1800, 1061, 8000⟩, ⟨8, 6, 3, 791, 1800, 1009, 9000⟩,
  ⟨8, 6, 4, 890, 1645, 1065, 9912⟩, ⟨8, 6, 5, 986, 1529, 1085, 10695⟩, ⟨8, 6, 6, 1082, 1436, 1082, 11400⟩,
  ⟨8, 7, 1, 666, 1800, 1134, 8000⟩, ⟨8, 7, 2, 733, 1731, 1136, 8988⟩, ⟨8, 7, 3, 818, 1582, 1200, 9848⟩,
  ⟨8, 7, 4, 900, 1490, 1210, 10629⟩, ⟨8, 7, 5, 982, 1418, 1200, 11357⟩, ⟨8, 7, 6, 1066, 1355, 1179, 12038⟩,
  ⟨8, 7, 7, 1152, 1297, 1151, 12672⟩, ⟨8, 8, 1, 672, 1464, 1464, 8850⟩, ⟨8, 8, 2, 744, 1428, 1428, 9669⟩,
  ⟨8, 8, 3, 816, 1392, 1392, 10456⟩, ⟨8, 8, 4, 890, 1355, 1355, 11210⟩, ⟨8, 8, 5, 964, 1318, 1318, 11929⟩,
  ⟨8, 8, 6, 1040, 1280, 1280, 12612⟩, ⟨8, 8, 7, 1119, 1241, 1240, 13255⟩, ⟨8, 8, 8, 1200, 1200, 1200, 13856⟩]

/-- R71: the rows whose greatest count is 9. -/
def shiftRows9 : List ShiftRow := [
  ⟨9, 1, 1, 900, 1800, 900, 2000⟩, ⟨9, 2, 1, 791, 1800, 1009, 3000⟩, ⟨9, 2, 2, 900, 1800, 900, 4000⟩,
  ⟨9, 3, 1, 739, 1800, 1061, 4000⟩, ⟨9, 3, 2, 834, 1800, 966, 5000⟩, ⟨9, 3, 3, 900, 1800, 900, 6000⟩,
  ⟨9, 4, 1, 709, 1800, 1091, 5000⟩, ⟨9, 4, 2, 791, 1800, 1009, 6000⟩, ⟨9, 4, 3, 853, 1800, 947, 7000⟩,
  ⟨9, 4, 4, 900, 1800, 900, 8000⟩, ⟨9, 5, 1, 689, 1800, 1111, 6000⟩, ⟨9, 5, 2, 761, 1800, 1039, 7000⟩,
  ⟨9, 5, 3, 818, 1800, 982, 8000⟩, ⟨9, 5, 4, 863, 1800, 937, 9000⟩, ⟨9, 5, 5, 900, 1800, 900, 10000⟩,
  ⟨9, 6, 1, 676, 1800, 1124, 7000⟩, ⟨9, 6, 2, 739, 1800, 1061, 8000⟩, ⟨9, 6, 3, 791, 1800, 1009, 9000⟩,
  ⟨9, 6, 4, 834, 1800, 966, 10000⟩, ⟨9, 6, 5, 916, 1695, 989, 10953⟩, ⟨9, 6, 6, 1014, 1572, 1014, 11762⟩,
  ⟨9, 7, 1, 666, 1800, 1134, 8000⟩, ⟨9, 7, 2, 722, 1800, 1078, 9000⟩, ⟨9, 7, 3, 770, 1800, 1030, 10000⟩,
  ⟨9, 7, 4, 852, 1666, 1082, 10930⟩, ⟨9, 7, 5, 936, 1557, 1107, 11739⟩, ⟨9, 7, 6, 1018, 1473, 1109, 12476⟩,
  ⟨9, 7, 7, 1100, 1400, 1100, 13156⟩, ⟨9, 8, 1, 658, 1800, 1142, 9000⟩, ⟨9, 8, 2, 717, 1740, 1143, 9991⟩,
  ⟨9, 8, 3, 792, 1596, 1212, 10862⟩, ⟨9, 8, 4, 864, 1509, 1227, 11658⟩, ⟨9, 8, 5, 936, 1443, 1221, 12407⟩,
  ⟨9, 8, 6, 1008, 1386, 1206, 13114⟩, ⟨9, 8, 7, 1082, 1334, 1184, 13782⟩, ⟨9, 8, 8, 1158, 1285, 1157, 14408⟩,
  ⟨9, 9, 1, 664, 1468, 1468, 9852⟩, ⟨9, 9, 2, 728, 1436, 1436, 10676⟩, ⟨9, 9, 3, 792, 1404, 1404, 11472⟩,
  ⟨9, 9, 4, 857, 1372, 1371, 12239⟩, ⟨9, 9, 5, 923, 1339, 1338, 12975⟩, ⟨9, 9, 6, 989, 1305, 1306, 13681⟩,
  ⟨9, 9, 7, 1058, 1271, 1271, 14353⟩, ⟨9, 9, 8, 1128, 1236, 1236, 14990⟩, ⟨9, 9, 9, 1200, 1200, 1200, 15588⟩]

/-- R71: the shift table. -/
def shiftTable : List ShiftRow :=
  shiftRows1 ++ shiftRows2 ++ shiftRows3 ++ shiftRows4 ++ shiftRows5 ++ shiftRows6 ++ shiftRows7 ++ shiftRows8 ++ shiftRows9

/-- R71: the entry of a sorted triple. A triple with a count of 0 or above 9 has none and is never looked up (R67); the
function answers zeros for it. -/
def shiftLookup (x y z : Nat) : ShiftRow :=
  (shiftTable.find? fun r => r.x == x && r.y == y && r.z == z).getD ⟨x, y, z, 0, 0, 0, 0⟩

end Sys2Proof.Machine
end

