-- ==== Sys2Proof/Machine/PlanOps.lean ====
section
/-! DEFINITION. The Plan Unit's operations (R60 to R79): starting and restarting a walk, reading an entry, the finishing step,
balancing, the plan digest, the verdict, aging, and what a STATE frame shows. -/

namespace Sys2Proof.Machine

/-! ## Starting, restarting and discarding a walk -/

/-- R62: the revision a joiner builds, from the line station's latest STATE (log 22 where there is none). -/
def State.joinerRevision (s : State) : Byte :=
  match (s.heardAt 0).state with
  | some h => if h.planPresent then h.planRev + 1 else 1
  | none => 1

/-- R62: the revision a candidate is built for. -/
def State.buildRevision (s : State) : Byte :=
  if s.round.phase = .revising then
    match s.plan.inForce with
    | some p => p.revision + 1
    | none => s.joinerRevision
  else 0

/-- R61: a plan record at its walk's start: epoch and revision fixed, the rest unfilled. -/
def Plan.begun (epoch : Half) (revision : Byte) : Plan :=
  ⟨epoch, revision, 0, .shift, ⟨0, 0, 0⟩, none, .wait, []⟩

/-- R63: a walk starts, the cursor at 1 and the tallies empty. -/
def State.startWalk (s : State) : State :=
  s.onPlan fun u =>
    { u with
      build := .walking, candidate := some (Plan.begun s.round.epoch s.buildRevision), cursor := 1
      tallies := Tallies.init }

/-- R66: the candidate discarded, in any build state; the cursor, which R66 leaves open, back at 1 (log 48). -/
def PlanUnit.discard (u : PlanUnit) : PlanUnit :=
  { u with build := .none, candidate := none, cursor := 1, tallies := Tallies.init }

/-- R62: the candidate is current. -/
def State.candidateCurrent (s : State) : Bool :=
  match s.plan.candidate with
  | some c =>
    s.plan.build != .none && c.epoch == s.round.epoch && c.revision == s.buildRevision
      && (s.plan.build != .built || c.sourceDigest == s.roster.digest)
  | none => false

/-- The roster digest has been unchanged for one report period (R43, R63). -/
def State.digestStable (s : State) : Bool := decide (s.roster.digestChange + s.report ≤ s.now)

/-- R63: the walks that an entry to a phase starts. The walk in SETTLING starts at the entry when its moment has passed. -/
def State.walkOnEntry (p : Phase) (s : State) : State :=
  match p with
  | .settling => s.when (s.store.valid && s.plan.build == .none && s.digestStable) State.startWalk
  | .planning => s.when (s.store.valid && !s.candidateCurrent) fun s => (s.onPlan PlanUnit.discard).startWalk
  | .revising => s.when s.store.valid State.startWalk
  | _ => s

/-- R65: an entry change taken by the Plan Unit, against the lowest index it names. -/
def State.planEntryChange (lowest : Nat) (s : State) : State :=
  match s.plan.build with
  | .none => s
  | .walking => if lowest < s.plan.cursor then s.startWalk else s
  | .finishing => s.startWalk
  | .built => s.startWalk

/-! ## Reading an entry (R64) -/

/-- R64: a position added to its phase's list. -/
def addPosition (p k : Nat) (x : Abc (List Nat)) : Abc (List Nat) :=
  if p = 0 then { x with a := x.a ++ [k] } else if p = 1 then { x with b := x.b ++ [k] } else { x with c := x.c ++ [k] }

/-- Table 3-3: an entry read and classified. A SILENT entry is held with its deadline and aged when the walk has ended. -/
def classify (n i : Nat) (ageLimit : Time) (e : RosterEntry) (t : Tallies) : Tallies :=
  match e.cond with
  | .live => { t with live := addPosition (phaseOfIndex n i) (posOfIndex n i) t.live }
  | .resting => t
  | .bypassed => t
  | .silent => { t with pending := t.pending ++ [.silentYoung i (e.silentSince + ageLimit)] }
  | .faulted => { t with pending := t.pending ++ [if e.cls = FaultClass.bypass then .stuckOpen i else .closing i] }

/-- ISOLATE + DROP, the age a SILENT entry must reach (Table 3-4). -/
def State.silenceAge (s : State) : Time := ms (s.params.isolate + s.params.drop)

/-- R64: one read of the walk; past 3N the walk ends, and the source digest is the roster digest then held (R61). -/
def State.walkOne (s : State) : State :=
  let i := s.plan.cursor
  let n := s.params.cells
  s.onPlan fun u =>
    let u := { u with cursor := i + 1, tallies := classify n i s.silenceAge (s.entryAt i) u.tallies }
    if 3 * n < i + 1 then
      { u with
        build := .finishing, walkEnd := s.now
        candidate := u.candidate.map fun c => { c with sourceDigest := s.roster.digest } }
    else u

/-! ## Balancing (R70, R72, R73) -/

/-- R70: three counts with their phases in descending order of count, equal counts in phase order. -/
def sortCounts (c : Abc Nat) : (Nat × Nat) × (Nat × Nat) × (Nat × Nat) :=
  let a := (c.a, 0)
  let b := (c.b, 1)
  let d := (c.c, 2)
  if c.b ≤ c.a then
    if c.c ≤ c.b then (a, b, d) else if c.c ≤ c.a then (a, d, b) else (d, a, b)
  else
    if c.c ≤ c.a then (b, a, d) else if c.c ≤ c.b then (b, d, a) else (d, b, a)

/-- R70: the angle between two phases, given the row and the phases X, Y and Z. -/
def angleBetween (r : ShiftRow) (x y : Nat) (p q : Nat) : Nat :=
  if (p = x ∧ q = y) ∨ (p = y ∧ q = x) then r.xy
  else if p = x ∨ q = x then r.zx
  else r.yz

/-- What balancing gives a plan: counts, angles, span, fraction, active lists and spares. -/
structure Balance where
  counts   : Abc Nat
  thetaAB  : Nat
  thetaBC  : Nat
  thetaCA  : Nat
  span     : Nat
  fraction : Nat
  active   : Abc (List Nat)
  spares   : List CellName
  deriving DecidableEq, Repr

/-- R70: SHIFT. -/
def balanceShift (n : Nat) (live : Abc (List Nat)) : Balance :=
  let counts := live.map List.length
  let (x, y, z) := sortCounts counts
  let r := shiftLookup x.1 y.1 z.1
  { counts := counts
    thetaAB := angleBetween r x.2 y.2 0 1, thetaBC := angleBetween r x.2 y.2 1 2
    thetaCA := angleBetween r x.2 y.2 2 0
    span := r.span, fraction := 1000 * r.span / (1732 * n), active := live, spares := [] }

/-- R72: TRIM. -/
def balanceTrim (n : Nat) (live : Abc (List Nat)) : Balance :=
  let t := min live.a.length (min live.b.length live.c.length)
  { counts := ⟨t, t, t⟩, thetaAB := 1200, thetaBC := 1200, thetaCA := 1200
    span := 1732 * t, fraction := 1000 * t / n, active := live.map (List.take t)
    spares := (live.a.drop t).map (CellName.mk 0) ++ (live.b.drop t).map (CellName.mk 1)
      ++ (live.c.drop t).map (CellName.mk 2) }

/-- R73: the carrier offsets of a phase with `n` active cells, by place. -/
def carrierOffsets (n : Nat) : List Nat := (List.range n).map fun j => j * 2048 / n

/-! ## The plan digest (R74) -/

/-- Table 3-6: mode. -/
def PlanMode.byte : PlanMode → Byte
  | .shift => 0
  | .trim => 1

/-- Table 3-6: a list of positions as bytes. -/
def positionBytes (l : List Nat) : List Byte := l.map (BitVec.ofNat 8)

/-- Table 3-6: a spare as 16 × p + k. -/
def CellName.byte (c : CellName) : Byte := BitVec.ofNat 8 (16 * c.phase + c.pos)

/-- Table 3-6: the digest's input. -/
def digestInput (epoch : Half) (revision : Byte) (mode : PlanMode) (b : Balance) : List Byte :=
  bytesOfHalf epoch ++ [revision, mode.byte, BitVec.ofNat 8 b.counts.a, BitVec.ofNat 8 b.counts.b, BitVec.ofNat 8 b.counts.c]
    ++ recordHalf b.thetaAB ++ recordHalf b.thetaBC ++ recordHalf b.thetaCA ++ recordHalf b.fraction
    ++ positionBytes b.active.a ++ positionBytes b.active.b ++ positionBytes b.active.c
    ++ [BitVec.ofNat 8 b.spares.length] ++ b.spares.map CellName.byte

/-- R74: the plan digest. -/
def planDigest (epoch : Half) (revision : Byte) (mode : PlanMode) (b : Balance) : Half :=
  crc (digestInput epoch revision mode b)

/-! ## The verdict (R68) -/

/-- Table 3-4: a reason that calls for NOT_VIABLE. -/
def Reason.forbids : Reason → Bool
  | .stuckOpen _ => true
  | .shortPhase _ => true
  | .lowFraction => true
  | .closing _ => false
  | .silentYoung _ _ => false

/-- R68: the verdict of a reason list. -/
def verdictOf (rs : List Reason) : PlanVerdict :=
  if rs.any Reason.forbids then .notViable else if rs.isEmpty then .viable else .wait

/-! ## The finishing step (R67) -/

/-- R67 step 2: a pending reason kept at the end of the walk: a SILENT entry that has come of age by then gives none (the
time of the finishing step does not count: log 42). -/
def Reason.keptAt (walkEnd : Time) : Reason → Bool
  | .silentYoung _ deadline => decide (walkEnd < deadline)
  | _ => true

/-- R67 step 3: SHORT_PHASE reasons, in phase order. -/
def shortPhases (minLive : Nat) (live : Abc (List Nat)) : List Reason :=
  (if live.a.length < minLive then [Reason.shortPhase 0] else [])
    ++ (if live.b.length < minLive then [Reason.shortPhase 1] else [])
    ++ (if live.c.length < minLive then [Reason.shortPhase 2] else [])

/-- BALANCE: 0 SHIFT, 1 TRIM (Table 11-1). -/
def modeOf (balance : Nat) : PlanMode := if balance = 0 then .shift else .trim

/-- R67 step 4: balancing under a mode. -/
def balanceOf (mode : PlanMode) (n : Nat) (live : Abc (List Nat)) : Balance :=
  match mode with
  | .shift => balanceShift n live
  | .trim => balanceTrim n live

/-- R67 steps 4 to 6: the fields a balanced plan holds. -/
def Balance.planBody (epoch : Half) (revision : Byte) (mode : PlanMode) (b : Balance) : PlanBody where
  thetaAB  := b.thetaAB
  thetaBC  := b.thetaBC
  thetaCA  := b.thetaCA
  span     := b.span
  fraction := b.fraction
  active   := b.active
  spares   := b.spares
  offsets  := ⟨carrierOffsets b.active.a.length, carrierOffsets b.active.b.length, carrierOffsets b.active.c.length⟩
  digest   := planDigest epoch revision mode b

/-- R67: the finishing step on the tallies of a completed walk. -/
def finishPlan (p : Params) (walkEnd : Time) (t : Tallies) (c : Plan) : Plan :=
  let pending := t.pending.filter (Reason.keptAt walkEnd)
  let short := shortPhases p.minLive t.live
  let mode := modeOf p.balance
  if short.isEmpty then
    let b := balanceOf mode p.cells t.live
    let reasons := pending ++ if b.fraction < p.minFraction then [Reason.lowFraction] else []
    { c with
      mode := mode, counts := b.counts, body := some (b.planBody c.epoch c.revision mode)
      verdict := verdictOf reasons, reasons := reasons }
  else
    { c with
      mode := mode, counts := t.live.map List.length, body := none
      verdict := verdictOf (pending ++ short), reasons := pending ++ short }

/-- R67: FINISHING becomes BUILT. -/
def State.finishWalk (s : State) : State :=
  s.onPlan fun u =>
    { u with build := .built, candidate := u.candidate.map (finishPlan s.params u.walkEnd u.tallies) }

/-! ## Aging (R69) -/

/-- R69: a SILENT_YOUNG reason whose deadline has passed. -/
def Reason.aged (now : Time) : Reason → Bool
  | .silentYoung _ deadline => decide (deadline ≤ now)
  | _ => false

/-- R69: the reasons whose deadlines have passed removed, the verdict set again. -/
def Plan.age (now : Time) (c : Plan) : Plan :=
  { c with
    reasons := c.reasons.filter fun r => !r.aged now
    verdict := verdictOf (c.reasons.filter fun r => !r.aged now) }

/-! ## What others see and what is tested -/

/-- The candidate, when BUILT. -/
def State.builtCandidate (s : State) : Option Plan :=
  if s.plan.build = .built then s.plan.candidate else none

/-- The digest of a plan, when it has one. -/
def Plan.digest? (p : Plan) : Option Half := p.body.map PlanBody.digest

/-- R74, R76: a VIABLE candidate that is BUILT, with its digest. -/
def State.viableCandidate (s : State) : Option (Plan × Half) :=
  match s.builtCandidate with
  | some c =>
    match c.verdict, c.body with
    | .viable, some b => some (c, b.digest)
    | _, _ => none
  | none => none

/-- R75: the candidate is shown in STATE frames. -/
def State.shownCandidate (s : State) : Option Plan :=
  if s.round.phase = .planning ∨ s.round.phase = .revising then
    match s.builtCandidate with
    | some c => if c.verdict = .notViable then none else some c
    | none => none
  else none

/-- R75: the plan a STATE frame shows. -/
def State.shownPlan (s : State) : Option Plan := (s.shownCandidate).or s.plan.inForce

/-- R75: the plan fields of a STATE frame: present, revision, digest. -/
def State.planFields (s : State) : Bool × Byte × Half :=
  match s.shownPlan with
  | some p => (true, p.revision, p.digest?.getD 0)
  | none => (false, 0, 0)

/-- R76: the candidate becomes the plan in force, taken whole, and the build state NONE. -/
def PlanUnit.adoptPlan (c : Plan) (u : PlanUnit) : PlanUnit := { u.discard with inForce := some c }

end Sys2Proof.Machine
end

