-- ==== Sys2Proof/Machine/RosterOps.lean ====
section
/-! DEFINITION. The Roster Unit's operations on its own table (R4 to R25): writes with their digest, the comparison and merge of
a SUMMARY, and the test for an absent owner. -/

namespace Sys2Proof.Machine

/-! ## Writes -/

/-- R25: the roster with new entries: the digest recomputed once, the digest-change time set when it differs. -/
def Roster.withEntries (now : Time) (es : List RosterEntry) (r : Roster) : Roster :=
  { r with
    entries := es, digest := rosterDigestOf es
    digestChange := if rosterDigestOf es = r.digest then r.digestChange else now }

/-- One entry written (R9, R13): the digest is recomputed as part of the write. -/
def State.writeEntry (i : Nat) (e : RosterEntry) (s : State) : State :=
  s.onRoster fun r => r.withEntries s.now (setAt r.entries (i - 1) e)

/-- R9: an entry as its owner writes it. -/
def RosterEntry.owned (c : Condition) (k : FaultClass) (e : RosterEntry) : RosterEntry :=
  { e with cond := c, source := sourceOf c, cls := k, version := versionSucc e.version }

/-- R13: an entry marked SILENT by an observer. -/
def RosterEntry.marked (now : Time) (e : RosterEntry) : RosterEntry :=
  ⟨.silent, .observer, 0, versionSucc e.version, now⟩

/-- R9: the held entry already carries the content requested. -/
def RosterEntry.carries (c : Condition) (k : FaultClass) (e : RosterEntry) : Bool :=
  e.cond == c && e.cls == k && e.source == sourceOf c

/-! ## The merge of a SUMMARY (R16 to R23) -/

/-- R16: a received entry read as the roster's fields; none outside Table 1-2. -/
def SummaryItem.read (x : SummaryItem) : Option RosterEntry :=
  match Condition.ofCode x.cond with
  | some c =>
    let src := if x.owner then Source.owner else Source.observer
    if entryAllowed c src x.cls then some ⟨c, src, x.cls, x.version, 0⟩ else none
  | none => none

/-- R16: the entries of a SUMMARY; none when any lies outside Table 1-2. -/
def readEntries : List SummaryItem → Option (List RosterEntry)
  | [] => some []
  | x :: rest =>
    match x.read, readEntries rest with
    | some e, some es => some (e :: es)
    | _, _ => none

/-- R4: the content of two entries is the same: condition, source and class. -/
def sameContent (h r : RosterEntry) : Bool := h.cond == r.cond && h.source == r.source && h.cls == r.cls

/-- R18, R15: the received entry adopted at `now`. -/
def RosterEntry.adopt (now : Time) (r h : RosterEntry) : RosterEntry :=
  { r with silentSince := if r.cond = .silent ∧ h.cond ≠ .silent then now else h.silentSince }

/-- R20: the received content prevails over the held content. -/
def prevails (r h : RosterEntry) : Bool :=
  decide (h.cond.code < r.cond.code) || (h.cond == r.cond && decide (h.cls < r.cls))

/-- R17 to R20: one index compared and acted on where no reassertion applies: the entry after it and its verdict. -/
def mergeObserved (now : Time) (r h : RosterEntry) : RosterEntry × Option Verdict :=
  if h.version = r.version then
    if sameContent h r then (h, none)
    else if h.source = r.source then (if prevails r h then r.adopt now h else h, some .conflict)
    else if r.source = .owner then (r.adopt now h, some .theirsNewer)
    else (h, some .oursNewer)
  else if versionNewer r.version h.version then (r.adopt now h, some .theirsNewer)
  else (h, some .oursNewer)

/-- R17, R21: the own index compared while authority is active. -/
def mergeOwned (now : Time) (r h : RosterEntry) : RosterEntry × Option Verdict :=
  if h.version = r.version ∨ versionNewer r.version h.version = true then
    if sameContent h r then
      if h.version = r.version then (h, none) else (r.adopt now h, some .theirsNewer)
    else ({ h with version := versionSucc r.version }, some .oursNewer)
  else (h, some .oursNewer)

/-- R17: one index compared. -/
def mergeEntry (owned : Bool) (now : Time) (r h : RosterEntry) : RosterEntry × Option Verdict :=
  if owned then mergeOwned now r h else mergeObserved now r h

/-- R18: the condition or class changed: an entry change. -/
def entryChanged (h e : RosterEntry) : Bool := h.cond != e.cond || h.cls != e.cls

/-- What a merge gives: the entries, the mismatch list and the indices whose content changed, rising. -/
structure MergeResult where
  entries  : List RosterEntry
  mismatch : List (Nat × Verdict)
  changed  : List Nat
  deriving DecidableEq, Repr

/-- R17, R22, R23: the merge from index `i` on; `own` is the index under active own-entry authority. -/
def mergeFrom (own : Option Nat) (now : Time) (i : Nat) : List RosterEntry → List RosterEntry → MergeResult
  | r :: rs, h :: hs =>
    let x := mergeEntry (own == some i) now r h
    let m := mergeFrom own now (i + 1) rs hs
    { entries := x.1 :: m.entries
      mismatch := (match x.2 with | some v => [(i, v)] | none => []) ++ m.mismatch
      changed := (if entryChanged h x.1 then [i] else []) ++ m.changed }
  | _, hs => ⟨hs, [], []⟩

/-- R22: the merge owes an answer. -/
def owesAnswer (l : List (Nat × Verdict)) : Bool := l.any fun x => x.2 != .theirsNewer

/-- R8: the index the station owns with active authority. -/
def State.ownedIndex (s : State) : Option Nat := if s.roster.authority then s.ownIndex else none

/-! ## Absent owners (R12) -/

/-- R12: the owner with a station number is absent. One that shows another config digest is so at once, without the
QUIET_LIMIT report periods of R188 (log 56). -/
def State.ownerAbsent (n : Nat) (s : State) : Bool :=
  let h := s.heardAt n
  h.status == .silent
    || (h.status == .never && decide (s.quietTime ≤ s.now - s.bus.resetAt))
    || match h.state with
      | some x => x.cfgDigest != s.store.digest
      | none => false

/-- R12: a station that makes silence checks: in the drive, with a roster, and not itself without a frame heard for
QUIET_LIMIT report periods. -/
def State.checksSilence (s : State) : Bool :=
  s.store.valid && !s.round.phase.outside && decide (s.now - s.bus.isoClock < s.quietTime)

/-- R12, R14: an index whose absent owner is to be marked. -/
def State.toMark (i : Nat) (s : State) : Bool :=
  s.ownIndex != some i && (s.entryAt i).cond != .silent && s.ownerAbsent (stationOfIndex s.params.cells i)

end Sys2Proof.Machine
end

