-- ==== Sys2Proof/Machine/PhaseOps.lean ====
section
/-! DEFINITION. Entry to a phase: the effects of Table 2-3 on the station's own blocks (R30), one function for each block.
What an entry has the Bypass Controller, the arming check, the STEP decision and the catch do is in EnterOps.lean. -/

namespace Sys2Proof.Machine

/-- R30, R53, R66: a phase at whose entry the plan in force and the candidate are cleared. -/
def Phase.clearsPlan : Phase → Bool
  | .joining => true | .isolated => true | .tripped => true | .lockout => true
  | _ => false

/-- Table 2-3: a phase at whose entry the armed set and the refusal record are cleared. -/
def Phase.clearsArmed (p : Phase) : Bool := p.clearsPlan || p == .halted

/-! ## Leaving a phase -/

/-- R132, R180: leaving ARMING ends the arming check and the STEP decision; a STEP still waiting is withdrawn unless the
station goes on to RUNNING. -/
def State.leaveArming (p : Phase) (s : State) : State :=
  s.when (s.round.phase == .arming) fun s =>
    ((s.onWatch fun w => { w with check := .idle, sentArmed := false, sentRefused := false }).onPort
      fun q => { q with stepDecision := none }).when (p != .running) State.withdrawSteps

/-- R110: leaving CATCHING with the catch still ACTIVE abandons it. -/
def State.leaveCatching (s : State) : State := s.when (s.round.phase == .catching) State.abandonCatch

/-- R85, R177: leaving REVISING clears switch pending and withdraws the presented record. -/
def State.leaveRevising (s : State) : State :=
  s.when (s.round.phase == .revising && s.isLine) State.withdrawSwitch

/-! ## Entering a phase, block by block -/

/-- R30, R66, R79, R86: the Plan Unit at an entry to `p` from `p0`. -/
def PlanUnit.onEntry (p0 p : Phase) (u : PlanUnit) : PlanUnit :=
  let u := if p.clearsPlan then { u.discard with inForce := none }
    else if p = .halted ∧ p0 = .revising then u.discard else u
  if p.drives then u else { u with switchRecord := none }

/-- Table 2-9: the timer a phase starts, as a deadline. -/
def phaseDeadline (now : Time) (par : Params) : Phase → Option Time
  | .tripped => some (now + ms par.dwell)
  | .settling => some (now + ms par.settle)
  | .planning => some (now + ms par.agree)
  | .arming => some (now + ms par.arm)
  | .revising => some (now + ms par.revise)
  | _ => none

/-- Table 2-3: the trip-round flag after an entry. -/
def tripRoundAfter (p : Phase) (old : Bool) : Bool :=
  match p with
  | .tripped => true
  | .joining => false | .halted => false | .running => false | .lockout => false | .isolated => false
  | _ => old

/-- Table 2-3, R41: the deferred-change flag after an entry to `p` from `p0`. -/
def deferredAfter (p0 p : Phase) (old : Bool) : Bool :=
  match p with
  | .joining => false | .settling => false | .tripped => false | .lockout => false | .isolated => false
  | .halted => old || p0 == .revising
  | _ => old

/-- R37, R41: the run demand after an entry to `p` from `p0`. -/
def runDemandAfter (p0 p : Phase) (runReq old : Bool) : Bool :=
  match p with
  | .halted => old && !(p0 == .catching || p0 == .arming)
  | .running => old || runReq
  | _ => old

/-- Table 2-3: the Round Controller at an entry to `p`. -/
def Round.onEntry (now : Time) (par : Params) (p : Phase) (r : Round) : Round :=
  { r with
    phase := p
    resettle := if p = .halted ∨ p = .running then 0 else r.resettle
    tripTime := if p = .tripped then some now else r.tripTime
    armed := if p.clearsArmed then [] else r.armed
    refusal := if p.clearsArmed then .none else r.refusal
    early := if p.clearsPlan then [] else r.early
    tripRound := tripRoundAfter p r.tripRound
    deferred := deferredAfter r.phase p r.deferred
    runDemand := runDemandAfter r.phase p r.facts.runReq r.runDemand
    phaseTimer := phaseDeadline now par p
    joinLeft := if p = .joining then Config.joinTicks else r.joinLeft
    mismatchFlag := if p = .joining then false else r.mismatchFlag }

/-- R8, R24, R27: the Roster Unit at an entry to `p`. -/
def Roster.onEntry (p : Phase) (r : Roster) : Roster :=
  let r := { r with authority := if p = .joining then false else if p = .isolated then r.authority else true }
  if p.outside then
    { r with answerSent := false, answerOwed := false, diff := List.replicate Config.stations 0 }
  else r

/-- R151, R160: the BIF's own counts at an entry to `p`. -/
def Bif.onEntry (now : Time) (p : Phase) (u : Bif) : Bif :=
  { u with
    echoMisses := if p = .isolated then 0 else u.echoMisses
    isoClock := if p = .joining then now else u.isoClock }

/-- R101, R112, R113: the line station's catch record, retirement count and budget at an entry to `p` other than
TRIPPED. -/
def CatchUnit.onEntry (epoch : Half) (quietLimit : Nat) (p : Phase) (c : CatchUnit) : CatchUnit :=
  match p with
  | .running => c.budgetIdle
  | .halted =>
    let c := c.budgetIdle
    if c.record.epoch = some epoch ∧ c.record.outcome = .expired then { c with retire := quietLimit } else c
  | .lockout => (c.budgetIdle).resetRecord epoch
  | .isolated => (c.budgetIdle).resetRecord epoch
  | .joining => (c.budgetIdle).resetRecord epoch
  | _ => c

/-- R99: the trip context saved at an entry to TRIPPED, before the plan in force is cleared. -/
def State.contextOnEntry (p : Phase) (s : State) : State := s.when (p == .tripped) State.saveContext

/-- Table 2-3: every block's fields at an entry to `p`. -/
def State.blocksOnEntry (p : Phase) (s : State) : State :=
  let s1 := (s.onPlan (PlanUnit.onEntry s.round.phase p)).when p.clearsPlan State.clearRecord
  let s2 := (s1.onRound (Round.onEntry s.now s.params p)).onRoster (Roster.onEntry p)
  (s2.onBus (Bif.onEntry s.now p)).when s.isLine
    (State.onCatcher (CatchUnit.onEntry s.round.epoch s.params.quietLimit p))

/-- R26, R30, R155: what an entry to `p` from `p0` does to the queue: emptied on entry to a barred phase, else a STATE, and a
SUMMARY on the way from TRIPPED to SETTLING, the STATE first (log 39). -/
def State.framesOnEntry (p0 p : Phase) (s : State) : State :=
  ((s.when p.outside State.emptyQueue).queueState).when (p == .settling && p0 == .tripped) State.queueSummary

/-- R30: entry to a phase. -/
def State.enterBase (p : Phase) (s : State) : State :=
  ((((((s.leaveArming p).leaveCatching).leaveRevising).contextOnEntry p).blocksOnEntry p).framesOnEntry s.round.phase
    p).walkOnEntry p

end Sys2Proof.Machine
end

