-- ==== Sys2Proof/Machine/ChangeOps.lean ====
section
/-! DEFINITION. Changes of epoch, trips and alarms (R29, R33, R35), resettles (R45), the loss of the line station (R32), entry
changes (R38) and the writes that cause them (R9, R11, R13, R23). -/

namespace Sys2Proof.Machine

/-! ## Epoch and trips -/

/-- R29: a change of the station's epoch, with what goes with it: the resettle count, the early steps, the candidate, the
switch record, and the line station's catch record (R30, R50, R66, R86, R101). Nothing when the epoch is the one held. -/
def State.setEpoch (e : Half) (s : State) : State :=
  if e = s.round.epoch then s
  else
    ((s.onRound fun r => { r with epoch := e, resettle := 0, early := [] }).onPlan fun u =>
      { u.discard with switchRecord := none }).when s.isLine (State.onCatcher (CatchUnit.resetRecord e))

/-- R35 step 1: trip times more than WINDOW seconds ago removed from the front. -/
def pruneAttempts (now window : Time) (l : List Time) : List Time := l.dropWhile fun t => decide (t + window < now)

/-- R35 steps 3 and 4: now appended, unless the newest entry is of this time. -/
def recordAttempt (now : Time) (l : List Time) : List Time := if l.getLast? = some now then l else l ++ [now]

/-- R35: a trip taken under the attempt list rule. -/
def State.takeTrip (s : State) : State :=
  let l := pruneAttempts s.now (sec s.params.window) s.round.attempts
  if s.params.rounds ≤ l.length then (s.onRound fun r => { r with attempts := l }).enterBase .lockout
  else (s.onRound fun r => { r with attempts := recordAttempt s.now l }).enterBase .tripped

/-- R33: phases in which a local alarm's request is dropped. -/
def Phase.dropsAlarm (p : Phase) : Bool := p == .joining || p == .isolated || p == .lockout

/-- R33: a local alarm of a class: the epoch's successor, a trip, and an ALARM queued. -/
def State.localAlarm (cls : FaultClass) (s : State) : State :=
  if s.round.phase.dropsAlarm then s
  else
    (((s.setEpoch (epochSucc s.round.epoch)).takeTrip).enqueue
      (.alarm (BitVec.ofNat 8 s.number) cls.byte s.round.phase.code))

/-- R45: a counted resettle: SETTLING, or LOCKOUT beyond RESETTLE, where the count stands at RESETTLE + 1 (Table 2-2). -/
def State.resettle (s : State) : State :=
  let s1 := s.onRound fun r => { r with resettle := min (r.resettle + 1) (s.params.resettle + 1) }
  if s.params.resettle < s1.round.resettle then s1.enterBase .lockout else s1.enterBase .settling

/-- R32: the effect, by phase, of losing the line station. -/
def State.lineStationLost (s : State) : State :=
  match s.round.phase with
  | .running => s.localAlarm FaultClass.line
  | .revising => s.localAlarm FaultClass.line
  | .halted => s.enterBase .settling
  | .settling => s.enterBase .settling
  | .planning => s.enterBase .settling
  | .catching => s.enterBase .settling
  | .arming => s.enterBase .settling
  | _ => s

/-- R32: the presence check. -/
def State.checkPresence (s : State) : State :=
  if s.present then s.onRound fun r => { r with lineLost := false, linePresent := true }
  else if s.round.linePresent then
    (s.onRound fun r => { r with lineLost := true, linePresent := false }).lineStationLost
  else s

/-! ## Entry changes -/

/-- R90: an entry change at the line station in REVISING cancels an announced switch. -/
def State.cancelSwitch (s : State) : State :=
  s.when (s.isLine && s.port.switchPending.isSome) State.withdrawSwitch

/-- R38: an entry change taken by the Round Controller. -/
def State.entryChange (o : Origin) (s : State) : State :=
  match s.round.phase with
  | .joining => s
  | .isolated => s
  | .tripped => s
  | .lockout => s
  | .settling => s
  | .halted => s.enterBase .settling
  | .planning => s.resettle
  | .catching => s.onRound fun r => { r with deferred := true }
  | .arming => s.onRound fun r => { r with deferred := true }
  | .running => if o = .mark then s.localAlarm FaultClass.silent else s.enterBase .revising
  | .revising => if o = .mark then s.localAlarm FaultClass.silent else s.cancelSwitch

/-- R23: a change of the lowest index `i` handed to the Plan Unit, then to the Round Controller. -/
def State.handChange (o : Origin) (i : Nat) (s : State) : State := (s.planEntryChange i).entryChange o

/-! ## Owner writes -/

/-- R95: the rest hold-off timer at an owner write of a condition. -/
def restAfter (now rest : Time) (c : Condition) : RestTimer :=
  match c with
  | .resting => .running (now + rest)
  | _ => .stopped

/-- R95: the station with its rest hold-off timer started or stopped by a condition. -/
def State.timeRest (c : Condition) (s : State) : State :=
  s.onWatch fun w => { w with rest := restAfter s.now (sec s.params.rest) c }

/-- R9, R11: the own entry written unconditionally at its index, and the change handed on; a SUMMARY is queued. -/
def State.assertEntry (i : Nat) (c : Condition) (k : FaultClass) (s : State) : State :=
  (((s.writeEntry i ((s.entryAt i).owned c k)).timeRest c).handChange .owner i).queueSummary

/-- R9: an owner write as the Roster Unit takes it: a content already held is no write. -/
def State.requestWrite (c : Condition) (k : FaultClass) (s : State) : State :=
  match s.ownedIndex with
  | some i => if (s.entryAt i).carries c k then s else s.assertEntry i c k
  | none => s

/-- Table 7-2: the bypass is confirmed closed. -/
def Bypass.confirmedClosed (b : Bypass) : Bool := b.state == .closed || b.state == .stuckClosed

/-- R141: the own entry is FAULTED and the latch is not empty. -/
def State.faultedWithLatch (s : State) : Bool := s.ownCond .faulted && !s.watch.latch.isEmpty

/-- R125, R141: after a write that leaves the own entry FAULTED with the contactor confirmed closed, BYPASSED with the
leading class. -/
def State.followFaulted (s : State) : State :=
  s.when (s.bypass.confirmedClosed && s.faultedWithLatch) fun s => s.requestWrite .bypassed s.watch.leading

/-- R9, R141: an owner write, and what follows it at once. -/
def State.ownerWrite (c : Condition) (k : FaultClass) (s : State) : State := (s.requestWrite c k).followFaulted

/-! ## Marks and merges -/

/-- R13: an index marked SILENT: the write, the change handed on, a SUMMARY. -/
def State.markEntry (i : Nat) (s : State) : State :=
  ((s.writeEntry i ((s.entryAt i).marked s.now)).handChange .mark i).queueSummary

/-- R12, R13: the check of one index. -/
def State.checkIndex (i : Nat) (s : State) : State := s.when (s.toMark i) (State.markEntry i)

/-- R12: the silence check over a list of indices. -/
def State.checkIndices (l : List Nat) (s : State) : State := l.foldl (fun s i => s.checkIndex i) s

/-- R12: the silence check of a report tick: every index, rising (log 24). -/
def State.silenceCheck (s : State) : State :=
  s.when s.checksSilence fun s => s.checkIndices ((List.range (3 * s.params.cells)).map (· + 1))

/-- R12: the silence check on a STATE from the station `n`: the index it owns. -/
def State.silenceCheckOf (n : Nat) (s : State) : State :=
  s.when s.checksSilence fun s =>
    s.checkIndices (((List.range (3 * s.params.cells)).map (· + 1)).filter
      fun i => stationOfIndex s.params.cells i == n)

/-- R24: the answer a merge owes; none is owed in JOINING and ISOLATED (R16). -/
def State.answer (s : State) : State :=
  if s.round.phase.outside then s
  else if s.roster.answerSent then s.onRoster fun r => { r with answerOwed := true }
  else (s.queueSummary).onRoster fun r => { r with answerSent := true }

/-- R24: the answer flags at a report tick. -/
def State.answerTick (s : State) : State :=
  let s1 := s.onRoster fun r => { r with answerSent := false }
  if s1.roster.answerOwed then (s1.queueSummary).onRoster fun r => { r with answerSent := true } else s1

/-- R23: what a merge hands on: its entry changes as one change, against the lowest. -/
def State.handMerge (changed : List Nat) (s : State) : State :=
  match changed with
  | [] => s
  | i :: _ => s.handChange .merge i

/-- R16 to R24: a SUMMARY merged, or discarded. -/
def State.mergeSummary (items : List SummaryItem) (s : State) : State :=
  match readEntries items with
  | some rs =>
    if s.store.valid ∧ items.length = 3 * s.params.cells then
      let m := mergeFrom s.ownedIndex s.now 1 rs s.roster.entries
      let s1 := (s.onRoster fun r => { r.withEntries s.now m.entries with mismatch := m.mismatch }).handMerge m.changed
      s1.when (owesAnswer m.mismatch) State.answer
    else s
  | none => s

end Sys2Proof.Machine
end

