-- ==== Sys2Proof/Machine/BypassOps.lean ====
section
/-! DEFINITION. The Bypass Controller (R135 to R142) with the part of Cell Watch that its reports reach: the STEP frames and the
waiting steps of the arming check (R130 to R133) and the hard faults of class BYPASS (R126). Cell role only. -/

namespace Sys2Proof.Machine

/-! ## STEP frames (R133, R180) -/

/-- R133: a STEP queued with the revision and digest of the plan in force. -/
def State.enqueueStep (code reason : Byte) (s : State) : State :=
  match s.plan.inForce with
  | some p => s.enqueue (.step code p.revision (p.digest?.getD 0) reason)
  | none => s

/-- R130, R131: the arming check sends STEP ARMED and is DONE. Each check sends at most one (R132). -/
def State.checkArmed (s : State) : State :=
  (s.when (!s.watch.sentArmed) (State.enqueueStep stepArmed 0)).onWatch fun w =>
    { w with check := .done, sentArmed := true }

/-- R129, R130, R132: the arming check sends STEP REFUSED with a reason and is DONE. Each check sends at most one. -/
def State.checkRefused (reason : Byte) (s : State) : State :=
  (s.when (!s.watch.sentRefused) (State.enqueueStep stepRefused reason)).onWatch fun w =>
    { w with check := .done, sentRefused := true }

/-- R125, R132: a hard fault ends a running arming check without a STEP. -/
def Watch.endCheck (w : Watch) : Watch :=
  match w.check with
  | .idle => w
  | _ => { w with check := .done }

/-! ## What the reports reach -/

/-- R130 step 2: the sense step: the request time, an ARM trigger, SENSE_WAIT. -/
def State.senseStep (s : State) : State :=
  (s.onWatch fun w => { w with check := .senseWait, armRequest := some s.now }).onScanner (Scanner.trigger s.now .arm)

/-- R141: confirm open. -/
def State.confirmOpen (s : State) : State := s.when (s.watch.check == .openWait) State.senseStep

/-- R141: confirm closed: a FAULTED entry with a latched class is written BYPASSED, and a spare's check is answered. -/
def State.confirmClosed (s : State) : State :=
  (s.when s.faultedWithLatch fun s => s.requestWrite .bypassed s.watch.leading).when (s.watch.check == .closeWait)
    State.checkArmed

/-- R126: a class added to the latch as the leading class. -/
def Watch.latchLeading (k : FaultClass) (w : Watch) : Watch :=
  { w with latch := insertRising k.toNat w.latch, leading := k }

/-- R125: a class added to the latch, the leading class kept. -/
def Watch.latchAlso (k : FaultClass) (w : Watch) : Watch := { w with latch := insertRising k.toNat w.latch }

/-- R126: a close not confirmed within CONTACT: latch, check, owner write, alarm (log 32). -/
def State.reportStuckOpen (s : State) : State :=
  let s1 := (s.onWatch fun w => (w.latchLeading FaultClass.bypass).endCheck).ownerWrite .faulted FaultClass.bypass
  s1.when s.watch.latch.isEmpty (State.localAlarm FaultClass.bypass)

/-- R126: a contactor dropped, or stuck closed outside an arming check's OPEN_WAIT: latch, check, owner write, alarm
(log 32). -/
def State.reportClosedFault (s : State) : State :=
  if s.watch.latch.isEmpty then
    (((s.onWatch fun w => (w.latchLeading FaultClass.bypass).endCheck).ownerWrite .bypassed
      FaultClass.bypass)).localAlarm FaultClass.bypass
  else s.onWatch fun w => (w.latchAlso FaultClass.bypass).endCheck

/-! ## Commands (Table 7-3) -/

/-- CONTACT as a duration; 60 ms with an invalid working copy (R135). -/
def State.contactTime (s : State) : Time := ms s.params.contact

/-- R138: the coil energised for an open. -/
def Bypass.opens (now contact : Time) (b : Bypass) : Bypass :=
  { b with state := .opening, hold := true, contact := some (now + contact), coilRelease := none }

/-- R137, R139: the coil released, or found released, and a close timed from now. -/
def Bypass.closesNow (now contact : Time) (b : Bypass) : Bypass :=
  { b with
    state := .closing, hold := false, contact := some (now + contact), gateOff := none, coilRelease := none }

/-- R137: a close taken in OPEN: the gate-off wait first. -/
def Bypass.closesGated (now : Time) (b : Bypass) : Bypass :=
  { b with state := .closing, gateOff := some (now + Config.gateOffWait) }

/-- R136: a close confirmed: the timer and any gate-off wait over, the coil released. -/
def Bypass.closedNow (b : Bypass) : Bypass :=
  { b with state := .closed, hold := false, contact := none, gateOff := none, coilRelease := none }

/-- R136, R138: an OPEN command. -/
def State.openCmd (p : Purpose) (s : State) : State :=
  if !s.isCell || !s.watch.latch.isEmpty then s
  else
    match s.bypass.state with
    | .closed => s.onBypass (Bypass.opens s.now s.contactTime)
    | .stuckClosed => s.onBypass (Bypass.opens s.now s.contactTime)
    | .opening => s
    | .opened => s.confirmOpen
    | .closing => s.onBypass fun b => { b with pending := some p }
    | .stuckOpen => s

/-- R136, R137: a CLOSE command. -/
def State.closeCmd (s : State) : State :=
  if !s.isCell then s
  else
    match s.bypass.state with
    | .closed => s.confirmClosed
    | .stuckClosed => (s.onBypass fun b => { b with state := .closed }).confirmClosed
    | .opening => s.onBypass (Bypass.closesNow s.now s.contactTime)
    | .opened => s.onBypass (Bypass.closesGated s.now)
    | .closing => s.onBypass fun b => { b with pending := none }
    | .stuckOpen => s

/-- R130: STUCK_CLOSED in OPEN_WAIT is a refusal: no alarm, and the CLOSE of a refused check (R142, log
45). -/
def State.refuseStuckClosed (s : State) : State :=
  State.closeCmd (((s.checkRefused FaultClass.bypass.byte).onWatch
    (Watch.latchLeading FaultClass.bypass)).ownerWrite .bypassed FaultClass.bypass)

/-- R141: STUCK_CLOSED reported. -/
def State.reportStuckClosed (s : State) : State :=
  if s.watch.check = .openWait then s.refuseStuckClosed else s.reportClosedFault

/-- R138: a pending OPEN is still wanted at the close confirmation. -/
def State.stillWanted (p : Purpose) (s : State) : Bool :=
  match p with
  | .arm => s.watch.check == .openWait
  | .switch => s.cellRole.isActive && s.round.phase.drives && s.ownCond .live

/-- R138: the pending OPEN taken, or dropped, after a close is confirmed. -/
def State.takePending (s : State) : State :=
  match s.bypass.pending with
  | some p => (s.onBypass fun b => { b with pending := none }).when (s.stillWanted p) (State.openCmd p)
  | none => s

/-! ## Feedback and the CONTACT timer (Table 7-3) -/

/-- R136: the feedback reads open. -/
def State.feedbackOpen (s : State) : State :=
  match s.bypass.state with
  | .closed => s.onBypass (Bypass.closesNow s.now s.contactTime)
  | .stuckClosed => s.onBypass (Bypass.closesNow s.now s.contactTime)
  | .opening => (s.onBypass fun b => { b with state := .opened, contact := none }).confirmOpen
  | .opened => s
  | .closing => s
  | .stuckOpen => s

/-- R136, R139: the feedback reads closed. -/
def State.feedbackClosed (s : State) : State :=
  match s.bypass.state with
  | .closed => s
  | .stuckClosed => s
  | .opening => s
  | .opened => (s.onBypass Bypass.closedNow).reportClosedFault
  | .closing => ((s.onBypass Bypass.closedNow).confirmClosed).takePending
  | .stuckOpen => (s.onBypass Bypass.closedNow).confirmClosed

/-- R136: a filtered change of the feedback; a level already held is no change. -/
def State.feedbackChange (closed : Bool) (s : State) : State :=
  if !s.isCell || s.bypass.feedback == some closed then s
  else
    let s1 := s.onBypass fun b => { b with feedback := some closed }
    if closed then s1.feedbackClosed else s1.feedbackOpen

/-- R136, R140: the CONTACT timer expires. -/
def State.contactExpires (s : State) : State :=
  match s.bypass.state with
  | .opening =>
    (s.onBypass fun b => { b with state := .stuckClosed, hold := false, contact := none }).reportStuckClosed
  | .closing =>
    (s.onBypass fun b => { b with state := .stuckOpen, contact := none, pending := none }).reportStuckOpen
  | _ => s

/-- R137: the gate-off wait ends: the coil is released and the CONTACT timer starts. -/
def Bypass.gateOffEnds (now contact : Time) (b : Bypass) : Bypass :=
  { b with hold := false, gateOff := none, contact := some (now + contact) }

end Sys2Proof.Machine
end

