-- ==== Sys2Proof/Machine/WatchOps.lean ====
section
/-! DEFINITION. Cell Watch (R122 to R134): limits, hard and soft faults, the in-band count and the readmission trigger, the
arming check's start and evaluation, the standing in a revision (R81), the join assertion's content (R11) and the fault
reset. Cell role only. -/

namespace Sys2Proof.Machine

/-! ## Hard faults (R125) -/

/-- R125: a hard fault of class BRIDGE, CELL or LINK_HIGH: with the latch empty, in the order latch, check, CLOSE, owner
write, alarm (log 32). -/
def State.hardFault (k : FaultClass) (s : State) : State :=
  if s.watch.latch.isEmpty then
    ((((s.onWatch fun w => (w.latchLeading k).endCheck).closeCmd).ownerWrite .faulted k)).localAlarm k
  else s.onWatch (Watch.latchAlso k)

/-- R123: the class of a fault input. -/
def hardClassOf : FaultInput → FaultClass
  | .bridge => FaultClass.bridge
  | .cell => FaultClass.cell

/-- R123: the filtered level of a fault input. -/
def Watch.level (i : FaultInput) (w : Watch) : Option Bool :=
  match i with
  | .bridge => w.bridgeFlt
  | .cell => w.cellFlt

/-- R123: the filtered level of a fault input replaced. -/
def Watch.setLevel (i : FaultInput) (a : Bool) (w : Watch) : Watch :=
  match i with
  | .bridge => { w with bridgeFlt := some a }
  | .cell => { w with cellFlt := some a }

/-- R123: a filtered change of a fault input: an EDGE trigger, and a hard fault when found asserted. A level already held
is no change. -/
def State.faultInput (i : FaultInput) (a : Bool) (s : State) : State :=
  if !s.isCell || s.watch.level i == some a then s
  else
    ((s.onWatch (Watch.setLevel i a)).onScanner (Scanner.trigger s.now .edge)).when a (State.hardFault (hardClassOf i))

/-! ## Limits (R124) -/

/-- Table 6-5: the values of a pass. -/
structure PassValues where
  ch0 : Nat
  ch1 : Nat
  ch2 : Nat
  ch3 : Nat
  deriving DecidableEq, Repr

/-- R120: the values of the four slots. -/
def Scanner.values (c : Scanner) : PassValues :=
  ⟨(c.slot 0).value, (c.slot 1).value, (c.slot 2).value, (c.slot 3).value⟩

/-- Table 6-5: trip high. -/
def condTripHigh (p : Params) (v : PassValues) : Bool := decide (p.tripHigh < v.ch0)
/-- Table 6-5: link low. -/
def condLinkLow (p : Params) (v : PassValues) : Bool := decide (v.ch0 < p.linkLow)
/-- Table 6-5: heat. -/
def condHeat (p : Params) (v : PassValues) : Bool := decide (p.heatHigh < v.ch2)
/-- Table 6-5: supply. -/
def condSupply (p : Params) (v : PassValues) : Bool := decide (v.ch1 < p.supplyLow)
/-- Table 6-5: input. -/
def condInput (p : Params) (v : PassValues) : Bool := decide (v.ch3 < p.inputLow)

/-- R124: every channel of the pass is in band. -/
def inBandPass (p : Params) (v : PassValues) : Bool :=
  !(condTripHigh p v || condLinkLow p v || condHeat p v || condSupply p v || condInput p v)

/-- R124: a limit count after a pass. -/
def countAfter (persist : Nat) (cond : Bool) (n : Nat) : Nat := if cond then min (n + 1) persist else 0

/-- R124: the pass at which a count first reaches PERSIST. -/
def assertsNow (persist : Nat) (cond : Bool) (n : Nat) : Bool :=
  decide (n < persist) && countAfter persist cond n == persist

/-- R124: the limit counts after a pass. -/
def Watch.counted (p : Params) (v : PassValues) (w : Watch) : Watch :=
  { w with
    tripHigh := countAfter p.persist (condTripHigh p v) w.tripHigh
    linkLow := countAfter p.persist (condLinkLow p v) w.linkLow
    heat := countAfter p.persist (condHeat p v) w.heat
    supply := countAfter p.persist (condSupply p v) w.supply
    input := countAfter p.persist (condInput p v) w.input }

/-- R124, R127: the lowest soft class that asserts at a pass, given the counts before it. -/
def softAssertion (p : Params) (v : PassValues) (w : Watch) : Option FaultClass :=
  if assertsNow p.persist (condLinkLow p v) w.linkLow then some FaultClass.linkLow
  else if assertsNow p.persist (condHeat p v) w.heat then some FaultClass.heat
  else if assertsNow p.persist (condSupply p v) w.supply then some FaultClass.supply
  else if assertsNow p.persist (condInput p v) w.input then some FaultClass.input
  else none

/-! ## Soft faults (R127, R128) -/

/-- Table 11-1 note 2: the soft mask gives a class WITHDRAW. -/
def withdrawMask (mask : Byte) (k : FaultClass) : Bool :=
  if k = FaultClass.linkLow then mask.getLsbD 0
  else if k = FaultClass.heat then mask.getLsbD 1
  else if k = FaultClass.supply then mask.getLsbD 2
  else if k = FaultClass.input then mask.getLsbD 3
  else false

/-- R128: CLOSE if not CLOSED. -/
def State.closeUnlessClosed (s : State) : State := s.when (s.bypass.state != .closed) State.closeCmd

/-- Table 6-6: the effect of a classified soft fault, by the phase and the role held when it was classified. -/
def State.softEffect (p : Phase) (role : CellRole) (k : FaultClass) (s : State) : State :=
  if p.drives then
    if role.isActive then
      if withdrawMask s.params.softMask k then s else (s.closeCmd).localAlarm k
    else s.closeUnlessClosed
  else if p = .arming then
    if role.isActive ∨ role = .spare then (s.checkRefused k.byte).closeCmd else s.closeUnlessClosed
  else s.closeCmd

/-- R127: an assertion is classified only with the entry LIVE, authority active and the latch empty. -/
def State.softClassified (s : State) : Bool := s.ownCond .live && s.roster.authority && s.watch.latch.isEmpty

/-- R127, R128: a soft fault: RESTING with the class, then its effect. -/
def State.softFault (k : FaultClass) (s : State) : State :=
  s.when s.softClassified fun s => (s.ownerWrite .resting k).softEffect s.round.phase s.cellRole k

/-! ## Readmission (R95, R96) -/

/-- R96: the readmission trigger is met. -/
def State.readmissionMet (s : State) : Bool :=
  s.isCell && (s.round.phase == .halted || s.round.phase == .running) && s.ownCond .resting
    && s.watch.rest == .elapsed && s.watch.inBand == s.params.persist && s.watch.latch.isEmpty

/-- R96: the readmission trigger tested. -/
def State.testReadmission (s : State) : State :=
  s.when s.readmissionMet fun s => s.ownerWrite .live FaultClass.none

/-! ## The arming check (R129 to R131) -/

/-- R130 step 3: the values lie in the arming bands. -/
def armingBand (p : Params) (v : PassValues) : Bool :=
  decide (p.armLow ≤ v.ch0) && decide (v.ch0 ≤ p.armHigh) && decide (p.supplyLow < v.ch1)
    && decide (p.inputLow < v.ch3) && decide (v.ch2 < p.heatHigh)

/-- R130: a pass that started at a moment serves the check. -/
def Watch.servedBy (start : Time) (w : Watch) : Bool :=
  w.check == .senseWait &&
  match w.armRequest with
  | some t => decide (t ≤ start)
  | none => false

/-- R130 step 3: the check evaluated at the end of the pass that serves it. -/
def State.evaluateCheck (v : PassValues) (s : State) : State :=
  if armingBand s.params v && s.watch.latch.isEmpty then s.checkArmed
  else ((s.checkRefused FaultClass.refused.byte).ownerWrite .resting FaultClass.refused).closeCmd

/-- R130 step 1: an active cell's check begins. -/
def State.beginActive (s : State) : State :=
  if s.bypass.state = .opened then s.senseStep
  else (s.onWatch fun w => { w with check := .openWait }).openCmd .arm

/-- R131: a spare cell's check begins. -/
def State.beginSpare (s : State) : State :=
  if s.bypass.state = .closed then s.checkArmed
  else (s.onWatch fun w => { w with check := .closeWait }).closeCmd

/-- R129: the test at the start of a check: LIVE with an empty latch goes on; otherwise REFUSED with the entry's class
(the leading class where a LIVE entry stands beside a latch: log 23) and the CLOSE of a refused check (R142, log 45). -/
def State.beginCheck (go : State → State) (s : State) : State :=
  match s.ownEntry with
  | some e =>
    if e.cond = .live then if s.watch.latch.isEmpty then go s else (s.checkRefused s.watch.leading.byte).closeCmd
    else (s.checkRefused e.cls.byte).closeCmd
  | none => s

/-- R129: the arming check started on entry to ARMING, by the role in the plan in force. -/
def State.startCheck (s : State) : State :=
  let s1 := s.onWatch fun w => { w with check := .idle, sentArmed := false, sentRefused := false }
  match s1.cellRole with
  | .active _ => s1.beginCheck State.beginActive
  | .spare => s1.beginCheck State.beginSpare
  | .out => s1
  | .none => s1

/-! ## The end of a pass (R124) -/

/-- R95: the in-band count after a pass. -/
def Watch.banded (persist : Nat) (inBand : Bool) (w : Watch) : Watch :=
  { w with inBand := if inBand then min (w.inBand + 1) persist else 0 }

/-- R124: the assertions of a pass handled, trip high first. `w` is Cell Watch before the pass. -/
def State.handleAssertions (w : Watch) (v : PassValues) (s : State) : State :=
  let s1 := s.when (assertsNow s.params.persist (condTripHigh s.params v) w.tripHigh)
    (State.hardFault FaultClass.linkHigh)
  match softAssertion s.params v w with
  | some k => s1.softFault k
  | none => s1

/-- R124: a pass end with a valid working copy: counts, assertions, the in-band count, readmission, the arming check. -/
def State.classifyPass (start : Time) (v : PassValues) (s : State) : State :=
  let s1 := (s.onWatch (Watch.counted s.params v)).handleAssertions s.watch v
  let s2 := (s1.onWatch (Watch.banded s.params.persist (inBandPass s.params v))).testReadmission
  s2.when (s2.watch.servedBy start) (State.evaluateCheck v)

/-- R120, R122, R124: Cell Watch takes the four slots at a pass end; without limits it classifies nothing. -/
def State.passEnd (start : Time) (s : State) : State :=
  let v := s.scanner.values
  ((s.onScanner Scanner.takeAll).onWatch fun w => { w with passSeen := true }).when s.store.valid
    (State.classifyPass start v)

/-! ## The join assertion's content (R11, R124) -/

/-- R124: the soft standing Cell Watch reports at the join assertion: a class when out of band. -/
def Watch.softStanding (w : Watch) : Option FaultClass :=
  if !w.passSeen then some FaultClass.refused
  else if 0 < w.linkLow then some FaultClass.linkLow
  else if 0 < w.heat then some FaultClass.heat
  else if 0 < w.supply then some FaultClass.supply
  else if 0 < w.input then some FaultClass.input
  else if 0 < w.tripHigh then some FaultClass.refused
  else none

/-- R11: the line station's latest STATE shows RUNNING or REVISING. -/
def State.lineDrives (s : State) : Bool :=
  match (s.heardAt 0).state with
  | some h => h.phase.drives
  | none => false

/-- R11: the content the join assertion gives the own entry. -/
def State.assertedContent (s : State) : Condition × FaultClass :=
  if !s.watch.latch.isEmpty then (.faulted, s.watch.leading)
  else if s.lineDrives then (.resting, FaultClass.isolation)
  else
    match s.watch.softStanding with
    | some k => (.resting, k)
    | none => (.live, FaultClass.none)

/-- R11, R141: the join assertion. -/
def State.joinAssertion (s : State) : State :=
  match s.ownIndex with
  | some i => (s.assertEntry i s.assertedContent.1 s.assertedContent.2).followFaulted
  | none => s

/-! ## Standing in a revision (R81) -/

/-- R81: a cell's standing in a revision. The table has no row for a RESTING entry of role NONE: the model gives it the
standing of one out of the string, which escalates nothing (log 53). -/
def State.standing (s : State) : Standing :=
  match s.ownEntry with
  | some e =>
    match e.cond with
    | .resting => if s.cellRole.isActive then .withdrawing else .restingOut
    | .live => if s.cellRole.isActive ∨ s.cellRole = .spare then .inService else .readmitting
    | .faulted => .hardFault
    | .bypassed => .hardFault
    | .silent => .none
  | none => .none

/-- R93, R94: the alarm a withdraw that is not agreed requests, in the class of the own entry. -/
def State.escalate (s : State) : State :=
  match s.ownEntry with
  | some e => s.when (s.standing == .withdrawing && s.round.phase.drives) (State.localAlarm e.cls)
  | none => s

/-! ## Fault reset (R134) -/

/-- R134: the cause of a latched class is clear. -/
def Watch.causeClear (feedback : Option Bool) (w : Watch) (k : Nat) : Bool :=
  if k = 1 then w.bridgeFlt != some true
  else if k = 2 then w.cellFlt != some true
  else if k = 3 then w.tripHigh == 0
  else feedback == some true

/-- R134: the classes that stay latched. -/
def Watch.remaining (feedback : Option Bool) (w : Watch) : List Nat := w.latch.filter fun k => !w.causeClear feedback k

/-- R134: a fault reset at a cell whose entry is BYPASSED. -/
def State.resetBypassed (s : State) : State :=
  match s.watch.remaining s.bypass.feedback with
  | [] => (s.onWatch fun w => { w with latch := [], leading := FaultClass.none }).ownerWrite .live FaultClass.none
  | k :: rest =>
    if (k :: rest).contains s.watch.leading.toNat then s.onWatch fun w => { w with latch := k :: rest }
    else
      (s.onWatch fun w => { w with latch := k :: rest, leading := BitVec.ofNat 4 k }).ownerWrite .bypassed
        (BitVec.ofNat 4 k)

/-- R134: a fault reset handed to Cell Watch. -/
def State.faultReset (s : State) : State := s.when (s.ownCond .bypassed) State.resetBypassed

end Sys2Proof.Machine
end

