-- ==== Sys2Proof/Machine/EnterOps.lean ====
section
/-! DEFINITION. Entry to a phase with everything that follows from it at once: commands to the bypass, the arming check and the
STEP decision, the catch, RELEASE, and the further transitions that a phase makes on entry (R41, R46, R49, R51, R52);
adoption (R47, R76, R77, R87, R88) and the switch announcement (R83, R84). -/

namespace Sys2Proof.Machine

/-! ## What an entry has other blocks do -/

/-- R180: the line station's STEP on entry to ARMING: none is REFUSED, otherwise the reason it is refused for. -/
def State.stepRefusal (s : State) : Option Byte :=
  if sampledAsserted s.port.driveTrip then some FaultClass.drive.byte
  else if !sampledAsserted s.port.runReq then some reasonNoRun
  else if s.recordHolds .expired then some reasonNoRun
  else if !s.port.record.valid || (s.plan.inForce.bind Plan.digest?) != some s.port.record.digest then some reasonNoRun
  else none

/-- R180: the line station's STEP: ARMED with reason 0, or REFUSED with its reason, of the plan in force; none without a
plan. -/
def State.lineStep (s : State) : Option StepDecision :=
  s.plan.inForce.map fun p =>
    match s.stepRefusal with
    | some w => ⟨stepRefused, p.revision, p.digest?.getD 0, w⟩
    | none => ⟨stepArmed, p.revision, p.digest?.getD 0, 0⟩

/-- R173, R180: the line station's STEP decided, queued and held as the STEP decision. -/
def State.decideStep (s : State) : State :=
  match s.lineStep with
  | some d => (s.enqueue (.step d.code d.revision d.digest d.reason)).onPort fun p => { p with stepDecision := some d }
  | none => s

/-- R160: the isolation write: a LIVE or RESTING own entry is requested RESTING class ISOLATION, which under active authority
restarts the rest hold-off, also where the entry already rests so and R9 leaves it as it is (log 54). -/
def State.isolationWrite (s : State) : State :=
  s.when (s.ownCond .live || s.ownCond .resting) fun s =>
    (s.ownerWrite .resting FaultClass.isolation).when s.ownedIndex.isSome (State.timeRest .resting)

/-- R179: RELEASE is asserted at an entry to RUNNING from `p0`: from a phase in which the drive did not modulate, with a plan
in force and run request present. -/
def State.releaseRises (p0 : Phase) (s : State) : Bool :=
  s.isLine && !p0.drives && s.plan.inForce.isSome && s.round.facts.runReq

/-- R102, R129, R142, R160, R179, R180: what an entry to `p` from `p0` has the other blocks do. -/
def State.commandsOnEntry (p0 p : Phase) (s : State) : State :=
  match p with
  | .arming => if s.isLine then s.decideStep else s.startCheck
  | .catching => s.when s.isLine State.startCatch
  | .running => s.when (s.releaseRises p0) State.supplyCatch
  | .joining => s.closeCmd
  | .isolated => (s.closeCmd).isolationWrite
  | _ => s

/-- R30: entry to a phase, with the commands that go with it. -/
def State.enterPhase (p : Phase) (s : State) : State := (s.enterBase p).commandsOnEntry s.round.phase p

/-! ## Tests made on entry -/

/-- R49: the phase a catch outcome leads to. -/
def phaseAfterCatch (demand : Bool) : CatchOutcome → Option Phase
  | .caught => some .arming
  | .carried => some .arming
  | .cold => some .arming
  | .standstill => some (if demand then .arming else .halted)
  | .failed => some .halted
  | .expired => some .halted
  | .none => none

/-- R49: the catch block of the station's own epoch. -/
def State.heldOutcome (s : State) : Option CatchOutcome :=
  match s.round.facts.catchHeld with
  | some c => if c.epoch = s.round.epoch then some c.outcome else none
  | none => none

/-- R49: the phase that the line station's latest STATE ends CATCHING with. -/
def State.lineStatePast (s : State) : Option Phase :=
  match (s.heardAt 0).state with
  | some h =>
    if h.epoch = s.round.epoch then
      match h.phase with
      | .halted => some .halted
      | .arming => some .arming
      | .running => some .arming
      | .revising => some .arming
      | _ => none
    else none
  | none => none

/-- R49: the phase CATCHING is left for. -/
def State.catchExit (s : State) : Option Phase :=
  match s.heldOutcome with
  | some o => phaseAfterCatch s.round.runDemand o
  | none => s.lineStatePast

/-- R51: the station numbers a complete armed set holds: station 0 and every active and spare cell. -/
def Plan.armedNeeded (p : Plan) : List Nat :=
  match p.body with
  | some b =>
    0 :: (b.active.a.map (stationOfCell 0) ++ b.active.b.map (stationOfCell 1) ++ b.active.c.map (stationOfCell 2)
      ++ b.spares.map fun c => stationOfCell c.phase c.pos)
  | none => [0]

/-- R51: the armed set is complete for the plan in force. -/
def State.armedComplete (s : State) : Bool :=
  match s.plan.inForce with
  | some p => p.armedNeeded.all fun n => s.round.armed.contains n
  | none => false

/-- R46: every voter shows the epoch and the digest of the candidate, and the line station is present. The plan present flag is
not asked: a STATE without a plan, whose digest field is 0000h, matches a candidate of digest 0000h (log 55). -/
def State.planAgreed (digest : Half) (s : State) : Bool :=
  s.present && s.everyVoter fun h => h.epoch == s.round.epoch && h.planDigest == digest

/-- R43: roster agreement. -/
def State.rosterAgreed (s : State) : Bool :=
  s.present && s.digestStable
    && s.everyVoter fun h => h.epoch == s.round.epoch && h.rosterDigest == s.roster.digest

/-- R47: the phase entered at adoption. -/
def State.phaseAfterAdoption (s : State) : Phase :=
  if s.round.tripRound && s.round.facts.brakeOpen then .catching else if s.round.runDemand then .arming else .halted

/-! ## STEPs recorded (R50) -/

/-- R50: a STEP recorded for the plan in force. -/
def Round.recordStep (station : Nat) (armed : Bool) (r : Round) : Round :=
  if armed then { r with armed := insertRising station r.armed }
  else
    { r with
      armed := r.armed.filter fun n => n != station
      refusal := if station = 0 then .line else if r.refusal = .line then .line else .cell }

/-- R114: what a change of the armed set does at the line station when it removes station 0 while the overdue flag is
set. -/
def State.afterRemoval (before : List Nat) (s : State) : State :=
  s.when (before.contains 0 && !s.round.armed.contains 0) State.overdueExpiry

/-- R50, R114: a STEP recorded. -/
def State.recordStep (station : Nat) (armed : Bool) (s : State) : State :=
  (s.onRound (Round.recordStep station armed)).afterRemoval s.round.armed

/-- R50: the early steps of a digest recorded at an adoption, and all of them emptied. -/
def State.recordEarly (digest : Half) (s : State) : State :=
  ((s.round.early.filter fun e => e.digest == digest).foldl (fun s e => s.recordStep e.station e.armed) s).onRound
    fun r => { r with early := [] }

/-- R47, R50: the armed set and the refusal record cleared at an adoption, the early steps of the new plan recorded. -/
def State.clearArmed (digest : Half) (s : State) : State :=
  ((s.onRound fun r => { r with armed := [], refusal := .none }).afterRemoval s.round.armed).recordEarly digest

/-! ## Adoption at agreement (R47, R76) -/

/-- R142: at adoption a cell whose role is OUT closes. -/
def State.closeIfOut (s : State) : State := s.when (s.isCell && s.cellRole == .out) State.closeCmd

/-- R47, R76: the candidate `c` with its digest made the plan in force and handed on. -/
def State.adoptCandidate (c : Plan) (digest : Half) (s : State) : State :=
  ((((s.onPlan (PlanUnit.adoptPlan c)).clearArmed digest).closeIfOut).buildRecord c)

/-! ## The transitions a phase makes on entry -/

/-- R41, R46, R49, R51, R52: the transition that the phase just entered makes at once, if any: the state from which it is
made and the phase it leads to (logs 12 and 26). -/
def State.entryTransition (s : State) : Option (State × Phase) :=
  match s.round.phase with
  | .halted =>
    if s.round.deferred then some (s, .settling)
    else if s.round.runDemand then some (s, if s.plan.inForce.isSome then .arming else .settling)
    else none
  | .planning =>
    match s.builtCandidate with
    | some c => if c.verdict = .notViable then some (s, .lockout) else
      match s.viableCandidate with
      | some (c, d) =>
        if s.planAgreed d then
          let s1 := s.adoptCandidate c d
          some (s1, s1.phaseAfterAdoption)
        else none
      | none => none
    | none => none
  | .catching => s.catchExit.map fun p => (s, p)
  | .arming =>
    if s.heldOutcome = some .expired then some (s, .halted)
    else if s.round.refusal = .line then some (s, .halted)
    else if s.round.refusal = .cell then none
    else if s.armedComplete then some (s, .running)
    else none
  | .running =>
    if !s.round.facts.runReq then some (s, .halted)
    else if s.round.deferred then some (s.onRound fun r => { r with deferred := false }, .revising)
    else none
  | _ => none

/-- R51: a refusal by a cell station found in ARMING: a counted resettle. -/
def State.cellRefusal (s : State) : State :=
  s.when (s.round.phase == .arming && s.heldOutcome != some .expired && s.round.refusal == .cell) State.resettle

/-- The transitions made on entry, one after the other, until the phase stands (log 35). -/
def State.settleEntry : Nat → State → State
  | 0, s => s
  | fuel + 1, s =>
    match s.entryTransition with
    | some (s1, p) => State.settleEntry fuel (s1.enterPhase p)
    | none => s.cellRefusal

/-- The greatest number of transitions one event makes (log 35). -/
def entryFuel : Nat := 8

/-- R30: entry to a phase, with all that follows at once. -/
def State.enter (p : Phase) (s : State) : State := State.settleEntry entryFuel (s.enterPhase p)

/-! ## Verdicts and the switch announcement -/

/-- R83: the line station is in revision agreement on a candidate's digest. -/
def State.revisionAgreed (digest : Half) (s : State) : Bool :=
  s.isLine && s.round.phase == .revising && s.port.switchPending.isNone
    && s.everyVoter fun h => h.epoch == s.round.epoch && h.planPresent && h.planDigest == digest

/-- R84: enough is left of the REVISE timer. -/
def State.revisionTimeLeft (s : State) : Bool :=
  match s.round.phaseTimer with
  | some d => decide (s.now + (s.params.lead + 2) * s.report ≤ d)
  | none => false

/-- R84: the switch mark: the number of the next LINE frame queued, plus LEAD. -/
def State.nextSwitchMark (s : State) : Half := s.port.lastMark + 1 + BitVec.ofNat 16 s.params.lead

/-- R84: a switch announced for the candidate. -/
def State.announce (c : Plan) (digest : Half) (s : State) : State :=
  (s.onPort fun p => { p with switchPending := some ⟨c.revision, s.nextSwitchMark, digest⟩ }).presentRecord c

/-- R83, R84: revision agreement tested. -/
def State.testRevision (s : State) : State :=
  match s.viableCandidate with
  | some (c, d) => s.when (s.revisionAgreed d && s.revisionTimeLeft) (State.announce c d)
  | none => s

/-- A phase entered, where a test calls for one. -/
def State.enterIf (c : Bool) (p : Phase) (s : State) : State := s.when c (State.enter p)

/-- R46, R49, R51: the transition that the present phase calls for, tested again at an event. -/
def State.testTransition (s : State) : State := State.settleEntry entryFuel s

/-- R43, R46, R83: the agreement tests of the present phase. -/
def State.testAgreement (s : State) : State :=
  match s.round.phase with
  | .settling => s.enterIf s.rosterAgreed .planning
  | .planning => s.testTransition
  | .revising => s.testRevision
  | _ => s

/-- R46, R67, R69, R82, R83, R94: the verdict handed to the Round Controller. -/
def State.handVerdict (s : State) : State :=
  match s.round.phase with
  | .planning => s.testTransition
  | .revising =>
    match s.builtCandidate with
    | some c => if c.verdict = .notViable then s.escalate else s.testRevision
    | none => s
  | _ => s

/-! ## Adoption at a switch mark (R77, R87, R88) -/

/-- R77: a LINE frame of an epoch, mark and switch block adopts: the candidate and its digest. -/
def State.switchAdopts (epoch mark : Half) (w : SwitchBlock) (s : State) : Option (Plan × Half) :=
  if s.round.phase = .revising ∧ epoch = s.round.epoch ∧ mark = w.mark then
    match s.viableCandidate with
    | some (c, d) => if c.revision = w.rev ∧ d = w.digest then some (c, d) else none
    | none => none
  else none

/-- Table 4-2: the command a change of role brings at a switch mark (log 38). -/
def State.roleAction (old : CellRole) (s : State) : State :=
  if !s.isCell then s
  else
    match s.cellRole with
    | .active _ =>
      if old.isActive ∨ s.bypass.state = .opened ∨ s.bypass.state = .opening then s else s.openCmd .switch
    | _ => if s.bypass.state = .closed ∨ s.bypass.state = .closing then s else s.closeCmd

/-- R87: the candidate `c` adopted at its switch mark. -/
def State.adoptSwitch (c : Plan) (digest : Half) (s : State) : State :=
  let s1 := ((s.onPlan (PlanUnit.adoptPlan c)).clearArmed digest).roleAction s.cellRole
  (s1.when s.isLine (State.switchRecords c)).enter .running

end Sys2Proof.Machine
end

