-- ==== Sys2Proof/Machine/ReceiveOps.lean ====
section
/-! DEFINITION. What a valid frame from another station does, whatever its kind (R29, R54, R147, R156, R160), and what each
kind then does (R16, R34, R36, R50, R57, R166, R168). -/

namespace Sys2Proof.Machine

/-! ## The frame heard -/

/-- The station number of a frame. -/
def Frame.number (f : Frame) : Nat := f.station.toNat

/-- R166: the phase of a STATE payload; none above 10. -/
def StatePayload.phase? (p : StatePayload) : Option Phase := Phase.ofCode p.phase

/-- Table 8-2: what a STATE writes into the heard table; nothing when its phase code is out of range (R166). -/
def heardStateOf (now : Time) (f : Frame) : Option HeardState :=
  match f.payload with
  | .state p =>
    match p.phase? with
    | some ph => some ⟨now, f.epoch, ph, p.rosterDigest, p.planPresent, p.planRev, p.planDigest, p.cfgDigest, p.lineLost⟩
    | none => none
  | _ => none

/-- R156, R157: a heard-table entry on a frame. -/
def HeardEntry.hear (now : Time) (f : Frame) (e : HeardEntry) : HeardEntry :=
  ⟨.heard, some now, some f.epoch, (heardStateOf now f).or e.state⟩

/-- R157: an entry that returns to HEARD. -/
def HeardEntry.returns (e : HeardEntry) : Bool := e.status == .quiet || e.status == .silent

/-- R156, R160: the BIF on a valid frame from another station: the heard table, the isolation clock, the medium quiet since
its end. -/
def Bif.hear (now : Time) (f : Frame) (u : Bif) : Bif :=
  { u with
    heard := setAt u.heard f.number ((u.heard.getD f.number HeardEntry.init).hear now f)
    isoClock := now, quietStart := some now }

/-- R147: a frame handed on by its row's command: its own number would make it an echo or a duplicate (R149, R161), which
are rows of their own. -/
def State.fromAnother (f : Frame) (s : State) : Bool := decide (f.number ≠ s.number)

/-- R156, R157: the frame heard, and the station's STATE queued when its sender returns. -/
def State.hear (f : Frame) (s : State) : State :=
  (s.onBus (Bif.hear s.now f)).when (s.heardAt f.number).returns State.queueState

/-- R54: the first frame heard in ISOLATED takes the station to JOINING. -/
def State.endIsolation (s : State) : State := s.enterIf (s.round.phase == .isolated) .joining

/-- R29: how a newer epoch is adopted in the phases that do not only store it. -/
def State.adoptEpoch (f : Frame) (s : State) : State :=
  let s1 := s.setEpoch f.epoch
  match f.payload with
  | .alarm _ _ _ => s1.takeTrip
  | .state p => if p.phase? = some .lockout then s1.enterBase .lockout else s1.enterBase .tripped
  | _ => s1.enterBase .tripped

/-- R29: the frame's epoch taken. In JOINING the first frame since the reset is stored whatever its epoch. -/
def State.takeEpoch (f : Frame) (s : State) : State :=
  let newer := epochNewer f.epoch s.round.epoch
  let first := s.round.phase == .joining && !s.round.firstTaken
  let s1 := s.onRound fun r => { r with firstTaken := true }
  if s.round.phase = .joining then if newer || first then s1.setEpoch f.epoch else s1
  else if !newer then s1
  else if s.round.phase = .lockout then s1.setEpoch f.epoch
  else s1.adoptEpoch f

/-- R147: what every valid frame from another station does before its kind is looked at. -/
def State.takeFrame (f : Frame) (s : State) : State := ((s.hear f).endIsolation).takeEpoch f

/-- A received transmission of a kind: the frame's effect, when it is valid, of that kind and from another station; in every
other case the medium alone (log 6). -/
def State.receive (k : Kind) (x : Transmission) (take : Frame → State → State) (s : State) : State :=
  match examineKind k x with
  | some f => if s.fromAnother f then take f s else s.onBus fun u => { u with quietStart := some s.now }
  | none => s.onBus fun u => { u with quietStart := some s.now }

/-! ## ALARM (R34) -/

/-- R34: a phase in which an ALARM of equal epoch finds the round overtaken. -/
def Phase.overtaken (p : Phase) : Bool :=
  p == .halted || p == .planning || p == .catching || p == .arming || p == .running || p == .revising

/-- R34: an ALARM of equal epoch. -/
def State.equalAlarm (s : State) : State :=
  s.when s.round.phase.overtaken fun s => (s.setEpoch (epochSucc s.round.epoch)).takeTrip

/-- R34: an ALARM taken by its epoch. The epoch held before the frame decides which row applies. -/
def State.takeAlarm (f : Frame) (s : State) : State :=
  (s.takeFrame f).when (f.epoch == s.round.epoch && !s.round.phase.outside) State.equalAlarm

/-! ## SUMMARY (R16, R27) -/

/-- R27: every digest-difference count returned to 0. -/
def State.clearDiff (s : State) : State :=
  s.onRoster fun r => { r with diff := List.replicate Config.stations 0 }

/-- R16, R29: a SUMMARY from another station: its epoch, then the merge (R23 allows either order: log 47). -/
def State.takeSummary (f : Frame) (s : State) : State :=
  match f.payload with
  | .summary items => ((s.takeFrame f).clearDiff).mergeSummary items
  | _ => s.takeFrame f

/-! ## STEP (R50, R51) -/

/-- R50: an early step kept, the latest of its sender. -/
def keepEarly (e : EarlyStep) (l : List EarlyStep) : List EarlyStep := l.filter (fun x => x.station != e.station) ++ [e]

/-- R50: the plan in force has a digest. -/
def State.planHasDigest (d : Half) (s : State) : Bool := (s.plan.inForce.bind Plan.digest?) == some d

/-- R50, R166: a STEP of the station's epoch: recorded for the plan in force, or kept as an early step; a code other than 1
and 2 is neither (log 25). -/
def State.noteStep (station : Nat) (code : Byte) (digest : Half) (s : State) : State :=
  if code = stepArmed ∨ code = stepRefused then
    if s.planHasDigest digest then s.recordStep station (code == stepArmed)
    else s.onRound fun r => { r with early := keepEarly ⟨station, code == stepArmed, digest⟩ r.early }
  else s

/-- R51: the tests of ARMING after a STEP. -/
def State.testArming (s : State) : State := s.when (s.round.phase == .arming) State.testTransition

/-- R50, R51: a STEP taken, from another station or as the station's own. -/
def State.stepTaken (f : Frame) (s : State) : State :=
  match f.payload with
  | .step code _ digest _ =>
    s.when (f.epoch == s.round.epoch) fun s => (s.noteStep f.number code digest).testArming
  | _ => s

/-- R29, R50: a STEP from another station. -/
def State.takeStep (f : Frame) (s : State) : State := (s.takeFrame f).stepTaken f

/-! ## STATE (R27, R32, R43, R46, R49, R57, R168) -/

/-- R57: a STATE that shows LOCKOUT at the station's own epoch. -/
def State.spreadLockout (h : HeardState) (s : State) : State :=
  let held := match s.round.lockoutClear with
    | some t => decide (s.now < t + 2 * s.report)
    | none => false
  s.when (h.phase == .lockout && h.epoch == s.round.epoch && !s.round.phase.dropsAlarm && !held)
    (State.enterBase .lockout)

/-- R27: the digest-difference count on a STATE from station `n`. -/
def State.countDifference (n : Nat) (h : HeardState) (s : State) : State :=
  if s.round.phase.outside then s
  else if s.isVoter n && h.epoch == s.round.epoch && h.rosterDigest != s.roster.digest then
    if s.roster.diff.getD n 0 = 0 then s.onRoster fun r => { r with diff := setAt r.diff n 1 }
    else (s.queueSummary).onRoster fun r => { r with diff := setAt r.diff n 0 }
  else s.onRoster fun r => { r with diff := setAt r.diff n 0 }

/-- R49: CATCHING tested on a STATE of the line station. -/
def State.testCatching (s : State) : State := s.when (s.round.phase == .catching) State.testTransition

/-- R168: the line station's answer to line lost. -/
def State.answerLineLost (h : HeardState) (s : State) : State := s.when (s.isLine && h.lineLost) State.queueState

/-- R168: what a STATE in range does after its epoch is taken, in the order of log 15. -/
def State.stateTaken (n : Nat) (h : HeardState) (s : State) : State :=
  let s1 := ((s.spreadLockout h).countDifference n h).silenceCheckOf n
  let s2 := (s1.when (n == 0) State.checkPresence).when (n == 0) State.testCatching
  (s2.testAgreement).answerLineLost h

/-- R29, R166, R168: a STATE from another station. Of one whose phase code is above 10 the model takes the frame and its
epoch alone: no digest-difference count (R27), no silence check of its sender's entry (R12), no line-lost answer (R168)
(log 41). -/
def State.takeState (f : Frame) (s : State) : State :=
  match heardStateOf s.now f with
  | some h => (s.takeFrame f).stateTaken f.number h
  | none => s.takeFrame f

/-! ## LINE (R36, R37, R58, R59, R86, R92, R97) -/

/-- R36, R166: the catch block held after a LINE frame of an epoch. -/
def catchHeldAfter (epoch : Half) (l : LinePayload) (old : Option HeldCatch) : Option HeldCatch :=
  match l.catchBlock with
  | some c =>
    match CatchOutcome.ofCode c.outcome with
    | some o => some ⟨o, epoch⟩
    | none => old
  | none => old

/-- R36: the line facts after a LINE frame. -/
def LineFacts.taken (epoch : Half) (l : LinePayload) (x : LineFacts) : LineFacts where
  runReq     := l.runReq
  prevRun    := l.runReq
  brakeOpen  := l.brakeOpen
  faultCount := some l.faultCount
  catchHeld  := catchHeldAfter epoch l x.catchHeld
  mark       := some l.mark

/-- R37: a fresh run request: present now and absent in the frame before. -/
def LineFacts.freshRun (l : LinePayload) (x : LineFacts) : Bool := l.runReq && !x.prevRun

/-- R58, R59: the fault-reset count differs from the last seen. The first frame after a reset is no change. -/
def LineFacts.countChanged (l : LinePayload) (x : LineFacts) : Bool :=
  match x.faultCount with
  | some c => c != l.faultCount
  | none => false

/-- R36, R37: the Round Controller's facts and run demand after a LINE frame. -/
def Round.facing (epoch : Half) (l : LinePayload) (r : Round) : Round :=
  { r with
    facts := r.facts.taken epoch l
    runDemand := if l.runReq then r.runDemand || r.facts.freshRun l else false }

/-- R58: a fault-reset clearing of LOCKOUT. -/
def State.clearLockout (s : State) : State :=
  let s1 := (s.setEpoch (epochSucc s.round.epoch)).onRound fun r => { r with attempts := [], resettle := 0 }
  let s2 := (s1.onPlan fun u => { u.discard with inForce := none }).clearRecord
  ((s2.onRound fun r => { r with lockoutClear := some s.now }).faultReset).enter .settling

/-- R58, R59: a changed fault-reset count with run request absent, by the phase that takes it. -/
def State.countAction (s : State) : State :=
  match s.round.phase with
  | .lockout => s.clearLockout
  | .halted => s.faultReset
  | _ => s

/-- R92: a station with a plan in force of another revision fails the switch at its mark frame. -/
def failsAtMark (mark : Half) (w : Option SwitchBlock) (p : Plan) : Bool :=
  match w with
  | some w => mark == w.mark && p.revision != w.rev
  | none => false

/-- R92: a station with a plan in force of another revision has missed the mark frame of its switch record. -/
def failsPastMark (mark : Half) (r : Option SwitchRecord) (p : Plan) : Bool :=
  match r with
  | some r => serialNewer mark r.mark && p.revision != r.rev
  | none => false

/-- R92: the failed-switch test, after the adoption test. -/
def State.switchFailed (l : LinePayload) (s : State) : Bool :=
  match s.plan.inForce with
  | some p => failsAtMark l.mark l.switchBlock p || failsPastMark l.mark s.plan.switchRecord p
  | none => false

/-- R86, R97: the switch record after a LINE frame; a station without a plan clears it at a mark frame it cannot adopt. -/
def recordAfter (epoch : Half) (l : LinePayload) (planHeld : Bool) : Option SwitchRecord :=
  match l.switchBlock with
  | some w => if l.mark = w.mark ∧ planHeld = false then none else some ⟨epoch, w.rev, w.mark, w.digest⟩
  | none => none

/-- R77, R86, R87: the adoption test of a LINE frame. -/
def State.testSwitch (epoch : Half) (l : LinePayload) (s : State) : State :=
  match l.switchBlock with
  | some w =>
    match s.switchAdopts epoch l.mark w with
    | some (c, d) => s.adoptSwitch c d
    | none => s
  | none => s

/-- R86, R92: the switch record replaced, and a failed switch's alarm requested. -/
def State.followSwitch (epoch : Half) (l : LinePayload) (s : State) : State :=
  let failed := s.switchFailed l
  (s.onPlan fun u => { u with switchRecord := recordAfter epoch l u.inForce.isSome }).when failed
    (State.localAlarm FaultClass.line)

/-- R86: what a LINE frame of the station's own epoch does in RUNNING and REVISING, in order. -/
def State.takeSwitch (epoch : Half) (l : LinePayload) (s : State) : State :=
  s.when (epoch == s.round.epoch && s.round.phase.drives) fun s =>
    let s1 := s.testSwitch epoch l
    s1.when s1.round.phase.drives (State.followSwitch epoch l)

/-- R37, R41, R49, R51, R52, R53: the phase rules that read a LINE frame's facts. `fresh` says that it set run demand. -/
def State.actOnFacts (fresh : Bool) (s : State) : State :=
  match s.round.phase with
  | .halted => s.when fresh State.testTransition
  | .running => s.enterIf (!s.round.facts.runReq) .halted
  | .revising => s.enterIf (!s.round.facts.runReq) .halted
  | .catching => s.testTransition
  | .arming => s.testTransition
  | _ => s

/-- R36: a LINE frame from station 0 taken, by a cell station or as the line station's own, in the order of log 16. -/
def State.lineTaken (epoch : Half) (l : LinePayload) (s : State) : State :=
  let fresh := s.round.facts.freshRun l
  let changed := s.round.facts.countChanged l
  let s1 := s.onRound (Round.facing epoch l)
  let s2 := s1.when (changed && !l.runReq) State.countAction
  (s2.takeSwitch epoch l).actOnFacts (fresh && s1.round.phase == .halted)

/-- R29, R36: a LINE frame from another station; the Round Controller takes those from station 0. -/
def State.takeLine (f : Frame) (s : State) : State :=
  match f.payload with
  | .line l => (s.takeFrame f).when (f.number == 0) (State.lineTaken f.epoch l)
  | _ => s.takeFrame f

end Sys2Proof.Machine
end

