-- ==== Sys2Proof/Machine/BusOps.lean ====
section
/-! DEFINITION. The report tick (R158) with all it drives, the exit from JOINING (R39, R40, R188), and the ends of a
transmission attempt (R149 to R153). -/

namespace Sys2Proof.Machine

/-! ## The exit from JOINING -/

/-- R39, R188: the line station's latest STATE, when less than QUIET_LIMIT report periods old. -/
def State.lineState (s : State) : Option HeardState :=
  match (s.heardAt 0).state with
  | some h => if s.now - h.time < s.quietTime then some h else none
  | none => none

/-- R188: the mismatch flag set or cleared at a test after the window. -/
def State.testMismatch (s : State) : State :=
  s.when (s.isCell && s.store.valid && s.fitted && !s.bus.duplicate) fun s =>
    s.onRound fun r =>
      { r with
        mismatchFlag := match s.lineState with
          | some h => h.cfgDigest != s.store.digest
          | none => false }

/-- R39: the phase a cell station leaves JOINING for, by the line station's latest phase. -/
def phaseJoined : Phase → Phase
  | .halted => .halted
  | .running => .running
  | .revising => .running
  | .lockout => .lockout
  | _ => .settling

/-- R39: a cell station's exit: the phase entered, when the join conditions hold. -/
def State.cellExit (s : State) : Option Phase :=
  match s.lineState with
  | some h =>
    if !s.bus.duplicate && s.store.valid && s.fitted && h.cfgDigest == s.store.digest && !h.phase.outside then
      some (phaseJoined h.phase)
    else none
  | none => none

/-- A voter's latest STATE shows LOCKOUT. -/
def State.someVoterLockedOut (s : State) : Bool := !s.everyVoter fun h => h.phase != .lockout

/-- R40: the line station's exit: the phase entered, when the join conditions hold. -/
def State.lineExit (s : State) : Option Phase :=
  if !s.bus.duplicate && s.store.valid then
    some (if s.someVoterLockedOut then .lockout
      else if s.everyVoter fun h => h.phase == .halted then .halted
      else .settling)
  else none

/-- R39, R40: the phase JOINING is left for. -/
def State.joinExit (s : State) : Option Phase := if s.isLine then s.lineExit else s.cellExit

/-- R39, R40: brake open, as the trip-round flag at a join into SETTLING reads it. -/
def State.brakeAtJoin (s : State) : Bool :=
  if s.isLine then sampledAsserted s.port.brakeOpen else s.round.facts.brakeOpen

/-- R39, R40: what the exit from JOINING sets before the entry: the trip-round flag on the way to SETTLING, and at a cell
station the resettle count 0 (log 40). -/
def State.prepareExit (p : Phase) (s : State) : State :=
  (s.when (p == .settling) fun s => s.onRound fun r => { r with tripRound := s.brakeAtJoin }).when s.isCell fun s =>
    s.onRound fun r => { r with resettle := 0 }

/-- R11, R39, R40: JOINING left for a phase: the entry with what follows at once, the join assertion (log 37). -/
def State.leaveJoining (p : Phase) (s : State) : State := ((s.prepareExit p).enter p).joinAssertion

/-- R188: the join conditions tested at a tick after the window. -/
def State.testJoin (s : State) : State :=
  if s.round.phase = .joining ∧ s.round.joinLeft = 0 then
    let s1 := s.testMismatch
    match s1.joinExit with
    | some p => s1.leaveJoining p
    | none => s1
  else s

/-! ## The report tick -/

/-- R158, R188: the next tick set, and the join window counted down. -/
def State.countTick (s : State) : State :=
  (s.onBus fun u => { u with nextTick := u.nextTick + s.report }).onRound fun r =>
    { r with joinLeft := if r.phase = .joining then r.joinLeft - 1 else r.joinLeft }

/-- R85, R159: the line station's LINE frame queued with the next mark number (the first is 1: log 11). -/
def State.queueLine (s : State) : State :=
  if s.isLine && s.store.valid && !s.barred then
    (s.onPort fun p => { p with lastMark := p.lastMark + 1 }).enqueue (.line (s.port.lastMark + 1))
  else s

/-- R174: the samples renewed, at the line station. -/
def State.renewInputs (s : State) : State := s.when s.isLine (State.onPort (Port.renewSamples s.now))

/-- R158: a report tick, in the order of log 14. -/
def State.tick (s : State) : State :=
  let s1 := (((s.countTick).renewInputs).onScanner (Scanner.trigger s.now .tick))
  let s2 := (((s1.queueLine).queueState).when (!s1.round.phase.outside) State.answerTick)
  (((s2.silenceCheck).checkPresence).testJoin).testAgreement

/-- R158: a tick is due. -/
def State.tickDue (s : State) : Bool := decide (s.bus.nextTick ≤ s.now)

/-! ## The transmission attempt -/

/-- R148: the access wait of a rank at a station. -/
def accessWait (rank station : Nat) : Time := 2 + (rank * 28 + station)

/-- R148: the head's access wait is over (the quiet of the medium: log 7). -/
def State.accessOver (g : QFrame) (s : State) : Bool :=
  match s.bus.quietStart with
  | some q => decide (q + accessWait g.rank s.number ≤ s.now)
  | none => false

/-- R85: the switch block of a LINE frame whose transmission begins. -/
def State.switchBlock (mark : Half) (s : State) : Option SwitchBlock :=
  match s.port.switchPending with
  | some w => if serialNewer mark w.mark then none else some w
  | none => none

/-- R171: a LINE frame's payload at its attempt. -/
def State.linePayload (mark : Half) (s : State) : LinePayload where
  mark        := mark
  runReq      := sampledAsserted s.port.runReq
  brakeOpen   := sampledAsserted s.port.brakeOpen
  dir         := sampledAsserted s.port.dir
  overhaul    := sampledAsserted s.port.overhaul
  slowZone    := sampledAsserted s.port.slowZone
  driveTrip   := sampledAsserted s.port.driveTrip
  faultCount  := s.port.faultCount
  encFreq     := (s.port.status.map StatusWord.encFreq).getD 0
  driveFreq   := (s.port.status.map StatusWord.driveFreq).getD 0
  driveAngle  := (s.port.status.map StatusWord.driveAngle).getD 0
  catchBlock  := s.catchBlock
  switchBlock := s.switchBlock mark

/-- R168: a STATE frame's payload at its attempt. -/
def State.statePayload (s : State) : StatePayload where
  phase        := s.round.phase.code
  planPresent  := s.planFields.1
  lineLost     := s.round.lineLost
  rosterDigest := s.roster.digest
  planRev      := s.planFields.2.1
  planDigest   := s.planFields.2.2
  cfgDigest    := s.store.digest

/-- R167: the payload a queued frame is stamped with. -/
def State.stampPayload (b : QBody) (s : State) : Payload :=
  match b with
  | .alarm o c p => .alarm o c p
  | .step c r d w => .step c r d w
  | .line m => .line (s.linePayload m)
  | .state => .state s.statePayload
  | .summary => .summary (s.roster.entries.map RosterEntry.item)

/-- R149, R167: the frame stamped at an attempt. -/
def State.stamp (b : QBody) (s : State) : Frame := ⟨BitVec.ofNat 8 s.number, s.round.epoch, s.stampPayload b⟩

/-- R149: the head marked in its attempt. -/
def markHead : List QFrame → List QFrame
  | [] => []
  | g :: rest => { g with inAttempt := true } :: rest

/-- R149: the attempt begun: the frame stamped; the quiet start stands until the receiver sees light (R146, log 7). A LINE
frame counts down the retirement at each attempt, retries included (R112, log 43). -/
def State.beginAttempt (g : QFrame) (s : State) : State :=
  (s.onBus fun u =>
    { u with
      queue := markHead u.queue, attempt := some ⟨s.stamp g.body, s.now⟩ }).when (g.body.kind == .line)
        State.retireExpired

/-- R148, R149: the head started, when sending is not barred, no attempt runs and the head's access wait is over. -/
def State.tryAttempt (s : State) : State :=
  match s.bus.queue with
  | g :: _ => s.when (!s.barred && s.bus.attempt.isNone && s.accessOver g) (State.beginAttempt g)
  | [] => s

/-- R153: the frame renewed in its attempt, as the new frame. -/
def QFrame.asRenewed (b : QBody) (g : QFrame) : QFrame :=
  { g with body := b, collisions := 0, inAttempt := false, renewed := none }

/-- R149, R151, R153: the queue after a completed or echo-missed attempt: the frame leaves, or stays renewed. -/
def leaveQueue : List QFrame → List QFrame
  | [] => []
  | g :: rest =>
    if g.inAttempt then
      match g.renewed with
      | some b => g.asRenewed b :: rest
      | none => rest
    else g :: leaveQueue rest

/-- R150, R153: the frame after a collision: the new frame when renewed, one collision more, or dropped at the limit. -/
def QFrame.collided (g : QFrame) : Option QFrame :=
  match g.renewed with
  | some b => some (g.asRenewed b)
  | none =>
    if g.body.kind ≠ .alarm ∧ Config.retryLimit ≤ g.collisions + 1 then none
    else some { g with collisions := g.collisions + 1, inAttempt := false }

/-- R150: the queue after a collision. -/
def collideQueue : List QFrame → List QFrame
  | [] => []
  | g :: rest => if g.inAttempt then g.collided.toList ++ rest else g :: collideQueue rest

/-- R149: a completed attempt at the BIF. -/
def Bif.completed (now : Time) (u : Bif) : Bif :=
  { u with queue := leaveQueue u.queue, attempt := none, echoMisses := 0, quietStart := some now }

/-- R150: a collision at the BIF. -/
def Bif.collided (now : Time) (u : Bif) : Bif :=
  { u with queue := collideQueue u.queue, attempt := none, echoMisses := 0, quietStart := some now }

/-- R151: an echo miss at the BIF: no light was seen, so the medium has been quiet since its earlier quiet start (R146,
R148). -/
def Bif.missed (u : Bif) : Bif :=
  { u with queue := leaveQueue u.queue, attempt := none, echoMisses := u.echoMisses + 1 }

/-- R27, R36, R50, R149: the station's own frame handed to its own blocks. -/
def State.takeOwn (f : Frame) (s : State) : State :=
  match f.payload with
  | .line l => s.when s.isLine (State.lineTaken f.epoch l)
  | .step _ _ _ _ => s.stepTaken f
  | .summary _ => s.clearDiff
  | _ => s

/-- R151, R160: isolation reported. -/
def State.isolate (s : State) : State := s.enter .isolated

end Sys2Proof.Machine
end

