-- ==== Sys2Proof/Machine/Run.lean ====
section
/-! DEFINITION. How a meaning is run: the time moved on to the event, then the effect, when the part is supplied and no reset is in force (log 5, R184). -/

namespace Sys2Proof.Machine

/-- The outcome of a command at a time: always a next state; without supply (log 5) and while a pin reset is in force
(R184) nothing but the time moves. -/
def State.runAt (t : Time) (effect : State → State) (s : State) : Host.Outcome State Fault Refusal :=
  .next ((s.advance t).when s.runs effect)

/-- The outcome of a command that is also taken during a pin reset (R186, R187, the coil's fall of R184); without supply nothing but the time
moves (log 5). -/
def State.runSupplied (t : Time) (effect : State → State) (s : State) : Host.Outcome State Fault Refusal :=
  .next ((s.advance t).when s.powered effect)

end Sys2Proof.Machine
end

