-- ==== Sys2Proof/Machine/BusCommands.lean ====
section
/-! DEFINITION. The meanings of the BIF's own events: ticks and timeouts (R157, R158, R160, R188) and the transmission attempt
(R148 to R151). -/

namespace Sys2Proof.Machine

/-- REPORT_TICK (R158). -/
def execReportTick (t : Time) (s : State) : Host.Outcome State Fault Refusal :=
  s.runAt t fun s => s.when s.tickDue State.tick

/-- JOIN_WINDOW_END (R188): the third report tick after the entry to JOINING (log 13). -/
def execJoinWindowEnd (t : Time) (s : State) : Host.Outcome State Fault Refusal :=
  s.runAt t fun s =>
    s.when (s.tickDue && s.round.phase == .joining && s.round.joinLeft == 1) State.tick

/-- HEARD_STATUS_TIMEOUT (R157): the entry's status follows its age. -/
def execHeardStatusTimeout (t : Time) (station : Nat) (s : State) : Host.Outcome State Fault Refusal :=
  s.runAt t fun s =>
    s.onBus fun u =>
      { u with
        heard := setAt u.heard station ((u.heard.getD station HeardEntry.init).aged s.now s.report s.quietTime) }

/-- ISOLATE_TIMEOUT (R160). -/
def execIsolateTimeout (t : Time) (s : State) : Host.Outcome State Fault Refusal :=
  s.runAt t fun s =>
    s.when (s.round.phase != .isolated && decide (s.bus.isoClock + ms s.params.isolate ≤ s.now)) State.isolate

/-- TRANSMISSION_ATTEMPT (R148, R149). -/
def execTransmissionAttempt (t : Time) (s : State) : Host.Outcome State Fault Refusal := s.runAt t State.tryAttempt

/-- DEFER (R148): the medium has become active; nothing starts before the next quiet start. -/
def execDefer (t : Time) (s : State) : Host.Outcome State Fault Refusal :=
  s.runAt t fun s => s.when s.bus.attempt.isNone fun s => s.onBus fun u => { u with quietStart := none }

/-- ATTEMPT_COMPLETED (R149): the frame leaves the queue and reaches the station's own blocks (its moment: log 36). -/
def execAttemptCompleted (t : Time) (s : State) : Host.Outcome State Fault Refusal :=
  s.runAt t fun s =>
    match s.bus.attempt with
    | some a => (s.onBus (Bif.completed s.now)).takeOwn a.frame
    | none => s

/-- COLLISION (R150). -/
def execCollision (t : Time) (s : State) : Host.Outcome State Fault Refusal :=
  s.runAt t fun s => s.when s.bus.attempt.isSome fun s => s.onBus (Bif.collided s.now)

/-- ECHO_MISS (R151): taken as sent; the third in a row reports isolation. -/
def execEchoMiss (t : Time) (s : State) : Host.Outcome State Fault Refusal :=
  s.runAt t fun s =>
    s.when s.bus.attempt.isSome fun s =>
      let s1 := s.onBus Bif.missed
      s1.when (decide (Config.echoMissLimit ≤ s1.bus.echoMisses)) State.isolate

/-- INVALID_TRANSMISSION (R147): no effect beyond the medium, quiet again at its end. -/
def execInvalidTransmission (t : Time) (_x : Transmission) (s : State) : Host.Outcome State Fault Refusal :=
  s.runAt t fun s => s.when s.bus.attempt.isNone fun s => s.onBus fun u => { u with quietStart := some s.now }

/-- R161: the own address in use by another station. -/
def State.seeDuplicate (s : State) : State :=
  (s.onBus fun u => { u with duplicate := true, isoClock := s.now, quietStart := some s.now }).enter .joining

/-- DUPLICATE_ADDRESS (R161): a valid frame with the own number, outside the sending window. -/
def execDuplicateAddress (t : Time) (x : Transmission) (s : State) : Host.Outcome State Fault Refusal :=
  s.runAt t fun s =>
    match examine x with
    | some f => s.when (!s.fromAnother f && s.bus.attempt.isNone) State.seeDuplicate
    | none => s

end Sys2Proof.Machine
end

