-- ==== Sys2Proof/Machine/BypassCommands.lean ====
section
/-! DEFINITION. The meanings of the Bypass Controller's events (R136, R137, R140). -/

namespace Sys2Proof.Machine

/-- BYPASS_FB_CHANGE (R136). -/
def execBypassFbChange (t : Time) (closed : Bool) (s : State) : Host.Outcome State Fault Refusal :=
  s.runAt t (State.feedbackChange closed)

/-- CONTACT_EXPIRY (R140). -/
def execContactExpiry (t : Time) (s : State) : Host.Outcome State Fault Refusal :=
  s.runAt t fun s => s.when (due s.now s.bypass.contact) State.contactExpires

/-- GATE_OFF_WAIT_END (R137). -/
def execGateOffWaitEnd (t : Time) (s : State) : Host.Outcome State Fault Refusal :=
  s.runAt t fun s =>
    s.when (due s.now s.bypass.gateOff) fun s => s.onBypass (Bypass.gateOffEnds s.now s.contactTime)

end Sys2Proof.Machine
end

