-- ==== Sys2Proof/Machine/FrameCommands.lean ====
section
/-! DEFINITION. The meanings of the frames received from other stations, one for each kind. -/

namespace Sys2Proof.Machine

/-- STATE_RECEIVED (R168). -/
def execStateReceived (t : Time) (x : Transmission) (s : State) : Host.Outcome State Fault Refusal :=
  s.runAt t (State.receive .state x State.takeState)

/-- SUMMARY_RECEIVED (R16). -/
def execSummaryReceived (t : Time) (x : Transmission) (s : State) : Host.Outcome State Fault Refusal :=
  s.runAt t (State.receive .summary x State.takeSummary)

/-- ALARM_RECEIVED (R34). -/
def execAlarmReceived (t : Time) (x : Transmission) (s : State) : Host.Outcome State Fault Refusal :=
  s.runAt t (State.receive .alarm x State.takeAlarm)

/-- STEP_RECEIVED (R50). -/
def execStepReceived (t : Time) (x : Transmission) (s : State) : Host.Outcome State Fault Refusal :=
  s.runAt t (State.receive .step x State.takeStep)

/-- LINE_RECEIVED (R36). -/
def execLineReceived (t : Time) (x : Transmission) (s : State) : Host.Outcome State Fault Refusal :=
  s.runAt t (State.receive .line x State.takeLine)

end Sys2Proof.Machine
end

