-- ==== Sys2Proof/Machine/LineCommands.lean ====
section
/-! DEFINITION. The meanings of the Line Port's events: the discrete inputs (R109, R174, R175), the serial link (R176, R178) and
the SWITCH pulse (R179). Line role only. -/

namespace Sys2Proof.Machine

/-- R174: phases in which a rising DRIVE_TRIP raises an alarm. -/
def Phase.takesDriveTrip (p : Phase) : Bool := p == .arming || p == .running || p == .revising

/-- R174: what an edge of an input is handed on as. -/
def State.inputEdge (i : LineInput) (asserted : Bool) (s : State) : State :=
  match i, asserted with
  | .driveTrip, true => s.when s.round.phase.takesDriveTrip (State.localAlarm FaultClass.drive)
  | .brakeOpen, false => (s.brakeDrop).onCatcher CatchUnit.budgetIdle
  | .faultRst, true => s.onPort fun p => { p with faultCount := p.faultCount + 1 }
  | _, _ => s

/-- R174: a filtered level of an input: the first after a reset sets the sample, a change replaces it and is handed on, a
level already held is no change. FAULT_RST# is asserted when low, so its falling edge is its assertion (R175). -/
def State.inputChange (i : LineInput) (asserted : Bool) (s : State) : State :=
  if !s.isLine then s
  else
    match s.port.sample i with
    | none => s.onPort (Port.setSample i ⟨asserted, s.now⟩)
    | some x =>
      if x.asserted = asserted then s
      else (s.onPort (Port.setSample i ⟨asserted, s.now⟩)).inputEdge i asserted

/-- DRIVE_TRIP_RISING (R174). -/
def execDriveTripRising (t : Time) (s : State) : Host.Outcome State Fault Refusal :=
  s.runAt t (State.inputChange .driveTrip true)

/-- BRAKE_OPEN_FALLING (R109, R113, R174). -/
def execBrakeOpenFalling (t : Time) (s : State) : Host.Outcome State Fault Refusal :=
  s.runAt t (State.inputChange .brakeOpen false)

/-- FAULT_RST_FALLING (R174, R175). -/
def execFaultRstFalling (t : Time) (s : State) : Host.Outcome State Fault Refusal :=
  s.runAt t (State.inputChange .faultRst true)

/-- DISCRETE_INPUT_CHANGE (R174). -/
def execDiscreteInputChange (t : Time) (input : LineInput) (asserted : Bool) (s : State) :
    Host.Outcome State Fault Refusal :=
  s.runAt t (State.inputChange input asserted)

/-- TRANSFER_START (R176): the first rising edge of LSCK while IDLE, with LSI; the record on LSO is copied. -/
def execTransferStart (t : Time) (lsi : Bool) (s : State) : Host.Outcome State Fault Refusal :=
  s.runAt t fun s =>
    s.when (s.isLine && s.port.transfer.isNone) fun s =>
      s.onPort fun p => { p with transfer := some (Transfer.begun s.now lsi p.onLso) }

/-- TRANSFER_END (R176, R178). -/
def execTransferEnd (t : Time) (s : State) : Host.Outcome State Fault Refusal :=
  s.runAt t fun s =>
    match s.port.transfer with
    | some x => s.when (x.ended s.now) (State.onPort (Port.endTransfer s.now x))
    | none => s

/-- SWITCH_PULSE_END (R179). -/
def execSwitchPulseEnd (t : Time) (s : State) : Host.Outcome State Fault Refusal :=
  s.runAt t fun s =>
    s.when (due s.now s.port.switchPulse) fun s => s.onPort fun p => { p with switchPulse := none }

/-- R176: an edge of LSCK within a transfer. -/
def Port.clockEdge (now : Time) (rising lsi : Bool) (p : Port) : Port :=
  { p with transfer := p.transfer.map fun x => if rising then x.rise lsi else x.fall now }

/-- LSCK_CLOCK_EDGE (R176): a rising edge samples LSI, a falling edge moves LSO on; outside a transfer nothing. -/
def execLsckClockEdge (t : Time) (rising lsi : Bool) (s : State) : Host.Outcome State Fault Refusal :=
  s.runAt t fun s => s.onPort (Port.clockEdge s.now rising lsi)

end Sys2Proof.Machine
end

