-- ==== Sys2Proof/Machine/ResetCommands.lean ====
section
/-! DEFINITION. The meanings of the resets, the loss of supply and the programming port (R181 to R187). -/

namespace Sys2Proof.Machine

/-- POWER_ON_RESET (R181, R182, R184, R185): the image loaded, every block at its reset value, whatever stood before.
With RESET# low a pin reset is in force from then on (log 21). -/
def execPowerOnReset (t : Time) (straps : Straps) (s : State) : Host.Outcome State Fault Refusal :=
  .next (State.afterReset (max s.now t) (Store.powerOn (max s.now t) s.store.image straps s.store.resetLow) Bypass.init
    s.freeCount s.pending)

/-- R184: RESET# falls for a pin reset: every block stands at its reset value from then on, the coil falls 10 µs later. The
store, the straps and the port are as they were. -/
def State.startReset (s : State) : State :=
  State.afterReset s.now { s.store with resetLow := true } (s.bypass.inReset s.now) s.freeCount s.pending

/-- R184, R185: RESET# rises: the reset ends with the straps sampled, beside the kept working copy and a coil still to
fall. -/
def State.endReset (straps : Straps) (s : State) : State :=
  State.afterReset s.now (s.store.pinReset straps) s.bypass.afterPinReset s.freeCount s.pending

/-- R184: RESET# moves while the part has no supply: its level alone. -/
def State.resetPin (low : Bool) (s : State) : State := s.onStore fun st => { st with resetLow := low }

/-- R184: an edge of RESET#. A pulse under 1 µs is no reset, and so are a fall while RESET# is low and a rise while it is
high (log 21). The straps are sampled at the rise alone. Without supply the level moves and nothing is reset. -/
def State.resetEdge (e : ResetEdge) (straps : Straps) (s : State) : State :=
  match e with
  | .falls held =>
    s.when (held && !s.store.resetLow) fun s => if s.powered then s.startReset else s.resetPin true
  | .rises => s.when s.store.resetLow fun s => if s.powered then s.endReset straps else s.resetPin false

/-- PIN_RESET (R184, R185). -/
def execPinReset (t : Time) (edge : ResetEdge) (straps : Straps) (s : State) : Host.Outcome State Fault Refusal :=
  .next ((s.advance t).resetEdge edge straps)

/-- PIN_RESET_COIL_RELEASE (R184): BYPASS_HOLD falls 10 µs after GATE_EN fell, whether or not RESET# has risen. -/
def execPinResetCoilRelease (t : Time) (s : State) : Host.Outcome State Fault Refusal :=
  s.runSupplied t fun s =>
    s.when (due s.now s.bypass.coilRelease) fun s => s.onBypass fun b => { b with hold := false, coilRelease := none }

/-- R186: what the access `a` drives on PDIO. -/
def State.portReturns (a : Access) (bs : List Byte) (s : State) : State :=
  s.onStore fun st => { st with portAccess := some a.began, portOut := bs }

/-- R186: a READ of 64 bytes from an offset; free bytes from an offset above 63 (log 8). -/
def State.portRead (c : PortCommand) (bs : List Byte) (a : Access) (offset : Byte) (count : Nat) (s : State) : State :=
  if s.store.takes c a then
    if offset.toNat ≤ 63 then s.portReturns a (readBytes bs offset.toNat (bytesReturned a.wp count))
    else
      State.portReturns a (freeBytes s.freeCount (bytesReturned a.wp count))
        { s with freeCount := s.freeCount + bytesReturned a.wp count }
  else s.portReturns a []

/-- READ_IMAGE (R186). -/
def execReadImage (t : Time) (access : Access) (offset : Byte) (count : Nat) (s : State) :
    Host.Outcome State Fault Refusal :=
  s.runSupplied t fun s => s.portRead .readImage s.store.image access offset count

/-- READ_WORKING (R186). -/
def execReadWorking (t : Time) (access : Access) (offset : Byte) (count : Nat) (s : State) :
    Host.Outcome State Fault Refusal :=
  s.runSupplied t fun s => s.portRead .readWorking s.store.working access offset count

/-- R186: the bytes already driven in the access `a`. -/
def Store.driven (a : Access) (st : Store) : List Byte := if st.portAccess = some a.began then st.portOut else []

/-- R186: what `count` more bytes of the status byte `b` make of the bytes `driven` of an access; none from the rise of WP#
onward, which is counted over the whole access. -/
def statusBytes (wp : WpPin) (count : Nat) (b : Byte) (driven : List Byte) : List Byte :=
  driven ++ List.replicate (bytesReturned wp (driven.length + count) - driven.length) b

/-- STATUS (R186): the status byte as it stands, repeated, after the bytes already driven in its access (log 46). -/
def execStatus (t : Time) (access : Access) (count : Nat) (s : State) : Host.Outcome State Fault Refusal :=
  s.runSupplied t fun s =>
    s.portReturns access
      (if s.store.takes .status access then statusBytes access.wp count s.statusByte (s.store.driven access) else [])

/-- R187: a write taken: it begins at once and lasts 4 ms. -/
def State.beginWrite (offset : Nat) (data : List Byte) (s : State) : State :=
  s.onStore fun st => { st with write := some ⟨offset, data, s.now + Config.writeTime⟩ }

/-- WRITE (R186, R187): a well-formed access taken at its beginning, with WP# low throughout, begins a write at its end. -/
def execWrite (t : Time) (access : Access) (bytes : List Byte) (trailing : Bool) (s : State) :
    Host.Outcome State Fault Refusal :=
  s.runSupplied t fun s =>
    let s1 := s.portReturns access []
    match writeOperands bytes trailing with
    | some (o, data) => s1.when (access.wp == .low && s.store.takes .write access) (State.beginWrite o data)
    | none => s1

/-- R187: bytes replaced from an offset onward. -/
def replaceBytes (offset : Nat) (data bs : List Byte) : List Byte :=
  bs.take offset ++ data ++ bs.drop (offset + data.length)

/-- R187: a write completed at `now`: the image's bytes replaced together, DIFFERS evaluated again. -/
def Store.completeWrite (now : Time) (w : StoreWrite) (st : Store) : Store :=
  { st with
    image := replaceBytes w.offset w.data st.image
    differs := decide (replaceBytes w.offset w.data st.image ≠ st.working)
    write := none, freeSince := now }

/-- WRITE_COMPLETION (R187). -/
def execWriteCompletion (t : Time) (s : State) : Host.Outcome State Fault Refusal :=
  s.runSupplied t fun s =>
    match s.store.write with
    | some w => s.when (decide (w.due ≤ s.now)) (State.onStore (Store.completeWrite s.now w))
    | none => s

/-- R187: what the loss of supply leaves: no write, no frame, dark outputs, the coil released. RESET#'s level stands. -/
def State.unsupplied (s : State) : State :=
  ((((({ s with powered := false }).onStore fun st =>
    { st with write := none, portAccess := none, portOut := [] }).onBus fun u =>
    { u with queue := [], attempt := none }).onBypass fun _ => Bypass.init).onPort fun p =>
      { p with switchPending := none, switchPulse := none, rready := false, transfer := none })

/-- LOSS_OF_SUPPLY (R187): the part without supply until its next power-on reset. -/
def execLossOfSupply (t : Time) (s : State) : Host.Outcome State Fault Refusal := s.runSupplied t State.unsupplied

end Sys2Proof.Machine
end

