-- ==== Sys2Proof/Machine/RoundCommands.lean ====
section
/-! DEFINITION. The meanings of the phase timers (Table 2-9) and of the Plan Unit's events (R63, R64, R67, R69). -/

namespace Sys2Proof.Machine

/-- A phase timer expires: the station is in the timer's phase and its deadline has passed (log 2). -/
def State.phaseExpires (p : Phase) (s : State) : Bool := s.round.phase == p && due s.now s.round.phaseTimer

/-- DWELL_EXPIRY (R42): SETTLING, with a SUMMARY. -/
def execDwellExpiry (t : Time) (s : State) : Host.Outcome State Fault Refusal :=
  s.runAt t fun s => s.when (s.phaseExpires .tripped) (State.enter .settling)

/-- R44: the SETTLE timer started again, nothing else changed. -/
def State.restartSettle (s : State) : State :=
  s.onRound fun r => { r with phaseTimer := some (s.now + ms s.params.settle) }

/-- SETTLE_EXPIRY (R44): a counted resettle with the line station present, a restart of the timer without it. -/
def execSettleExpiry (t : Time) (s : State) : Host.Outcome State Fault Refusal :=
  s.runAt t fun s =>
    s.when (s.phaseExpires .settling) fun s => if s.present then s.resettle else s.restartSettle

/-- AGREE_EXPIRY (R48). -/
def execAgreeExpiry (t : Time) (s : State) : Host.Outcome State Fault Refusal :=
  s.runAt t fun s => s.when (s.phaseExpires .planning) State.resettle

/-- ARM_EXPIRY (R51). -/
def execArmExpiry (t : Time) (s : State) : Host.Outcome State Fault Refusal :=
  s.runAt t fun s => s.when (s.phaseExpires .arming) State.resettle

/-- R93: the revision abandoned: the candidate discarded, the switch record cleared, RUNNING with revision r, and a
withdrawing cell's alarm. -/
def State.abandonRevision (s : State) : State :=
  ((s.onPlan fun u => { u.discard with switchRecord := none }).enter .running).escalate

/-- REVISE_EXPIRY (R93). -/
def execReviseExpiry (t : Time) (s : State) : Host.Outcome State Fault Refusal :=
  s.runAt t fun s => s.when (s.phaseExpires .revising) State.abandonRevision

/-- BUILD_START (R63): in SETTLING with build state NONE, the digest unchanged for one report period. -/
def execBuildStart (t : Time) (s : State) : Host.Outcome State Fault Refusal :=
  s.runAt t fun s =>
    s.when (s.round.phase == .settling && s.store.valid && s.plan.build == .none && s.digestStable) State.startWalk

/-- WALK_READ (R64). -/
def execWalkRead (t : Time) (s : State) : Host.Outcome State Fault Refusal :=
  s.runAt t fun s => s.when (s.plan.build == .walking) State.walkOne

/-- FINISHING_STEP (R67). -/
def execFinishingStep (t : Time) (s : State) : Host.Outcome State Fault Refusal :=
  s.runAt t fun s => s.when (s.plan.build == .finishing) fun s => (s.finishWalk).handVerdict

/-- R69: the BUILT candidate `c` aged; a verdict that changes from WAIT to VIABLE is handed on. -/
def State.ageCandidate (c : Plan) (s : State) : State :=
  (s.onPlan fun u => { u with candidate := some (c.age s.now) }).when
    (c.verdict == .wait && (c.age s.now).verdict == .viable) State.handVerdict

/-- AGING_DEADLINE (R69). A deadline that passed between the walk's end and BUILT is removed here too (log 42). -/
def execAgingDeadline (t : Time) (s : State) : Host.Outcome State Fault Refusal :=
  s.runAt t fun s =>
    match s.builtCandidate with
    | some c => s.when (c.reasons.any (Reason.aged s.now)) (State.ageCandidate c)
    | none => s

end Sys2Proof.Machine
end

