-- ==== Sys2Proof/Machine/SenseCommands.lean ====
section
/-! DEFINITION. The meanings of the scanner's conversions (R118), the Catch Unit's timers (R108, R110, R114), the fault inputs
(R123) and the rest hold-off (R95). -/

namespace Sys2Proof.Machine

/-- R103, R118, R120: the conversion `a` ends: its result stored, the scanner moved on, the result taken: at the line
station by an ACTIVE catch (unless it misses the slot, log 19), at a cell station at the pass end by Cell Watch. -/
def State.convert (a : Activity) (value : Nat) (taken : Bool) (s : State) : State :=
  let s1 := (s.onScanner (Scanner.storeSlot a.channel (senseValue value))).onScanner (Scanner.moveOn s.now a)
  if s.isLine then s1.when (s.catcher.active && taken) (State.takeSample a.channel)
  else s1.when (decide (s.scanner.last ≤ a.channel)) (State.passEnd a.passStart)

/-- CONVERSION_COMPLETE (R118). -/
def execConversionComplete (t : Time) (value : Nat) (taken : Bool) (s : State) : Host.Outcome State Fault Refusal :=
  s.runAt t fun s =>
    match s.scanner.activity with
    | some a => s.when (decide (a.convEnd ≤ s.now)) (State.convert a value taken)
    | none => s

/-- R108: the quiet mark over, and the residual test made. -/
def State.quietMark (s : State) : State :=
  let s1 := s.onCatcher fun c => { c with quiet := none }
  s1.when (residualAbsent s.params.catchFloor s.catcher) State.residualOutcome

/-- QUIET_MARK_EXPIRY (R108). -/
def execQuietMarkExpiry (t : Time) (s : State) : Host.Outcome State Fault Refusal :=
  s.runAt t fun s => s.when (s.catcher.active && due s.now s.catcher.quiet) State.quietMark

/-- CATCH_TIMER_EXPIRY (R110). -/
def execCatchTimerExpiry (t : Time) (s : State) : Host.Outcome State Fault Refusal :=
  s.runAt t fun s =>
    s.when (s.catcher.active && due s.now s.catcher.timer) fun s => s.endCatch .failed 0 none s.now

/-- R114: the budget timer run out. -/
def State.budgetOver (s : State) : State :=
  let s1 := s.onCatcher fun c => { c with budget := .spent, budgetTimer := none }
  if s.round.armed.contains 0 then s1.onCatcher fun c => { c with overdue := true } else s1.setExpired

/-- BUDGET_EXPIRY (R114). -/
def execBudgetExpiry (t : Time) (s : State) : Host.Outcome State Fault Refusal :=
  s.runAt t fun s =>
    s.when (s.catcher.budget == .running && due s.now s.catcher.budgetTimer) State.budgetOver

/-- FAULT_INPUT_CHANGE (R123). -/
def execFaultInputChange (t : Time) (input : FaultInput) (asserted : Bool) (s : State) :
    Host.Outcome State Fault Refusal :=
  s.runAt t (State.faultInput input asserted)

/-- R95: the rest hold-off elapsed, and the readmission trigger tested. -/
def State.restElapsed (s : State) : State := (s.onWatch fun w => { w with rest := .elapsed }).testReadmission

/-- R95: the rest hold-off timer has run out. -/
def Watch.restOver (now : Time) (w : Watch) : Bool :=
  match w.rest with
  | .running d => decide (d ≤ now)
  | _ => false

/-- REST_HOLDOFF_EXPIRY (R95, R96). -/
def execRestHoldoffExpiry (t : Time) (s : State) : Host.Outcome State Fault Refusal :=
  s.runAt t fun s => s.when (s.watch.restOver s.now) State.restElapsed

end Sys2Proof.Machine
end

