-- ==== Sys2Proof/Machine/Dispatch.lean ====
section
/-! DEFINITION. The dispatch: one arm for each command, each a direct call of its meaning. -/

namespace Sys2Proof.Machine

def exec (i : Instr) (s : State) : Host.Outcome State Fault Refusal :=
  match i with
  | .powerOnReset t straps => Sys2Proof.Machine.execPowerOnReset t straps s
  | .pinReset t edge straps => Sys2Proof.Machine.execPinReset t edge straps s
  | .pinResetCoilRelease t => Sys2Proof.Machine.execPinResetCoilRelease t s
  | .readImage t access offset count => Sys2Proof.Machine.execReadImage t access offset count s
  | .readWorking t access offset count => Sys2Proof.Machine.execReadWorking t access offset count s
  | .status t access count => Sys2Proof.Machine.execStatus t access count s
  | .write t access bytes trailing => Sys2Proof.Machine.execWrite t access bytes trailing s
  | .writeCompletion t => Sys2Proof.Machine.execWriteCompletion t s
  | .reportTick t => Sys2Proof.Machine.execReportTick t s
  | .joinWindowEnd t => Sys2Proof.Machine.execJoinWindowEnd t s
  | .heardStatusTimeout t station => Sys2Proof.Machine.execHeardStatusTimeout t station s
  | .isolateTimeout t => Sys2Proof.Machine.execIsolateTimeout t s
  | .transmissionAttempt t => Sys2Proof.Machine.execTransmissionAttempt t s
  | .defer t => Sys2Proof.Machine.execDefer t s
  | .attemptCompleted t => Sys2Proof.Machine.execAttemptCompleted t s
  | .collision t => Sys2Proof.Machine.execCollision t s
  | .echoMiss t => Sys2Proof.Machine.execEchoMiss t s
  | .invalidTransmission t x => Sys2Proof.Machine.execInvalidTransmission t x s
  | .duplicateAddress t x => Sys2Proof.Machine.execDuplicateAddress t x s
  | .stateReceived t x => Sys2Proof.Machine.execStateReceived t x s
  | .summaryReceived t x => Sys2Proof.Machine.execSummaryReceived t x s
  | .alarmReceived t x => Sys2Proof.Machine.execAlarmReceived t x s
  | .stepReceived t x => Sys2Proof.Machine.execStepReceived t x s
  | .lineReceived t x => Sys2Proof.Machine.execLineReceived t x s
  | .dwellExpiry t => Sys2Proof.Machine.execDwellExpiry t s
  | .settleExpiry t => Sys2Proof.Machine.execSettleExpiry t s
  | .agreeExpiry t => Sys2Proof.Machine.execAgreeExpiry t s
  | .armExpiry t => Sys2Proof.Machine.execArmExpiry t s
  | .reviseExpiry t => Sys2Proof.Machine.execReviseExpiry t s
  | .buildStart t => Sys2Proof.Machine.execBuildStart t s
  | .walkRead t => Sys2Proof.Machine.execWalkRead t s
  | .finishingStep t => Sys2Proof.Machine.execFinishingStep t s
  | .agingDeadline t => Sys2Proof.Machine.execAgingDeadline t s
  | .conversionComplete t value taken => Sys2Proof.Machine.execConversionComplete t value taken s
  | .quietMarkExpiry t => Sys2Proof.Machine.execQuietMarkExpiry t s
  | .catchTimerExpiry t => Sys2Proof.Machine.execCatchTimerExpiry t s
  | .budgetExpiry t => Sys2Proof.Machine.execBudgetExpiry t s
  | .faultInputChange t input asserted => Sys2Proof.Machine.execFaultInputChange t input asserted s
  | .restHoldoffExpiry t => Sys2Proof.Machine.execRestHoldoffExpiry t s
  | .bypassFbChange t closed => Sys2Proof.Machine.execBypassFbChange t closed s
  | .contactExpiry t => Sys2Proof.Machine.execContactExpiry t s
  | .gateOffWaitEnd t => Sys2Proof.Machine.execGateOffWaitEnd t s
  | .driveTripRising t => Sys2Proof.Machine.execDriveTripRising t s
  | .brakeOpenFalling t => Sys2Proof.Machine.execBrakeOpenFalling t s
  | .faultRstFalling t => Sys2Proof.Machine.execFaultRstFalling t s
  | .discreteInputChange t input asserted => Sys2Proof.Machine.execDiscreteInputChange t input asserted s
  | .transferStart t lsi => Sys2Proof.Machine.execTransferStart t lsi s
  | .transferEnd t => Sys2Proof.Machine.execTransferEnd t s
  | .switchPulseEnd t => Sys2Proof.Machine.execSwitchPulseEnd t s
  | .lsckClockEdge t rising lsi => Sys2Proof.Machine.execLsckClockEdge t rising lsi s
  | .lossOfSupply t => Sys2Proof.Machine.execLossOfSupply t s

end Sys2Proof.Machine
end

