-- ==== Sys2Proof/Machine/Step.lean ====
section
/-! DEFINITION. A step of the block: the command at the front of the queue is taken, whole. -/

namespace Sys2Proof.Machine

/-- One step: the front command's effect on the state with the rest of the queue; an empty queue idles (log 3). -/
def step (s : State) : Host.Outcome State Fault Refusal :=
  match s.pending with
  | [] => .next s
  | c :: rest => exec c { s with pending := rest }

/-- The state with the command that a word spells put at the front of the queue; the state itself where it spells none. -/
def State.withFetchWord (s : State) (nbits w : Nat) : State :=
  match decodeTableWord nbits w with
  | some c => { s with pending := c :: s.pending }
  | none => s

end Sys2Proof.Machine
end

