-- ==== Sys2Proof/Safety.lean ====
section
/-! DEFINITION. What must hold of a station in every state that steps reach: the sentences of the spec that bound or relate
its state, one invariant for each block; then the words of the spec that several statements use: the newer of two values,
the bytes of an entry, voters and agreement, a record that holds a plan, the restart state set anew at a trip, a catch
started, a STEP decided, a verdict taken. -/

namespace Sys2Proof.Safety

open Sys2Proof.Machine

/-- R70: the angle a plan gives between two phases. -/
def planAngle (b : PlanBody) (p q : Nat) : Nat := if p + q = 1 then b.thetaAB else if p + q = 3 then b.thetaBC else b.thetaCA

/-- R152, R153: the transmit queue holds at most 6 frames and at most one of each single-copy kind, in the order of rank,
and a renewed frame holds a new frame of its own kind. -/
def QueueSound (s : State) : Prop :=
  s.bus.queue.length ≤ 6 ∧
  (s.bus.queue.filter fun g => g.body.kind == .state).length ≤ 1 ∧
  (s.bus.queue.filter fun g => g.body.kind == .summary).length ≤ 1 ∧
  (s.bus.queue.filter fun g => g.body.kind == .line).length ≤ 1 ∧
  s.bus.queue.Pairwise (fun g h => g.rank ≤ h.rank) ∧
  ∀ g ∈ s.bus.queue, (g.renewed.map QBody.kind).getD g.body.kind = g.body.kind

/-- R156: the heard table holds one entry for each station number 0 to 27. -/
def HeardSized (s : State) : Prop := s.bus.heard.length = 28

/-- R4: the roster holds 3N entries with a valid working copy, and none with an invalid one. -/
def RosterSized (s : State) : Prop :=
  s.roster.entries.length = if s.store.valid then 3 * s.params.cells else 0

/-- R35: the attempt list holds at most ROUNDS trip times, in increasing order, none in the future. -/
def AttemptsSound (s : State) : Prop :=
  s.round.attempts.length ≤ s.params.rounds ∧ s.round.attempts.Pairwise (· < ·) ∧ ∀ t ∈ s.round.attempts, t ≤ s.now

/-- Table 2-9: the phases that have a timer. -/
def timedPhase : Phase → Bool
  | .tripped => true | .settling => true | .planning => true | .arming => true | .revising => true
  | _ => false

/-- Tables 2-2 and 2-9: a phase timer runs in exactly the phases that have one, and the resettle count stays within
RESETTLE + 1. -/
def RoundSound (s : State) : Prop :=
  s.round.phaseTimer.isSome = timedPhase s.round.phase ∧ s.round.resettle ≤ s.params.resettle + 1

/-- Table 3-3: the reasons a walk read can give. -/
def walkReason : Reason → Bool
  | .closing _ => true | .silentYoung _ _ => true | .stuckOpen _ => true
  | .shortPhase _ => false | .lowFraction => false

/-- R64: the walk tallies hold reasons of Table 3-3 alone. -/
def TalliesSound (s : State) : Prop := ∀ r ∈ s.plan.tallies.pending, walkReason r = true

/-- R66, R76, R79: a plan in force is VIABLE, has a digest and is of the station's epoch; a candidate is of the station's
epoch; in JOINING, TRIPPED, LOCKOUT and ISOLATED neither is held. -/
def PlanSound (s : State) : Prop :=
  (∀ p ∈ s.plan.inForce, p.verdict = .viable ∧ p.body.isSome = true ∧ p.epoch = s.round.epoch) ∧
  (∀ c ∈ s.plan.candidate, c.epoch = s.round.epoch) ∧
  (s.plan.build = .none → s.plan.candidate = none) ∧
  (s.round.phase.clearsPlan = true → s.plan.inForce = none ∧ s.plan.build = .none)

/-- R116, R120: the four slots; a slot with OVERRUN set also has FRESH set. -/
def SlotsSound (s : State) : Prop :=
  s.scanner.slots.length = 4 ∧ ∀ x ∈ s.scanner.slots, x.overrun = true → x.fresh = true

/-- R104: the crossing list holds at most 8 entries, in increasing time order. -/
def CrossingsSound (s : State) : Prop :=
  s.catcher.crossings.length ≤ 8 ∧ s.catcher.crossings.Pairwise fun x y => x.time < y.time

/-- R102, R110, R111, R116: a catch is ACTIVE only at a line station in CATCHING, and the scanner is CONTINUOUS exactly
while one is. -/
def CatchSound (s : State) : Prop :=
  (s.catcher.active = true → s.isLine = true ∧ s.round.phase = .catching) ∧
  (s.scanner.mode = if s.catcher.active then .continuous else .single)

/-- R137, R144, Table 7-2: what the coil, the CONTACT timer and the gate-off wait are in each bypass state. -/
def BypassSound (s : State) : Prop :=
  s.bypass.hold =
    (match s.bypass.state with
     | .opening => true
     | .opened => true
     | .closing => s.bypass.gateOff.isSome
     | _ => s.bypass.coilRelease.isSome) ∧
  (s.bypass.contact.isSome = true → s.bypass.state = .opening ∨ s.bypass.state = .closing) ∧
  (s.bypass.gateOff.isSome = true → s.bypass.state = .closing ∧ s.bypass.contact = none) ∧
  (s.bypass.coilRelease.isSome = true → s.bypass.state = .closed)

/-- R181 to R187: image and working copy hold 64 bytes, a write in progress stays within them, and validity, config digest
and DIFFERS are those of the bytes held. -/
def StoreSound (s : State) : Prop :=
  s.store.image.length = 64 ∧ s.store.working.length = 64 ∧
  (∀ w ∈ s.store.write, w.offset + w.data.length ≤ 64) ∧
  s.store.valid = imageValid s.store.working ∧ s.store.digest = configDigest s.store.working ∧
  s.store.differs = decide (s.store.image ≠ s.store.working)

/-! ## Serial comparison and the bytes of a roster entry -/

/-- R2, R29: `a` is newer than `b`: their difference modulo 65536 lies in 1 to 32767, or is 32768 and `a` the greater. -/
def SerialAfter (a b : Half) : Prop :=
  ∀ d, d = (65536 + a.toNat - b.toNat) % 65536 → (1 ≤ d ∧ d ≤ 32767) ∨ (d = 32768 ∧ b.toNat < a.toNat)

/-- Table 1-2: the code of a condition. -/
def conditionCode : Condition → Nat
  | .live => 0 | .resting => 1 | .faulted => 2 | .bypassed => 3 | .silent => 4

/-- R164: a 16-bit field as two bytes, most significant first. -/
def halfBytes (h : Half) : List Byte := [BitVec.ofNat 8 (h.toNat / 256), BitVec.ofNat 8 h.toNat]

/-- R25, Table 9-6: the four bytes that an entry contributes to a SUMMARY and to the roster digest. -/
def entryBytes (e : RosterEntry) : List Byte :=
  [BitVec.ofNat 8 (16 * conditionCode e.cond + if e.source = .owner then 1 else 0), BitVec.ofNat 8 e.cls.toNat] ++
    halfBytes e.version

/-- Table 1-2: an entry of a SUMMARY whose condition, source and class the table allows together. -/
def InsideTable (x : SummaryItem) : Prop :=
  (x.cond = 0 ∧ x.owner = true ∧ x.cls = 0) ∨
  (x.cond = 1 ∧ x.owner = true ∧ (x.cls = 5 ∨ x.cls = 6 ∨ x.cls = 7 ∨ x.cls = 8 ∨ x.cls = 9 ∨ x.cls = 13)) ∨
  ((x.cond = 2 ∨ x.cond = 3) ∧ x.owner = true ∧ (x.cls = 1 ∨ x.cls = 2 ∨ x.cls = 3 ∨ x.cls = 4)) ∨
  (x.cond = 4 ∧ x.owner = false ∧ x.cls = 0)

/-- Table 9-6: the four carried fields of an entry are those of an item. -/
def ItemCarries (x : SummaryItem) (r : RosterEntry) : Prop :=
  x.cond.toNat = conditionCode r.cond ∧ (r.source = .owner ↔ x.owner = true) ∧ r.cls = x.cls ∧ r.version = x.version

/-! ## Voters and agreement -/

/-- R31: the station `m` is a voter, its latest STATE the one given. -/
def Voter (s : State) (m : Nat) (h : HeardState) : Prop :=
  m < 28 ∧ m ≠ s.number ∧ (s.heardAt m).state = some h ∧ s.now - h.time < s.quietTime ∧
  h.phase ≠ .joining ∧ h.phase ≠ .isolated ∧ h.cfgDigest = s.store.digest

/-- R32: the line station is present, which it always is at the line station itself. -/
def LinePresent (s : State) : Prop := s.isLine = true ∨ ∃ h, Voter s 0 h

/-- R43: roster agreement. -/
def RosterAgreement (s : State) : Prop :=
  LinePresent s ∧ s.roster.digestChange + s.report ≤ s.now ∧
  ∀ m h, Voter s m h → h.epoch = s.round.epoch ∧ h.rosterDigest = s.roster.digest

/-- R46: plan agreement on a candidate's digest, whether or not a voter shows a plan (log 55). -/
def PlanAgreement (s : State) (d : Half) : Prop :=
  LinePresent s ∧ ∀ m h, Voter s m h → h.epoch = s.round.epoch ∧ h.planDigest = d

/-- R83: the line station's revision agreement on a candidate's digest. -/
def RevisionAgreement (s : State) (d : Half) : Prop :=
  s.isLine = true ∧ s.port.switchPending = none ∧
  ∀ m h, Voter s m h → h.epoch = s.round.epoch ∧ h.planPresent = true ∧ h.planDigest = d

/-! ## The release record -/

/-- R177, Table 10-3: a valid record holds a plan and a catch part; the slot of position `k` of phase `p` is active with the
carrier offset of its (first) place in the phase's active list, and 0 outside the list. -/
def RecordHolds (c : Plan) (b : PlanBody) (o : CatchOutcome) (f : Half) (a : Option Half) (r : ReleaseRecord) : Prop :=
  (r.valid = true ∧ r.mode = c.mode ∧ r.epoch = c.epoch ∧ r.revision = c.revision ∧ r.digest = b.digest ∧
    r.counts = c.counts ∧ r.thetaAB = b.thetaAB ∧ r.thetaBC = b.thetaBC ∧ r.thetaCA = b.thetaCA ∧
    r.fraction = b.fraction) ∧
  (r.outcome = o ∧ r.freq = f ∧ r.angle = a) ∧ r.slots.length = 27 ∧
  ∀ p k : Nat, p < 3 → 1 ≤ k → k ≤ 9 →
    (∀ j x : Nat, (b.active.get p)[j]? = some k → (∀ i, i < j → (b.active.get p)[i]? ≠ some k) →
      (b.offsets.get p)[j]? = some x → r.slots[9 * p + k - 1]? = some ⟨true, BitVec.ofNat 11 x⟩) ∧
    (k ∉ b.active.get p → r.slots[9 * p + k - 1]? = some ⟨false, 0⟩)

/-! ## The restart state at an entry to TRIPPED -/

/-- R100: the tag of a source last sampled as given: VALID below two report periods of age, STALE from then on, EMPTY without
a sample. -/
def TagHolds (s : State) (now : Time) (sampled : Option Time) (k : Tag) : Prop :=
  (sampled = none → k = .empty) ∧
  ∀ u, sampled = some u → k = if now - u < 2 * (1000 * s.params.report) then .valid else .stale

/-- R99, R100, Table 5-2: the trip context saved at `now` from the state `s` before the entry. -/
def ContextSaved (s : State) (now : Time) (x : TripContext) : Prop :=
  x.capture = some now ∧ TagHolds s now (s.port.status.map StatusWord.time) x.statusTag ∧
  (∀ w, s.port.status = some w → x.sampleTime = w.time ∧ x.driveFreq = w.driveFreq ∧ x.driveAngle = w.driveAngle ∧
    x.encFreq = w.encFreq) ∧
  (x.dir = sampledAsserted s.port.dir ∧ TagHolds s now (s.port.dir.map Sample.time) x.dirTag) ∧
  (x.overhauling = sampledAsserted s.port.overhaul ∧ TagHolds s now (s.port.overhaul.map Sample.time) x.overhaulTag) ∧
  (x.brakeOpen = sampledAsserted s.port.brakeOpen ∧ TagHolds s now (s.port.brakeOpen.map Sample.time) x.brakeTag) ∧
  x.planTag = if s.plan.inForce.isSome = true ∧ s.round.tripRound = false then .valid else .empty

/-- R99 to R101, R113: what an entry of the line station to TRIPPED at `now`, at the epoch `e`, makes of its restart state:
the context saved, a catch abandoned, crossings and counts cleared, the catch record NONE of the new epoch (EXPIRED with a
SPENT budget), the budget handled, the record in force cleared. -/
def RestartSetAnew (s : State) (now : Time) (e : Half) (s' : State) : Prop :=
  ContextSaved s now s'.catcher.context ∧ s'.catcher.active = false ∧ s'.catcher.crossings = [] ∧
  s'.catcher.entered = 0 ∧ s'.catcher.clearances = 0 ∧ s'.catcher.retire = 0 ∧
  s'.catcher.record =
    ⟨some e, if s.catcher.budget = .spent then .expired else .none, 0, none, 0, false⟩ ∧
  (s.catcher.budget = .idle → sampledAsserted s.port.brakeOpen = false → s'.catcher.budget = .idle) ∧
  (s.catcher.budget = .idle → sampledAsserted s.port.brakeOpen = true →
    s'.catcher.budget = .running ∧ s'.catcher.budgetTimer = some (now + 1000 * s.params.budget)) ∧
  (s.catcher.budget = .running →
    s'.catcher.budget = .running ∧ s'.catcher.budgetTimer = s.catcher.budgetTimer) ∧
  (s.catcher.budget = .spent → s'.catcher.budget = .spent ∧ s'.catcher.overdue = false) ∧
  s'.port.record = ⟨false, .shift, 0, 0, 0, ⟨0, 0, 0⟩, 0, 0, 0, 0, .none, 0, none, List.replicate 27 ⟨false, 0⟩⟩ ∧
  (s.port.presented = none → s.port.record ≠ s'.port.record → s'.port.rready = true) ∧ s'.release = false

/-! ## Entries to CATCHING and ARMING -/

/-- R102: what the line station's entry to CATCHING makes of its Catch Unit and scanner, from the state `s` before it: nothing
beside an outcome held for the epoch, EXPIRED where the adoption clears an armed set that an overdue budget waits on
(R114); STANDSTILL with BRAKE_OPEN deasserted; FAILED with SLOW_ZONE asserted; otherwise a
catch ACTIVE over CH0 to CH2. The angle time of an outcome set here is the model's choice (log 44). -/
def CatchStarted (s s' : State) : Prop :=
  ∀ held : Prop, (held ↔ s.catcher.record.epoch = some s.round.epoch ∧ s.catcher.record.outcome ≠ .none) →
    (s.catcher.overdue = true → 0 ∈ s.round.armed →
      s'.catcher.record.epoch = some s.round.epoch ∧ s'.catcher.record.outcome = .expired ∧ s'.catcher.active = false ∧
      s'.catcher.overdue = false) ∧
    (s.catcher.overdue = false ∨ 0 ∉ s.round.armed →
    (held → s'.catcher = s.catcher ∧ s'.scanner = s.scanner) ∧
    (∀ o, ¬held →
      (sampledAsserted s.port.brakeOpen = false ∧ o = .standstill) ∨
        (sampledAsserted s.port.brakeOpen = true ∧ sampledAsserted s.port.slowZone = true ∧ o = .failed) →
      s'.catcher = { s.catcher with
        active := false, timer := none, quiet := none, record := ⟨some s.round.epoch, o, 0, none, s.now, false⟩ } ∧
      s'.scanner.mode = .single ∧ (s.scanner.mode = .single → s'.scanner = s.scanner)) ∧
    (¬held → sampledAsserted s.port.brakeOpen = true → sampledAsserted s.port.slowZone = false →
      s'.catcher = { s.catcher with
        active := true, start := s.now, timer := some (s.now + 1000 * s.params.catchTime)
        quiet := some (s.now + 1000 * s.params.catchTime / 2), trackAB := ⟨none, 0, 0⟩, trackBC := ⟨none, 0, 0⟩
        trackCA := ⟨none, 0, 0⟩, crossings := [], entered := 0, clearances := 0 } ∧
      s'.scanner = ⟨0, 2, .continuous, .free, some ⟨0, s.now, s.now + 5⟩, none,
        s.scanner.slots.map fun y => { y with fresh := false, overrun := false }⟩))

/-- R180: the STEP that the line station decides at its entry to ARMING, queued with revision and digest of the plan in force,
`s` the state before and `s'` after the entry: REFUSED reason DRIVE with DRIVE_TRIP asserted; REFUSED reason NO_RUN with
RUN_REQ deasserted, EXPIRED held for the epoch, or a record that is not the plan's; otherwise ARMED. -/
def StepDecided (s s' : State) : Prop :=
  ∀ p, s'.plan.inForce = some p → ∃ code reason : Byte,
    s'.port.stepDecision = some ⟨code, p.revision, p.digest?.getD 0, reason⟩ ∧
    (s.bus.duplicate = false → s.bus.queue.length ≤ 4 →
      ∃ g ∈ s'.bus.queue, g.body = .step code p.revision (p.digest?.getD 0) reason) ∧
    ∀ usable : Prop,
      (usable ↔ sampledAsserted s'.port.runReq = true ∧
        (s'.catcher.record.epoch = some s'.round.epoch → s'.catcher.record.outcome ≠ .expired) ∧
        s'.port.record.valid = true ∧ ∃ b, p.body = some b ∧ s'.port.record.digest = b.digest) →
      (sampledAsserted s'.port.driveTrip = true → code = 2 ∧ reason = 11) ∧
      (sampledAsserted s'.port.driveTrip = false → ¬usable → code = 2 ∧ reason = 16) ∧
      (sampledAsserted s'.port.driveTrip = false → usable → code = 1 ∧ reason = 0)

/-! ## A verdict taken -/

/-- R46, R47, R76: what a station in PLANNING makes, from the state `s` that holds it, of its BUILT candidate `c`. -/
def PlanningTakes (s : State) (c : Plan) (s' : State) : Prop :=
  (c.verdict = .notViable → s'.round.phase = .lockout ∧ s'.round.epoch = s.round.epoch ∧ s'.plan.inForce = none ∧
    s'.plan.candidate = none ∧ s'.gateEn = false) ∧
  (c.verdict = .wait → s' = s) ∧
  ∀ b, c.verdict = .viable → c.body = some b →
    (¬PlanAgreement s b.digest → s' = s) ∧
    (PlanAgreement s b.digest → s.round.early = [] → s.round.deferred = false → s.ownCond .faulted = false →
      (∀ h ∈ s.round.facts.catchHeld, h.epoch ≠ s.round.epoch) →
      (∀ h, (s.heardAt 0).state = some h → h.epoch = s.round.epoch → h.phase ≠ .halted ∧ h.phase ≠ .arming ∧
        h.phase ≠ .running ∧ h.phase ≠ .revising) →
      s'.plan.inForce = some c ∧ s'.plan.candidate = none ∧ s'.plan.build = .none ∧ s'.round.epoch = s.round.epoch ∧
      s'.round.armed = [] ∧ s'.round.refusal = .none ∧
      s'.round.phase = (if s.round.tripRound = true ∧ s.round.facts.brakeOpen = true then .catching
        else if s.round.runDemand = true then .arming else .halted) ∧
      (s.isLine = true → s'.round.phase = .catching → CatchStarted s s') ∧
      (s.isLine = true → s'.round.phase = .arming → StepDecided s s') ∧
      (s.isLine = true → RecordHolds c b .none 0 none s'.port.record ∧
        (s.port.presented = none → s'.port.record ≠ s.port.record → s'.port.rready = true)))

/-- R82 to R84, R94: what a station in REVISING makes, from the state `s` that holds it, of its BUILT candidate `c`. -/
def RevisingTakes (s : State) (c : Plan) (s' : State) : Prop :=
  (c.verdict = .wait → s' = s) ∧
  (c.verdict = .notViable →
    (s.standing ≠ .withdrawing → s' = s) ∧
    (∀ e, s.standing = .withdrawing → s.ownEntry = some e →
      s'.round.epoch = s.round.epoch + 1#16 ∧ (s'.round.phase = .tripped ∨ s'.round.phase = .lockout) ∧
      s'.plan.inForce = none ∧ s'.gateEn = false ∧
      (s.bus.duplicate = false → s.bus.queue.length ≤ 4 →
        ∃ g ∈ s'.bus.queue, g.body = .alarm (BitVec.ofNat 8 s.number) e.cls.byte s.round.phase.code))) ∧
  ∀ (b : PlanBody) (announces : Prop), c.verdict = .viable → c.body = some b →
    (announces ↔ RevisionAgreement s b.digest ∧
      ∃ d, s.round.phaseTimer = some d ∧ s.now + (s.params.lead + 2) * (1000 * s.params.report) ≤ d) →
    (¬announces → s' = s) ∧
    (announces → s' = { s with port := s'.port } ∧
      s'.port.switchPending = some ⟨c.revision, s.port.lastMark + 1 + BitVec.ofNat 16 s.params.lead, b.digest⟩ ∧
      s'.port.record = s.port.record ∧ s'.reviseOut = true ∧
      ∃ q, s'.port.presented = some q ∧
        RecordHolds c b s.port.record.outcome s.port.record.freq s.port.record.angle q ∧
        (q ≠ s.port.presented.getD s.port.record → s'.port.rready = true))

/-- R67, R69: the verdict of the BUILT candidate `c` handed to the Round Controller of the state `s`: PLANNING and REVISING
act on it, and no other phase. -/
def VerdictTaken (s : State) (c : Plan) (s' : State) : Prop :=
  (s.round.phase ≠ .planning → s.round.phase ≠ .revising → s' = s) ∧
  (s.round.phase = .planning → PlanningTakes s c s') ∧
  (s.round.phase = .revising → RevisingTakes s c s')

end Sys2Proof.Safety
end

