-- ==== Sys2Proof/Certificates/Slice0/Obligations.lean ====
section
/-! DEFINITION. The statements about this model, for the provers: what each command does, the rules of the spec that say what
an operation does, and the invariants that every step keeps. In each of them `s.advance t` is the state `s` with its time
moved on to the event (never back) and its heard statuses at their ages; that it is nothing else is
`LossOfSupplyStopsPart`. -/

open Sys2Proof Sys2Proof.Machine Sys2Proof.Safety

/-! ## The step -/

/-- A step runs the command at the front of the queue on the state with the queue's rest; an empty queue idles (the model's
choice: log 3). -/
def Obligations.StepRunsFrontCommand : Prop :=
  (∀ (c : Instr) (rest : List Instr) (s : State),
    step { s with pending := c :: rest } = exec c { s with pending := rest }) ∧
  ∀ s : State, s.pending = [] → step s = .next s

/-- Every command answers a next state at its own time, with the queue as it was; none but a power-on reset changes the
working copy (R181), and none but a reset changes the straps, the validity or the config digest (R182, R183, R185). Beside
the resets and the loss of supply: whether a pin reset is in force is kept; the limit and in-band counts change at a conversion's end alone, the levels of the fault
inputs and of the feedback at their own changes, mark number and next tick at a tick, the status word at a transfer's end,
the fault-reset count at FAULT_RST#, the heard table at a received frame (its statuses with the time, too), the duplicate
flag at a duplicate, the image at a write's completion, and the port's output at an access. -/
def Obligations.EveryCommandKeepsWhatOthersWrite : Prop :=
  (∀ (c : Instr) (s : State), ∃ s', exec c s = .next s' ∧ s'.now = max s.now c.time ∧ s'.pending = s.pending ∧
    ((∀ t x, c ≠ .powerOnReset t x) →
      s'.store.working = s.store.working ∧
      ((∀ t e y, c ≠ .pinReset t e y) →
        s'.store.role = s.store.role ∧ s'.store.ph = s.store.ph ∧ s'.store.pos = s.store.pos ∧
        s'.store.valid = s.store.valid ∧ s'.store.digest = s.store.digest))) ∧
  ∀ (c : Instr) (s s' : State), exec c s = .next s' →
    (∀ t x, c ≠ .powerOnReset t x) → (∀ t e y, c ≠ .pinReset t e y) → (∀ t, c ≠ .lossOfSupply t) →
    s'.bus.resetAt = s.bus.resetAt ∧ s'.store.resetLow = s.store.resetLow ∧
    ((∀ t v k, c ≠ .conversionComplete t v k) →
      s'.watch.tripHigh = s.watch.tripHigh ∧ s'.watch.linkLow = s.watch.linkLow ∧ s'.watch.heat = s.watch.heat ∧
      s'.watch.supply = s.watch.supply ∧ s'.watch.input = s.watch.input ∧ s'.watch.inBand = s.watch.inBand ∧
      s'.watch.passSeen = s.watch.passSeen) ∧
    ((∀ t i a, c ≠ .faultInputChange t i a) →
      s'.watch.bridgeFlt = s.watch.bridgeFlt ∧ s'.watch.cellFlt = s.watch.cellFlt) ∧
    ((∀ t a, c ≠ .bypassFbChange t a) → s'.bypass.feedback = s.bypass.feedback) ∧
    ((∀ t, c ≠ .reportTick t ∧ c ≠ .joinWindowEnd t) →
      s'.port.lastMark = s.port.lastMark ∧ s'.bus.nextTick = s.bus.nextTick) ∧
    ((∀ t, c ≠ .transferEnd t) → s'.port.status = s.port.status) ∧
    ((∀ t i a, c ≠ .faultRstFalling t ∧ c ≠ .discreteInputChange t i a) → s'.port.faultCount = s.port.faultCount) ∧
    ((∀ t x, c ≠ .stateReceived t x ∧ c ≠ .summaryReceived t x ∧ c ≠ .alarmReceived t x ∧ c ≠ .stepReceived t x ∧
        c ≠ .lineReceived t x) →
      s'.bus.heard = (s.advance c.time).bus.heard) ∧
    ((∀ t x, c ≠ .duplicateAddress t x) → s'.bus.duplicate = s.bus.duplicate) ∧
    ((∀ t, c ≠ .writeCompletion t) → s'.store.image = s.store.image ∧ s'.store.freeSince = s.store.freeSince ∧
      ((∀ t a bs r, c ≠ .write t a bs r) → s'.store.write = s.store.write)) ∧
    ((∀ t a o n bs r, c ≠ .readImage t a o n ∧ c ≠ .readWorking t a o n ∧ c ≠ .status t a n ∧ c ≠ .write t a bs r) →
      s'.store.portOut = s.store.portOut ∧ s'.store.portAccess = s.store.portAccess)

/-! ## Resets and supply -/

/-- The state right after reset holds the reset values of each chapter's table. -/
def Obligations.ResetStateHoldsTableValues : Prop :=
  State.reset.runs = true ∧ State.reset.pending = [] ∧
  State.reset.round.phase = .joining ∧ State.reset.round.epoch = 0 ∧ State.reset.round.resettle = 0 ∧
  State.reset.round.attempts = [] ∧ State.reset.round.tripTime = none ∧ State.reset.round.armed = [] ∧
  State.reset.round.early = [] ∧ State.reset.round.refusal = .none ∧ State.reset.round.tripRound = false ∧
  State.reset.round.deferred = false ∧ State.reset.round.runDemand = false ∧ State.reset.round.lineLost = false ∧
  State.reset.round.lockoutClear = none ∧ State.reset.round.mismatchFlag = false ∧
  State.reset.bus.queue = [] ∧ State.reset.bus.echoMisses = 0 ∧ State.reset.bus.duplicate = false ∧
  State.reset.bus.heard = List.replicate 28 ⟨.never, none, none, none⟩ ∧
  State.reset.bus.isoClock = State.reset.now ∧ State.reset.bus.nextTick = State.reset.now + State.reset.report ∧
  State.reset.roster.entries = List.replicate 18 ⟨.silent, .observer, 0, 0, State.reset.now⟩ ∧
  State.reset.roster.digest = rosterDigestOf State.reset.roster.entries ∧ State.reset.roster.mismatch = [] ∧
  State.reset.roster.authority = false ∧
  State.reset.plan.build = .none ∧ State.reset.plan.candidate = none ∧ State.reset.plan.cursor = 1 ∧
  State.reset.plan.inForce = none ∧ State.reset.plan.switchRecord = none ∧
  State.reset.scanner = ⟨0, 3, .single, .tick, none, none, List.replicate 4 ⟨0, false, false⟩⟩ ∧
  State.reset.watch.latch = [] ∧ State.reset.watch.rest = .stopped ∧ State.reset.watch.inBand = 0 ∧
  State.reset.watch.check = .idle ∧ State.reset.watch.passSeen = false ∧
  State.reset.bypass.state = .closed ∧ State.reset.bypass.hold = false ∧ State.reset.bypass.contact = none ∧
  State.reset.catcher.active = false ∧ State.reset.catcher.budget = .idle ∧
  State.reset.catcher.record.outcome = .none ∧ State.reset.catcher.record.epoch = none ∧
  State.reset.port.faultCount = 0 ∧ State.reset.port.status = none ∧ State.reset.port.record.valid = false ∧
  State.reset.port.rready = false ∧ State.reset.port.switchPending = none ∧
  State.reset.store.image = defaultImage ∧ State.reset.store.working = defaultImage ∧ State.reset.store.valid = true

/-- POWER_ON_RESET: the image is loaded into the working copy, validity and config digest are formed, the straps sampled, a
write in progress is dropped, and every block stands at its reset value. The station acts from then on, unless RESET# is low:
then a pin reset is in force (the model's choice: log 21). -/
def Obligations.PowerOnResetLoadsImage : Prop :=
  ∀ (t : Time) (x : Straps) (s : State), ∃ s', exec (.powerOnReset t x) s = .next s' ∧ s'.powered = true ∧
    (s'.runs = true ↔ s.store.resetLow = false) ∧ s'.now = max s.now t ∧
    s'.store = ⟨s.store.image, s.store.image, imageValid s.store.image, configDigest s.store.image, false, none,
      if x.roleHigh then .line else .cell, x.ph, x.pos, s.store.resetLow, s'.now, none, []⟩ ∧
    s'.bus = Bif.init s'.now s'.report ∧ s'.roster = Roster.init s'.now s'.store.valid s'.params.cells ∧
    s'.round = Round.init ∧ s'.plan = PlanUnit.init ∧ s'.scanner = Scanner.init ∧ s'.watch = Watch.init ∧
    s'.bypass = Bypass.init ∧ s'.catcher = CatchUnit.init ∧ s'.port = Port.init

/-- PIN_RESET. At the fall of RESET#, low for at least 1 µs, every output is low and BTX dark from then on, every block but
the store stands at its reset value, and BYPASS_HOLD, where it was high, falls 10 µs later. Until the rise the port's
accesses, a write's completion, the coil's fall, the loss of supply and the resets act, and every other command only moves
the time. At the rise the station acts again: the working copy, the image and a write in progress are kept, validity,
config digest and DIFFERS are evaluated, the straps sampled, every block stands at its reset value, and a coil still to
fall is still held. A pulse under 1 µs is no reset, nor is an edge to the level RESET# has. Without supply an edge moves
the level of RESET# alone, which a later power-on reset finds. -/
def Obligations.PinResetKeepsWorkingCopy : Prop :=
  (∀ (t : Time) (x : Straps) (s : State), s.runs = true →
    exec (.pinReset t (.falls false) x) s = .next (s.advance t) ∧ exec (.pinReset t .rises x) s = .next (s.advance t) ∧
    ∃ s', exec (.pinReset t (.falls true) x) s = .next s' ∧ s'.powered = true ∧ s'.runs = false ∧ s'.now = max s.now t ∧
      s'.store = { s.store with resetLow := true } ∧
      s'.bus = Bif.init s'.now s'.report ∧ s'.roster = Roster.init s'.now s'.store.valid s'.params.cells ∧
      s'.round = Round.init ∧ s'.plan = PlanUnit.init ∧ s'.scanner = Scanner.init ∧ s'.watch = Watch.init ∧
      s'.catcher = CatchUnit.init ∧ s'.port = Port.init ∧
      s'.gateEn = false ∧ s'.btx = [] ∧ s'.release = false ∧ s'.lockoutOut = false ∧ s'.reviseOut = false ∧
      s'.switchOut = false ∧ s'.rreadyOut = false ∧ s'.lso = false ∧
      (s.bypass.hold = true → s.bypass.coilRelease = none →
        s'.bypass = { Bypass.init with hold := true, coilRelease := some (max s.now t + 10) }) ∧
      (s.bypass.hold = false → s'.bypass = Bypass.init)) ∧
  (∀ (c : Instr) (s : State), s.powered = true → s.store.resetLow = true →
    (∀ t x e a o n bs r, c ≠ .powerOnReset t x ∧ c ≠ .pinReset t e x ∧ c ≠ .pinResetCoilRelease t ∧ c ≠ .lossOfSupply t ∧
      c ≠ .writeCompletion t ∧ c ≠ .readImage t a o n ∧ c ≠ .readWorking t a o n ∧ c ≠ .status t a n ∧
      c ≠ .write t a bs r) →
    exec c s = .next (s.advance c.time)) ∧
  (∀ (t : Time) (x : Straps) (s : State), s.powered = true → s.store.resetLow = true →
    (∀ held, exec (.pinReset t (.falls held) x) s = .next (s.advance t)) ∧
    ∃ s', exec (.pinReset t .rises x) s = .next s' ∧ s'.runs = true ∧ s'.now = max s.now t ∧
      s'.store = { s.store with
        valid := imageValid s.store.working, digest := configDigest s.store.working
        differs := decide (s.store.image ≠ s.store.working), role := if x.roleHigh then .line else .cell
        ph := x.ph, pos := x.pos, resetLow := false } ∧
      s'.bus = Bif.init s'.now s'.report ∧ s'.roster = Roster.init s'.now s'.store.valid s'.params.cells ∧
      s'.round = Round.init ∧ s'.plan = PlanUnit.init ∧ s'.scanner = Scanner.init ∧ s'.watch = Watch.init ∧
      s'.catcher = CatchUnit.init ∧ s'.port = Port.init ∧ s'.gateEn = false ∧
      (s.bypass.coilRelease = none → s'.bypass = Bypass.init) ∧
      ∀ d, s.bypass.coilRelease = some d → s'.bypass = { Bypass.init with hold := true, coilRelease := some d }) ∧
  (∀ (t : Time) (x : Straps) (s : State), s.powered = false →
    (∀ held, exec (.pinReset t (.falls held) x) s = .next
      { s.advance t with store := { s.store with resetLow := s.store.resetLow || held } }) ∧
    exec (.pinReset t .rises x) s = .next { s.advance t with store := { s.store with resetLow := false } })

/-- PIN_RESET_COIL_RELEASE, GATE_OFF_WAIT_END and SWITCH_PULSE_END: at its end each wait lowers its own output, and a close
starts the CONTACT timer then; nothing else changes. -/
def Obligations.ShortWaitsLowerTheirOutputs : Prop :=
  (∀ (t d : Time) (s : State), s.powered = true → s.bypass.coilRelease = some d → d ≤ max s.now t →
    exec (.pinResetCoilRelease t) s = .next
      { s.advance t with bypass := { s.bypass with hold := false, coilRelease := none } }) ∧
  (∀ (t d : Time) (s : State), s.runs = true → s.bypass.gateOff = some d → d ≤ max s.now t →
    exec (.gateOffWaitEnd t) s = .next
      { s.advance t with
        bypass := { s.bypass with
          hold := false, gateOff := none, contact := some (max s.now t + 1000 * s.params.contact) } }) ∧
  ∀ (t d : Time) (s : State), s.runs = true → s.port.switchPulse = some d → d ≤ max s.now t →
    exec (.switchPulseEnd t) s = .next { s.advance t with port := { s.port with switchPulse := none } }

/-- LOSS_OF_SUPPLY: a write in progress is dropped with the image as it was before it; every output is low and dark,
and the transmit queue is empty. Without supply every command but a power-on reset and an edge of RESET# only moves the
time on, and the heard statuses with it (the model's choice: log 5). -/
def Obligations.LossOfSupplyStopsPart : Prop :=
  (∀ (t : Time) (s : State), s.powered = true → ∃ s', exec (.lossOfSupply t) s = .next s' ∧ s'.powered = false ∧
    s'.store = { s.store with write := none, portAccess := none, portOut := [] } ∧ s'.bus.queue = [] ∧ s'.btx = [] ∧
    s'.bypassHold = false ∧ s'.gateEn = false ∧ s'.release = false ∧ s'.lockoutOut = false ∧ s'.reviseOut = false ∧
    s'.switchOut = false ∧ s'.rreadyOut = false ∧ s'.lso = false ∧
    s'.round = s.round ∧ s'.roster = s.roster ∧ s'.plan = s.plan ∧ s'.scanner = s.scanner ∧ s'.watch = s.watch ∧
    s'.catcher = s.catcher) ∧
  (∀ (c : Instr) (s : State), s.powered = false → (∀ t e x, c ≠ .powerOnReset t x ∧ c ≠ .pinReset t e x) →
    exec c s = .next
      { s with
        now := max s.now c.time
        bus := { s.bus with
          heard := s.bus.heard.map fun e =>
            { e with status := heardStatusOf (max s.now c.time) s.report s.quietTime e } } })

/-! ## The programming port -/

/-- READ_IMAGE, READ_WORKING and STATUS, taken: command byte 01h, 02h or 03h, and at the access's beginning WP# low, no
write in progress and no load running; in a pin reset too. A READ: the bytes from the offset, wrapping after 63, as many as
are clocked before WP# rises; from an offset above 63 the bytes are free values (the model's choice: log 8). STATUS: one
status byte, repeated, after those already driven in its access, up to a rise of WP# in it: bits 7 and 6 are 1 and 0, bit 5 is 0, and bits 4 to 0 are
DUPLICATE, MISMATCH, UNFITTED, VALID and DIFFERS. Nothing else changes. An access that begins with WP# high, with a write
in progress or before the load or the latest write has ended, or whose command byte is none of 01h to 04h, is ignored:
nothing is returned, and no write begins. -/
def Obligations.PortReadsReturnStoreBytes : Prop :=
  (∀ (t : Time) (a : Access) (o : Byte) (n : Nat) (s : State), s.powered = true → s.store.write = none →
    s.store.freeSince ≤ a.began → a.wp ≠ .high →
    (o.toNat ≤ 63 →
      (a.command = 1 → exec (.readImage t a o n) s = .next
        { s.advance t with
          store := { s.store with
            portAccess := some a.began
            portOut := (List.range (bytesReturned a.wp n)).map fun j => byteAt s.store.image ((o.toNat + j) % 64) } }) ∧
      (a.command = 2 → exec (.readWorking t a o n) s = .next
        { s.advance t with
          store := { s.store with
            portAccess := some a.began
            portOut := (List.range (bytesReturned a.wp n)).map fun j => byteAt s.store.working ((o.toNat + j) % 64) } })) ∧
    (63 < o.toNat → ∃ bs, bs.length = bytesReturned a.wp n ∧
      ∀ r, r = { s.advance t with
          freeCount := s.freeCount + bytesReturned a.wp n
          store := { s.store with portAccess := some a.began, portOut := bs } } →
        (a.command = 1 → exec (.readImage t a o n) s = .next r) ∧
        (a.command = 2 → exec (.readWorking t a o n) s = .next r)) ∧
    (a.command = 3 → ∃ b : Byte, ∀ d, d = (if s.store.portAccess = some a.began then s.store.portOut else []) →
      exec (.status t a n) s = .next
        { s.advance t with
          store := { s.store with
            portAccess := some a.began
            portOut := d ++ List.replicate (bytesReturned a.wp (d.length + n) - d.length) b } } ∧
      b.getLsbD 7 = true ∧ b.getLsbD 6 = false ∧ b.getLsbD 5 = false ∧ b.getLsbD 4 = s.bus.duplicate ∧
      b.getLsbD 3 = s.round.mismatchFlag ∧ b.getLsbD 2 = !s.fitted ∧ b.getLsbD 1 = s.store.valid ∧
      b.getLsbD 0 = s.store.differs)) ∧
  (∀ (t : Time) (a : Access) (o : Byte) (n : Nat) (bs : List Byte) (tr : Bool) (s : State), s.powered = true →
    (a.wp = .high ∨ s.store.write.isSome = true ∨ a.began < s.store.freeSince ∨ a.command = 0 ∨ 4 < a.command.toNat) →
    ∀ r, r = { s.advance t with store := { s.store with portAccess := some a.began, portOut := [] } } →
    exec (.readImage t a o n) s = .next r ∧ exec (.readWorking t a o n) s = .next r ∧
    exec (.status t a n) s = .next r ∧ exec (.write t a bs tr) s = .next r)

/-- WRITE, command byte 04h, its access taken at the beginning: an access that held an offset and 1 to 8 complete data bytes
within the 64 bytes, with WP# low throughout, begins a write of 4 ms. One with no data byte, more than 8, a trailing part
byte, a range past offset 63, or a rise of WP# begins none. WRITE_COMPLETION: the data bytes replace the image bytes from the
offset onward, all together; DIFFERS is evaluated again; the working copy is as it was; accesses begun from now on are taken
again. Both also in a pin reset. -/
def Obligations.PortWriteReplacesImageBytes : Prop :=
  (∀ (t u : Time) (o : Byte) (data : List Byte) (s r : State), s.powered = true → s.store.write = none →
    s.store.freeSince ≤ u → r = { s.advance t with store := { s.store with portAccess := some u, portOut := [] } } →
    (1 ≤ data.length → data.length ≤ 8 → o.toNat + data.length ≤ 64 →
      exec (.write t ⟨u, .low, 4⟩ (o :: data) false) s = .next
        { r with store := { r.store with write := some ⟨o.toNat, data, max s.now t + 4000⟩ } }) ∧
    (data.length = 0 ∨ 8 < data.length ∨ 64 < o.toNat + data.length →
      exec (.write t ⟨u, .low, 4⟩ (o :: data) false) s = .next r) ∧
    exec (.write t ⟨u, .low, 4⟩ (o :: data) true) s = .next r ∧
    exec (.write t ⟨u, .low, 4⟩ [] false) s = .next r ∧
    ∀ n, exec (.write t ⟨u, .rises n, 4⟩ (o :: data) false) s = .next r) ∧
  (∀ (t : Time) (w : StoreWrite) (s : State), s.powered = true → s.store.write = some w → w.due ≤ max s.now t →
    w.offset + w.data.length ≤ s.store.image.length →
    ∃ image',
      exec (.writeCompletion t) s = .next
        { s.advance t with
          store := { s.store with
            image := image', write := none, freeSince := max s.now t, differs := decide (image' ≠ s.store.working) } } ∧
      image'.length = s.store.image.length ∧
      ∀ i : Nat, image'[i]? =
        if w.offset ≤ i ∧ i < w.offset + w.data.length then w.data[i - w.offset]? else s.store.image[i]?)

/-! ## The Bus Interface -/

/-- REPORT_TICK and JOIN_WINDOW_END in JOINING: the window counts down; a fitted station whose working copy is invalid
stays in JOINING after it and queues its STATE; a line station with a valid copy and no duplicate, no voters, no run
demand and no deferred change leaves for HALTED. A cell station without a duplicate that holds a young STATE of the line
station with its own config digest leaves JOINING: for LOCKOUT when that STATE shows it; for SETTLING when it shows
TRIPPED, SETTLING, PLANNING, CATCHING or ARMING (trip-round by brake open); for RUNNING and HALTED, which the entry change
of the assertion turns into REVISING and SETTLING. Its own entry is asserted with the next version: FAULTED with a latched
class, else RESTING class ISOLATION beside a drive in motion, else RESTING with the soft standing, else LIVE. A tick in
TRIPPED or LOCKOUT marks the entries of absent owners SILENT, and no
other (one that shows another config digest at the first check: log 56); in RUNNING and REVISING a mark trips the station at the successor epoch. Every tick sets the next tick and gives
out the line station's mark number; a tick before its time is none. -/
def Obligations.ReportTickCountsAndTestsJoin : Prop :=
  (∀ (t : Time) (s : State), s.runs = true → s.bus.nextTick ≤ max s.now t → s.round.phase = .joining →
    (2 ≤ s.round.joinLeft → ∃ s', exec (.reportTick t) s = .next s' ∧ s'.round.phase = .joining ∧
      s'.round.joinLeft = s.round.joinLeft - 1 ∧ s'.bus.queue = s.bus.queue ∧ s'.roster = s.roster) ∧
    (s.round.joinLeft = 1 → s.bus.duplicate = false → s.fitted = true → s.store.valid = false →
      ∃ s', exec (.joinWindowEnd t) s = .next s' ∧ exec (.reportTick t) s = .next s' ∧ s'.round.phase = .joining ∧
        s'.round.joinLeft = 0 ∧ s'.bus.queue = enqueueFrame (max s.now t) .state s.bus.queue) ∧
    (s.round.joinLeft = 1 → s.bus.duplicate = false → s.isLine = true → s.store.valid = true →
      (s.advance t).voters = [] → s.round.runDemand = false → s.round.deferred = false →
      ∃ s', exec (.joinWindowEnd t) s = .next s' ∧ exec (.reportTick t) s = .next s' ∧ s'.round.phase = .halted ∧
        s'.roster.authority = true) ∧
    (∀ (h : HeardState) (i : Nat) (e e' : RosterEntry) (content : Condition × FaultClass), s.round.joinLeft ≤ 1 →
      s.bus.duplicate = false → s.ownIndex = some i → s.roster.entries[i - 1]? = some e →
      (s.heardAt 0).state = some h → max s.now t - h.time < s.quietTime → h.cfgDigest = s.store.digest →
      (s.watch.latch ≠ [] → s.bypass.confirmedClosed = false) →
      content =
        (if s.watch.latch ≠ [] then (.faulted, s.watch.leading)
          else if h.phase = .running ∨ h.phase = .revising then (.resting, FaultClass.isolation)
          else if s.watch.passSeen = false then (.resting, FaultClass.refused)
          else if 0 < s.watch.linkLow then (.resting, FaultClass.linkLow)
          else if 0 < s.watch.heat then (.resting, FaultClass.heat)
          else if 0 < s.watch.supply then (.resting, FaultClass.supply)
          else if 0 < s.watch.input then (.resting, FaultClass.input)
          else if 0 < s.watch.tripHigh then (.resting, FaultClass.refused)
          else (.live, 0)) →
      e' = ⟨content.1, .owner, content.2, versionSucc e.version, e.silentSince⟩ →
      ∃ s', exec (.reportTick t) s = .next s' ∧ (s.round.joinLeft = 1 → exec (.joinWindowEnd t) s = .next s') ∧
        (h.phase = .lockout → s'.round.phase = .lockout ∧ s'.roster.authority = true ∧
          s'.roster.entries = s.roster.entries.set (i - 1) e') ∧
        (h.phase = .running ∨ h.phase = .revising → s.round.facts.runReq = true → s.round.deferred = false →
          s'.round.phase = .revising ∧ s'.roster.authority = true ∧
          s'.roster.entries = s.roster.entries.set (i - 1) e') ∧
        (1 ≤ s.params.report → rosterDigestOf (s.roster.entries.set (i - 1) e') ≠ s.roster.digest →
          (h.phase = .tripped ∨ h.phase = .settling ∨ h.phase = .planning ∨ h.phase = .catching ∨ h.phase = .arming →
            s'.round.phase = .settling ∧ s'.round.resettle = 0 ∧ s'.round.tripRound = s.round.facts.brakeOpen ∧
            s'.roster.authority = true ∧ s'.roster.entries = s.roster.entries.set (i - 1) e') ∧
          (h.phase = .halted → s.round.runDemand = false → s.round.deferred = false →
            s'.round.phase = .settling ∧ s'.roster.authority = true ∧
            s'.roster.entries = s.roster.entries.set (i - 1) e')))) ∧
  (∀ (t : Time) (s : State), s.runs = true → s.bus.nextTick ≤ max s.now t → s.store.valid = true →
    max s.now t - s.bus.isoClock < s.quietTime →
    ∀ (i : Nat) (e : RosterEntry) (x : HeardEntry) (absent : Prop), 1 ≤ i → i ≤ 3 * s.params.cells →
      s.ownIndex ≠ some i → s.roster.entries[i - 1]? = some e → e.cond ≠ .silent →
      x = (s.advance t).heardAt (stationOfIndex s.params.cells i) →
      (absent ↔ x.status = .silent ∨ (x.status = .never ∧ s.quietTime ≤ max s.now t - s.bus.resetAt) ∨
        ∃ h, x.state = some h ∧ h.cfgDigest ≠ s.store.digest) →
      (s.round.phase = .tripped ∨ s.round.phase = .lockout → ∃ s', exec (.reportTick t) s = .next s' ∧
        (absent →
          s'.roster.entries[i - 1]? = some ⟨.silent, .observer, 0, versionSucc e.version, max s.now t⟩) ∧
        (¬absent → s'.roster.entries[i - 1]? = some e)) ∧
      (s.round.phase = .running ∨ s.round.phase = .revising → absent →
        ∃ s', exec (.reportTick t) s = .next s' ∧ s'.round.epoch = s.round.epoch + 1#16 ∧
          (s'.round.phase = .tripped ∨ s'.round.phase = .lockout) ∧ s'.plan.inForce = none)) ∧
  (∀ (t : Time) (s : State), s.runs = true →
    (max s.now t < s.bus.nextTick → exec (.reportTick t) s = .next (s.advance t)) ∧
    (s.bus.nextTick ≤ max s.now t → ∃ s', exec (.reportTick t) s = .next s' ∧
      s'.bus.nextTick = s.bus.nextTick + s.report ∧ s'.store = s.store ∧
      s'.port.lastMark =
        (if s.isLine && s.store.valid && !(s.advance t).countTick.barred then s.port.lastMark + 1
         else s.port.lastMark)))

/-- HEARD_STATUS_TIMEOUT: the status of each entry is NEVER without a frame, HEARD below 2 report periods, QUIET below
QUIET_LIMIT of them, SILENT from then on; nothing else changes. -/
def Obligations.HeardStatusFollowsAge : Prop :=
  ∀ (t : Time) (n : Nat) (s : State), s.runs = true →
    exec (.heardStatusTimeout t n) s = .next
      { s with
        now := max s.now t
        bus := { s.bus with
          heard := s.bus.heard.map fun e =>
            { e with
              status := match e.lastHeard with
                | none => .never
                | some u =>
                  if max s.now t - u < 2 * (1000 * s.params.report) then .heard
                  else if max s.now t - u < s.params.quietLimit * (1000 * s.params.report) then .quiet
                  else .silent } } }

/-- ISOLATE_TIMEOUT: ISOLATE ms without a valid frame from another station take the station to ISOLATED from any phase: the
queue is emptied, plan and armed set cleared, epoch and attempt list kept, GATE_EN low. Under active authority an own entry
that is LIVE or RESTING is written RESTING class ISOLATION and the rest hold-off restarted; an entry that rests so already
keeps its version, and the rest hold-off is restarted all the same (the model's inference from R9 and R160: log 54). A
BYPASSED own entry is kept, and a FAULTED one unless the CLOSE that goes with the entry confirms a closed contactor, and the
rest hold-off is then as it was; so it is, with every entry, under inactive authority. -/
def Obligations.IsolateTimeoutIsolates : Prop :=
  ∀ (t : Time) (s : State), s.runs = true → s.round.phase ≠ .isolated →
    s.bus.isoClock + 1000 * s.params.isolate ≤ max s.now t →
    ∃ s', exec (.isolateTimeout t) s = .next s' ∧ s'.round.phase = .isolated ∧ s'.round.phaseTimer = none ∧
      s'.round.epoch = s.round.epoch ∧ s'.round.attempts = s.round.attempts ∧ s'.round.armed = [] ∧
      s'.plan.inForce = none ∧ s'.plan.candidate = none ∧ s'.bus.queue = [] ∧ s'.bus.attempt = none ∧
      s'.bus.echoMisses = 0 ∧ s'.bus.heard = (s.advance t).bus.heard ∧ s'.gateEn = false ∧ s'.store = s.store ∧
      (∀ i e, s.ownIndex = some i → s.roster.authority = true → 1 ≤ i → s.roster.entries[i - 1]? = some e →
        ((e.cond = .live ∨ e.cond = .resting) →
          s'.watch.rest = .running (max s.now t + 1000000 * s.params.rest) ∧
          (e.cond = .resting ∧ e.source = .owner ∧ e.cls = FaultClass.isolation →
            s'.roster.entries = s.roster.entries ∧ s'.roster.digest = s.roster.digest) ∧
          (e.cond = .live ∨ e.source ≠ .owner ∨ e.cls ≠ FaultClass.isolation →
            s'.roster.entries[i - 1]? =
              some ⟨.resting, .owner, FaultClass.isolation, versionSucc e.version, e.silentSince⟩)) ∧
        (e.cond = .bypassed ∨ (e.cond = .faulted ∧ (s.watch.latch = [] ∨ s.bypass.confirmedClosed = false)) →
          s'.roster.entries = s.roster.entries ∧ s'.watch.rest = s.watch.rest)) ∧
      (s.roster.authority = false → s'.roster.entries = s.roster.entries ∧ s'.watch.rest = s.watch.rest)

/-- TRANSMISSION_ATTEMPT: the head of the queue starts once the medium has been quiet for 2 µs + (rank × 28 + station
number) × 1 µs with sending not barred and no attempt running; before that, nothing starts. The frame is stamped with the
station's number, its epoch and its payload as they then stand: an ALARM and a STEP as queued; a STATE with the phase, the
plan shown, line lost and the two digests; a SUMMARY with every entry; a LINE with its mark number, the samples, the latest
status word, the catch block of the epoch and the switch block not past its mark. DEFER and INVALID_TRANSMISSION outside an
attempt: light on the medium ends the quiet; a transmission that fails the checks has no effect but that the medium is
quiet again from its end. -/
def Obligations.AttemptStartsAfterAccessWait : Prop :=
  (∀ (t q : Time) (g : QFrame) (rest : List QFrame) (s : State), s.runs = true → s.bus.queue = g :: rest →
    s.barred = false → s.bus.attempt = none → s.bus.quietStart = some q →
    (max s.now t < q + 2 + (g.rank * 28 + s.number) → exec (.transmissionAttempt t) s = .next (s.advance t)) ∧
    (q + 2 + (g.rank * 28 + s.number) ≤ max s.now t →
      ∃ s' f, exec (.transmissionAttempt t) s = .next s' ∧
        s'.bus = { (s.advance t).bus with
          queue := { g with inAttempt := true } :: rest, attempt := some ⟨f, max s.now t⟩ } ∧
        f.station = BitVec.ofNat 8 s.number ∧ f.epoch = s.round.epoch ∧
        (∀ o c p, g.body = .alarm o c p → f.payload = .alarm o c p) ∧
        (∀ c r d w, g.body = .step c r d w → f.payload = .step c r d w) ∧
        (g.body = .summary → f.payload = .summary (s.roster.entries.map fun e =>
          ⟨e.cond.code, e.source == .owner, e.cls, e.version⟩)) ∧
        (g.body = .state → ∃ p : StatePayload, f.payload = .state p ∧ p.phase = s.round.phase.code ∧
          p.lineLost = s.round.lineLost ∧ p.rosterDigest = s.roster.digest ∧ p.cfgDigest = s.store.digest ∧
          ∀ shown : Option Plan,
            (∀ c, shown = some c ↔
              ((s.round.phase = .planning ∨ s.round.phase = .revising) ∧ s.plan.build = .built ∧
                s.plan.candidate = some c ∧ c.verdict ≠ .notViable) ∨
              (s.plan.inForce = some c ∧ ((s.round.phase ≠ .planning ∧ s.round.phase ≠ .revising) ∨
                s.plan.build ≠ .built ∨ ∀ d, s.plan.candidate = some d → d.verdict = .notViable))) →
            (shown = none → p.planPresent = false ∧ p.planRev = 0 ∧ p.planDigest = 0) ∧
            ∀ c, shown = some c → p.planPresent = true ∧ p.planRev = c.revision ∧
              ∀ b, c.body = some b → p.planDigest = b.digest) ∧
        (∀ m, g.body = .line m → ∃ cb sb,
          f.payload = .line
            ⟨m, sampledAsserted s.port.runReq, sampledAsserted s.port.brakeOpen, sampledAsserted s.port.dir,
              sampledAsserted s.port.overhaul, sampledAsserted s.port.slowZone, sampledAsserted s.port.driveTrip,
              s.port.faultCount, (s.port.status.map StatusWord.encFreq).getD 0,
              (s.port.status.map StatusWord.driveFreq).getD 0, (s.port.status.map StatusWord.driveAngle).getD 0, cb, sb⟩ ∧
          (s.catcher.record.epoch = some s.round.epoch → s.catcher.record.outcome ≠ .none →
            cb = some ⟨s.catcher.record.outcome.code, frequencyField s.catcher.record.freq⟩) ∧
          (s.catcher.record.epoch ≠ some s.round.epoch ∨ s.catcher.record.outcome = .none → cb = none) ∧
          (s.port.switchPending = none → sb = none) ∧
          ∀ w, s.port.switchPending = some w → sb = if serialNewer m w.mark then none else some w) ∧
        s' = { s.advance t with bus := s'.bus, catcher := s'.catcher } ∧
        (g.body.kind ≠ .line → s'.catcher = s.catcher))) ∧
  (∀ (t : Time) (x : Transmission) (s : State), s.runs = true → s.bus.attempt = none →
    exec (.defer t) s = .next { s.advance t with bus := { (s.advance t).bus with quietStart := none } } ∧
    exec (.invalidTransmission t x) s = .next
      { s.advance t with bus := { (s.advance t).bus with quietStart := some (max s.now t) } })

/-- ATTEMPT_COMPLETED: the frame in its attempt, behind any that joined in front of it, leaves the queue, or stays as the new
frame when it was renewed, and the echo-miss count returns to 0, whatever its kind. An own STATE or ALARM acts on no block of
its own; an own SUMMARY returns every digest-difference count to 0. An own STEP of the epoch is taken as any other: ARMED for
the plan in force enters the armed set, REFUSED leaves it and sets the refusal record, one of another digest is an early
step; in ARMING a set now complete leads to RUNNING, a cell's REFUSED to a counted resettle, the line station's to HALTED.
An own LINE frame replaces the line facts (what each phase does with them: LineFrameReplacesLineFacts); the line station's
own mark frame in REVISING adopts the candidate: RUNNING, SWITCH pulsed, REVISE lowered, RELEASE kept, and the presented
record in force. COLLISION: the frame keeps its place with its collision count one higher; at 16 a frame other than an ALARM
is dropped; a renewed frame is retried as the new frame. The echo-miss count is set to 0. -/
def Obligations.AttemptEndsMoveQueue : Prop :=
  (∀ (t : Time) (a : Attempt) (g : QFrame) (front rest : List QFrame) (s : State) (u : Bif), s.runs = true →
    s.bus.attempt = some a → s.bus.queue = front ++ g :: rest → (∀ h ∈ front, h.inAttempt = false) →
    g.inAttempt = true →
    u = { (s.advance t).bus with
      queue := front ++ (match g.renewed with
        | some b => ⟨b, g.queuedAt, 0, false, none⟩ :: rest
        | none => rest)
      attempt := none, echoMisses := 0, quietStart := some (max s.now t) } →
    ((a.frame.payload.kind = .state ∨ a.frame.payload.kind = .alarm) →
      exec (.attemptCompleted t) s = .next { s.advance t with bus := u }) ∧
    (a.frame.payload.kind = .summary →
      exec (.attemptCompleted t) s = .next
        { s.advance t with bus := u, roster := { s.roster with diff := List.replicate 28 0 } }) ∧
    (∀ code rev d w n, a.frame.payload = .step code rev d w → n = a.frame.station.toNat →
      a.frame.epoch = s.round.epoch →
      (s.round.phase ≠ .arming →
        (code = 1 → s.planHasDigest d = true →
          exec (.attemptCompleted t) s = .next
            { s.advance t with bus := u, round := { s.round with armed := insertRising n s.round.armed } }) ∧
        (code = 2 → s.planHasDigest d = true →
          ∃ s', exec (.attemptCompleted t) s = .next s' ∧
            s' = { s.advance t with bus := u, round := s'.round, catcher := s'.catcher, scanner := s'.scanner } ∧
            s'.round =
              { s.round with
                armed := s.round.armed.filter fun m => m != n
                refusal := if n = 0 then .line else if s.round.refusal = .line then .line else .cell } ∧
            (s.catcher.overdue = false → s'.catcher = s.catcher ∧ s'.scanner = s.scanner)) ∧
        ((code = 1 ∨ code = 2) → s.planHasDigest d = false →
          exec (.attemptCompleted t) s = .next
            { s.advance t with
              bus := u
              round := { s.round with
                early := (s.round.early.filter fun e => e.station != n) ++ [⟨n, code == 1, d⟩] } })) ∧
      (∀ p, s.round.phase = .arming → s.plan.inForce = some p → s.planHasDigest d = true →
        s.heldOutcome ≠ some .expired → s.round.refusal = .none →
        (code = 1 → (∃ m ∈ p.armedNeeded, m ≠ n ∧ m ∉ s.round.armed) →
          exec (.attemptCompleted t) s = .next
            { s.advance t with bus := u, round := { s.round with armed := insertRising n s.round.armed } }) ∧
        (code = 1 → (∀ m ∈ p.armedNeeded, m = n ∨ m ∈ s.round.armed) → s.round.facts.runReq = true →
          s.round.deferred = false →
          ∃ s', exec (.attemptCompleted t) s = .next s' ∧ s'.round.phase = .running ∧
            s'.round.armed = insertRising n s.round.armed ∧ s'.round.epoch = s.round.epoch ∧
            s'.plan.inForce = some p ∧ (s.isLine = true → s'.release = true)) ∧
        (code = 2 → n ≠ 0 → s.round.resettle ≤ s.params.resettle →
          ∃ s', exec (.attemptCompleted t) s = .next s' ∧ s'.round.resettle = s.round.resettle + 1 ∧
            s'.round.epoch = s.round.epoch ∧
            (s.round.resettle + 1 ≤ s.params.resettle → s'.round.phase = .settling) ∧
            (s.params.resettle < s.round.resettle + 1 → s'.round.phase = .lockout)) ∧
        (code = 2 → n = 0 → s.round.deferred = false →
          ∃ s', exec (.attemptCompleted t) s = .next s' ∧ s'.round.phase = .halted ∧ s'.round.runDemand = false ∧
            s'.round.epoch = s.round.epoch ∧ s'.plan.inForce = some p))) ∧
    (∀ l, a.frame.payload = .line l → s.isLine = true →
      (s.round.phase = .tripped ∨ s.round.phase = .settling ∨ s.round.phase = .planning →
        exec (.attemptCompleted t) s = .next
          { s.advance t with
            bus := u
            round := { s.round with
              facts := ⟨l.runReq, l.runReq, l.brakeOpen, some l.faultCount,
                catchHeldAfter a.frame.epoch l s.round.facts.catchHeld, some l.mark⟩
              runDemand := l.runReq && (s.round.runDemand || !s.round.facts.prevRun) } }) ∧
      (∀ w c b, a.frame.epoch = s.round.epoch → s.round.phase = .revising → l.runReq = true →
        s.round.deferred = false → l.switchBlock = some w → l.mark = w.mark → s.plan.build = .built →
        s.plan.candidate = some c → c.verdict = .viable → c.revision = w.rev → c.body = some b → b.digest = w.digest →
        (∀ r ∈ s.plan.switchRecord, r.rev = w.rev) →
        ∃ s', exec (.attemptCompleted t) s = .next s' ∧ s'.plan.inForce = some c ∧ s'.plan.candidate = none ∧
          s'.round.phase = .running ∧ s'.round.epoch = s.round.epoch ∧ s'.round.phaseTimer = none ∧
          (s.round.early = [] → s'.round.armed = [] ∧ s'.round.refusal = .none) ∧
          s'.port.switchPulse = some (max s.now t + 10) ∧ s'.switchOut = true ∧ s'.port.switchPending = none ∧
          s'.reviseOut = false ∧ s'.release = true ∧ s'.port.presented = none ∧
          ∀ r, s.port.presented = some r → s'.port.record = r ∧ s'.port.rready = s.port.rready))) ∧
  (∀ (t : Time) (a : Attempt) (g : QFrame) (front rest : List QFrame) (s : State), s.runs = true →
    s.bus.attempt = some a → s.bus.queue = front ++ g :: rest → (∀ h ∈ front, h.inAttempt = false) →
    g.inAttempt = true →
    exec (.collision t) s = .next
      { s.advance t with
        bus := { (s.advance t).bus with
          queue := front ++ (match g.renewed with
            | some b => ⟨b, g.queuedAt, 0, false, none⟩ :: rest
            | none =>
              if g.body.kind ≠ .alarm ∧ 16 ≤ g.collisions + 1 then rest
              else { g with collisions := g.collisions + 1, inAttempt := false } :: rest)
          attempt := none, echoMisses := 0, quietStart := some (max s.now t) } })

/-- ECHO_MISS: the frame is taken as sent, or stays as the new frame when it was renewed, and is not handed to the own blocks;
the count rises by 1, the medium stays quiet since its earlier quiet start (no light was seen), and at 3 the station
isolates. -/
def Obligations.ThirdEchoMissIsolates : Prop :=
  ∀ (t : Time) (a : Attempt) (g : QFrame) (front rest : List QFrame) (s : State), s.runs = true →
    s.bus.attempt = some a → s.bus.queue = front ++ g :: rest → (∀ h ∈ front, h.inAttempt = false) →
    g.inAttempt = true →
    (s.bus.echoMisses + 1 < 3 →
      exec (.echoMiss t) s = .next
        { s.advance t with
          bus := { (s.advance t).bus with
            queue := front ++ (match g.renewed with
              | some b => ⟨b, g.queuedAt, 0, false, none⟩ :: rest
              | none => rest)
            attempt := none, echoMisses := s.bus.echoMisses + 1 } }) ∧
    (3 ≤ s.bus.echoMisses + 1 →
      ∃ s', exec (.echoMiss t) s = .next s' ∧ s'.round.phase = .isolated ∧ s'.bus.queue = [] ∧
        s'.bus.echoMisses = 0 ∧ s'.round.epoch = s.round.epoch)

/-- DUPLICATE_ADDRESS: a valid frame with the own number outside an attempt sets the duplicate flag, moves the isolation
clock and takes the station to JOINING with a new join window and an empty queue; no heard-table entry is written. -/
def Obligations.DuplicateAddressForcesJoining : Prop :=
  ∀ (t : Time) (x : Transmission) (f : Frame) (s : State), s.runs = true → examine x = some f →
    f.station.toNat = s.number → s.bus.attempt = none →
    ∃ s', exec (.duplicateAddress t x) s = .next s' ∧ s'.bus.duplicate = true ∧ s'.round.phase = .joining ∧
      s'.round.joinLeft = 3 ∧ s'.bus.queue = [] ∧ s'.bus.isoClock = max s.now t ∧ s'.roster.authority = false ∧
      s'.plan.inForce = none ∧ s'.round.epoch = s.round.epoch ∧ s'.bus.heard = (s.advance t).bus.heard

/-- R153: a frame of a single-copy kind held in the queue: a waiting one is replaced in place with its collision count at 0,
one in an attempt is marked renewed; no frame is added. -/
def Obligations.SingleCopyFrameIsReplacedInPlace : Prop :=
  ∀ (now : Time) (b : QBody) (g : QFrame) (front back : List QFrame), b.kind = .state ∨ b.kind = .summary ∨ b.kind = .line →
    g.body.kind = b.kind → (∀ h ∈ front ++ back, h.body.kind ≠ b.kind) →
    enqueueFrame now b (front ++ g :: back) =
      front ++ (if g.inAttempt then { g with renewed := some b } else { g with body := b, collisions := 0 }) :: back

/-- R154: a frame queued when 6 are held and none of them is of its single-copy kind; `w` is the worst rank present. An
incoming frame of that rank or worse, not an ALARM, is discarded; otherwise the last waiting frame of that rank gives way;
an ALARM among waiting ALARMs alone is carried by them. -/
def Obligations.FullQueueKeepsBestRanks : Prop :=
  ∀ (now : Time) (b : QBody) (q : List QFrame) (w : Nat), q.length = 6 →
    (b.kind = .alarm ∨ b.kind = .step ∨ ∀ g ∈ q, g.body.kind ≠ b.kind) →
    (∀ g ∈ q, g.inAttempt = false → g.rank ≤ w) → (∃ g ∈ q, g.inAttempt = false ∧ g.rank = w) →
    (b.kind ≠ .alarm → w ≤ b.kind.rank → enqueueFrame now b q = q) ∧
    (∀ front h back, q = front ++ h :: back → h.inAttempt = false → h.rank = w →
      (∀ g ∈ back, g.inAttempt = false → g.rank ≠ w) →
      (b.kind ≠ .alarm ∧ b.kind.rank < w) ∨ (b.kind = .alarm ∧ ∃ g ∈ q, g.inAttempt = false ∧ g.body.kind ≠ .alarm) →
      enqueueFrame now b q = insertByRank ⟨b, now, 0, false, none⟩ (front ++ back)) ∧
    (b.kind = .alarm → (∀ g ∈ q, g.inAttempt = false → g.body.kind = .alarm) → enqueueFrame now b q = q)

/-! ## Frames -/

/-- Every frame a station can send is read back from its transmission as the frame it is, with every field. -/
def Obligations.TransmissionReadsBackAsFrame : Prop :=
  ∀ f : Frame, f.wf = true → examine f.transmission = some f

/-- STATE_RECEIVED, SUMMARY_RECEIVED, ALARM_RECEIVED, STEP_RECEIVED and LINE_RECEIVED: the sender's heard-table entry is
written (its STATE fields by a STATE in range alone), no other entry is, and the isolation clock is set. Then the frame's
epoch is taken. In ISOLATED the frame first takes the station to JOINING, with a new join window. In JOINING a newer epoch is
stored, the epoch of the first frame since the reset whatever it is, and the station stays in JOINING. In LOCKOUT a newer
epoch is stored and the phase stays, unless the frame is a LINE frame that clears LOCKOUT (LineFrameReplacesLineFacts). In
every other phase a newer epoch of any frame but an ALARM (AlarmIsTakenByItsEpoch) and a STATE that shows LOCKOUT
(StateFrameActsOnRound) is catch-up: TRIPPED with a new trip time and DWELL, the plan cleared, the attempt list as it was; at
a line station the trip context is saved (the tag of its pre-trip plan in a round: log 52). Newer is by serial comparison, at
a difference of 32768 the greater; a SUMMARY's epoch is taken before its merge (log 47). -/
def Obligations.ValidFrameIsHeardAndAdopted : Prop :=
  (∀ a b : Half, epochNewer a b = true ↔ SerialAfter a b) ∧
  ∀ (t : Time) (x : Transmission) (f : Frame) (c : Instr) (k : Kind) (s : State), s.runs = true →
    f.station.toNat ≠ s.number → examineKind k x = some f →
    (c = .stateReceived t x ∧ k = .state) ∨ (c = .summaryReceived t x ∧ k = .summary) ∨
      (c = .alarmReceived t x ∧ k = .alarm) ∨ (c = .stepReceived t x ∧ k = .step) ∨ (c = .lineReceived t x ∧ k = .line) →
    ∀ (newer : Prop), (newer ↔ epochNewer f.epoch s.round.epoch = true) →
    ∃ s', exec c s = .next s' ∧ s'.bus.isoClock = max s.now t ∧ s'.round.firstTaken = true ∧
      s'.bus.heard = (s.advance t).bus.heard.set f.station.toNat
        ⟨.heard, some (max s.now t), some f.epoch,
          (heardStateOf (max s.now t) f).or (s.heardAt f.station.toNat).state⟩ ∧
      (s.round.phase = .joining ∨ s.round.phase = .isolated →
        s'.round.phase = .joining ∧ s'.round.attempts = s.round.attempts ∧
        (newer ∨ s.round.firstTaken = false → s'.round.epoch = f.epoch) ∧
        (¬newer → s.round.firstTaken = true → s'.round.epoch = s.round.epoch) ∧
        (s.round.phase = .isolated → s'.round.joinLeft = 3 ∧ s'.roster.authority = false)) ∧
      (newer → s.round.phase = .lockout →
        (∀ l n, f.payload = .line l → f.station = 0 → s.round.facts.faultCount = some n →
          n = l.faultCount ∨ l.runReq = true) →
        s'.round.phase = .lockout ∧ s'.round.epoch = f.epoch ∧ s'.round.attempts = s.round.attempts) ∧
      (newer → s.round.phase ≠ .joining → s.round.phase ≠ .isolated → s.round.phase ≠ .lockout → k ≠ .alarm →
        (∀ p, f.payload = .state p → p.phase ≠ 9) →
        s'.round.phase = .tripped ∧ s'.round.epoch = f.epoch ∧ s'.round.attempts = s.round.attempts ∧
        s'.round.resettle = 0 ∧ s'.round.tripRound = true ∧ s'.round.tripTime = some (max s.now t) ∧
        s'.round.phaseTimer = some (max s.now t + 1000 * s.params.dwell) ∧ s'.plan.inForce = none ∧
        s'.plan.candidate = none ∧ s'.gateEn = false ∧
        (s.isLine = true → RestartSetAnew s (max s.now t) f.epoch s'))

/-- ALARM_RECEIVED outside JOINING, ISOLATED and LOCKOUT: a newer epoch is adopted with a trip under the attempt list rule, an
equal one is merged in TRIPPED and SETTLING and opens the successor round in a later phase, an older one has no effect. At a
line station the entry to TRIPPED saves the trip context and sets the restart state anew; a trip taken during a round, in a
phase that has adopted a plan too, has an EMPTY pre-trip plan (the model's reading: log 52). -/
def Obligations.AlarmIsTakenByItsEpoch : Prop :=
  ∀ (t : Time) (x : Transmission) (f : Frame) (s : State), s.runs = true → examineKind .alarm x = some f →
    f.station.toNat ≠ s.number → s.round.phase ≠ .joining → s.round.phase ≠ .isolated → s.round.phase ≠ .lockout →
    ∀ pruned, pruned = s.round.attempts.dropWhile (fun u => decide (u + 1000000 * s.params.window < max s.now t)) →
    (epochNewer f.epoch s.round.epoch = true →
      ∃ s', exec (.alarmReceived t x) s = .next s' ∧ s'.round.epoch = f.epoch ∧ s'.round.resettle = 0 ∧
        s'.plan.inForce = none ∧
        (s.params.rounds ≤ pruned.length → s'.round.phase = .lockout ∧ s'.round.attempts = pruned) ∧
        (pruned.length < s.params.rounds → s'.round.phase = .tripped ∧ s'.round.tripTime = some (max s.now t) ∧
          s'.round.attempts = (if pruned.getLast? = some (max s.now t) then pruned else pruned ++ [max s.now t]) ∧
          (s.isLine = true → RestartSetAnew s (max s.now t) f.epoch s'))) ∧
    (f.epoch = s.round.epoch → s.round.phase ≠ .tripped → s.round.phase ≠ .settling →
      ∃ s', exec (.alarmReceived t x) s = .next s' ∧ s'.round.epoch = s.round.epoch + 1#16 ∧ s'.plan.inForce = none ∧
        (s.params.rounds ≤ pruned.length → s'.round.phase = .lockout) ∧
        (pruned.length < s.params.rounds → s'.round.phase = .tripped ∧
          (s.isLine = true → RestartSetAnew s (max s.now t) (s.round.epoch + 1#16) s'))) ∧
    ((f.epoch = s.round.epoch ∧ (s.round.phase = .tripped ∨ s.round.phase = .settling)) ∨
        (f.epoch ≠ s.round.epoch ∧ epochNewer f.epoch s.round.epoch = false) →
      ∃ s', exec (.alarmReceived t x) s = .next s' ∧ s'.round = { s.round with firstTaken := true } ∧
        s'.plan = s.plan ∧ s'.roster = s.roster)

/-- STATE_RECEIVED with its phase code in range, n its sender. One that shows LOCKOUT at an equal or newer epoch takes the
station to LOCKOUT from any phase other than JOINING, ISOLATED and LOCKOUT, at an equal epoch not before two report periods
after a fault-reset clearing; within them, and at an older epoch, a LOCKOUT shown by another than the line station leaves
round and plan as they were. In SETTLING, the lockout aside, a STATE of the own configuration leads to PLANNING just when
roster agreement stands with it, and with the line station present; otherwise SETTLING goes on. The digest-difference count
of the sender: a voter's STATE of the own epoch with another roster digest raises 0 to 1, and at 1 queues a SUMMARY and
returns it to 0; any other STATE returns it to 0. At a cell, a STATE of station 0 that makes it no voter where it was
present loses the line station: a local alarm of class LINE in RUNNING and REVISING, SETTLING with the resettle count kept
in HALTED, SETTLING, PLANNING, CATCHING and ARMING, and no phase effect in TRIPPED and LOCKOUT; one that makes it a voter
clears line lost. The order of what one STATE does is the model's choice (log 15). -/
def Obligations.StateFrameActsOnRound : Prop :=
  ∀ (t : Time) (x : Transmission) (f : Frame) (p : StatePayload) (n : Nat) (s : State), s.runs = true →
    examineKind .state x = some f → f.payload = .state p → p.phase.toNat ≤ 10 → n = f.station.toNat → n ≠ s.number →
    s.round.phase ≠ .joining → s.round.phase ≠ .isolated →
    ∀ (voterShown spreads : Prop),
    (voterShown ↔ p.phase ≠ 0 ∧ p.phase ≠ 10 ∧ p.cfgDigest = s.store.digest) →
    (spreads ↔ p.phase = 9 ∧ s.round.phase ≠ .lockout ∧ (epochNewer f.epoch s.round.epoch = true ∨
      (f.epoch = s.round.epoch ∧ ∀ u ∈ s.round.lockoutClear, u + 2 * s.report ≤ max s.now t))) →
    (spreads → ∃ s', exec (.stateReceived t x) s = .next s' ∧ s'.round.phase = .lockout ∧ s'.round.epoch = f.epoch ∧
      s'.plan.inForce = none ∧ s'.gateEn = false) ∧
    (epochNewer f.epoch s.round.epoch = false → HeardSized s → 0 < s.quietTime →
      ∃ s', exec (.stateReceived t x) s = .next s' ∧
        (¬spreads → p.phase = 9 → n ≠ 0 → p.cfgDigest = s.store.digest → s.round.phase ≠ .planning →
          (s.round.phase = .settling → f.epoch ≠ s.round.epoch ∨ p.rosterDigest ≠ s.roster.digest) →
          s'.round = { s.round with firstTaken := true } ∧ s'.plan = s.plan) ∧
        (¬spreads → voterShown → s.round.phase = .settling → s.plan.build ≠ .built →
          (RosterAgreement s' → s'.round.phase = .planning ∧
            s'.round.phaseTimer = some (max s.now t + 1000 * s.params.agree)) ∧
          (¬RosterAgreement s' → s'.round.phase = .settling ∧ s'.round.phaseTimer = s.round.phaseTimer) ∧
          s'.round.epoch = s.round.epoch ∧ s'.round.resettle = s.round.resettle ∧ s'.roster.entries = s.roster.entries) ∧
        (∀ (k : Nat) (differs : Prop), s.roster.diff[n]? = some k →
          (differs ↔ voterShown ∧ f.epoch = s.round.epoch ∧ p.rosterDigest ≠ s.roster.digest) →
          (¬differs → s'.roster.diff[n]? = some 0) ∧
          (differs → k = 0 → s'.roster.diff[n]? = some 1) ∧
          (differs → k ≠ 0 → s'.roster.diff[n]? = some 0 ∧
            (s.barred = false → s.bus.queue.length ≤ 4 → s.round.phase ≠ .settling → s.round.phase ≠ .planning →
              s.round.phase ≠ .catching → ∃ g ∈ s'.bus.queue, g.body = .summary))) ∧
        (n = 0 → s.isLine = false → voterShown → s'.round.lineLost = false ∧ s'.round.linePresent = true) ∧
        (n = 0 → s.isLine = false → ¬voterShown → p.phase ≠ 9 → s.round.linePresent = true →
          s'.round.lineLost = true ∧ s'.round.linePresent = false ∧
          ((s.round.phase = .running ∨ s.round.phase = .revising) →
            s'.round.epoch = s.round.epoch + 1#16 ∧ (s'.round.phase = .tripped ∨ s'.round.phase = .lockout) ∧
            s'.plan.inForce = none ∧ s'.gateEn = false ∧
            (s.barred = false → s.bus.queue.length ≤ 4 →
              ∃ g ∈ s'.bus.queue, g.body = .alarm (BitVec.ofNat 8 s.number) FaultClass.line.byte s.round.phase.code)) ∧
          ((s.round.phase = .halted ∨ s.round.phase = .settling ∨ s.round.phase = .planning ∨
              s.round.phase = .catching ∨ s.round.phase = .arming) →
            s'.round.phase = .settling ∧ s'.round.resettle = s.round.resettle ∧ s'.round.epoch = s.round.epoch ∧
            s'.round.phaseTimer = some (max s.now t + 1000 * s.params.settle)) ∧
          ((s.round.phase = .tripped ∨ s.round.phase = .lockout) →
            s'.round = { s.round with firstTaken := true, lineLost := true, linePresent := false })))

/-- SUMMARY_RECEIVED in every phase and at every epoch. Discarded whole with an invalid working copy, a count other than 3N or
an entry outside Table 1-2: table, mismatch list, digest and answer flags stay. Otherwise merged entry by entry (each index
as MergeTakesNewerEntry says, the own one under active authority as its owner), the mismatch list replaced by the indices'
verdicts in rising order, the digest (the CRC of four bytes an entry) recomputed once, its change time set when it differs.
Either way every digest-difference count returns to 0. An OURS_NEWER or CONFLICT item owes one answer: a SUMMARY at once and
the answer-sent flag, or with that flag set the answer-owed flag; in JOINING none. At an epoch not newer, with a condition or
class changed: TRIPPED, LOCKOUT and SETTLING stay; HALTED re-plans in SETTLING; PLANNING makes a counted resettle, SETTLING or
beyond RESETTLE LOCKOUT; CATCHING and ARMING set the deferred-change flag; RUNNING enters REVISING; REVISING stays and at the
line station cancels an announced switch; a candidate built or past the lowest index changed is built anew. Without one,
round, plan and port stay. A newer epoch is taken before the merge (log 47). -/
def Obligations.SummaryIsMergedOrDiscardedWhole : Prop :=
  (∀ es : List RosterEntry, rosterDigestOf es = crc (es.flatMap entryBytes)) ∧
  ∀ (t : Time) (x : Transmission) (f : Frame) (items : List SummaryItem) (s : State) (merged : Prop) (own : Option Nat),
    s.runs = true → examineKind .summary x = some f → f.payload = .summary items → f.station.toNat ≠ s.number →
    (merged ↔ s.store.valid = true ∧ items.length = 3 * s.params.cells ∧ ∀ y ∈ items, InsideTable y) →
    own = (if s.round.phase = .isolated then none else s.ownedIndex) →
    s.roster.authority = true ∨ s.round.phase = .joining ∨ s.round.phase = .isolated →
    ∃ s', exec (.summaryReceived t x) s = .next s' ∧ s'.roster.diff = List.replicate 28 0 ∧
      (¬merged →
        s'.roster.entries = s.roster.entries ∧ s'.roster.mismatch = s.roster.mismatch ∧
        s'.roster.digest = s.roster.digest ∧ s'.roster.digestChange = s.roster.digestChange ∧
        (s.round.phase ≠ .isolated →
          s'.roster.answerSent = s.roster.answerSent ∧ s'.roster.answerOwed = s.roster.answerOwed) ∧
        (s.round.phase ≠ .joining → s.round.phase ≠ .isolated → epochNewer f.epoch s.round.epoch = false →
          s'.round = { s.round with firstTaken := true } ∧ s'.plan = s.plan ∧ s'.port = s.port)) ∧
      (merged →
        (∀ rs, readEntries items = some rs →
          s'.roster.entries = (mergeFrom own (max s.now t) 1 rs s.roster.entries).entries ∧
          s'.roster.mismatch = (mergeFrom own (max s.now t) 1 rs s.roster.entries).mismatch) ∧
        s'.roster.entries.length = s.roster.entries.length ∧
        (∀ i y r h, items[i]? = some y → ItemCarries y r → s.roster.entries[i]? = some h →
          s'.roster.entries[i]? = some (mergeEntry (own == some (i + 1)) (max s.now t) r h).1 ∧
          ∀ v, (i + 1, v) ∈ s'.roster.mismatch ↔ (mergeEntry (own == some (i + 1)) (max s.now t) r h).2 = some v) ∧
        s'.roster.mismatch.Pairwise (fun p q => p.1 < q.1) ∧ s'.roster.digest = rosterDigestOf s'.roster.entries ∧
        s'.roster.digestChange =
          (if s'.roster.digest = s.roster.digest then s.roster.digestChange else max s.now t) ∧
        (∀ owes : Prop, (owes ↔ ∃ p ∈ s'.roster.mismatch, p.2 ≠ .theirsNewer) → s.round.phase ≠ .isolated →
          (¬owes ∨ s.round.phase = .joining →
            s'.roster.answerSent = s.roster.answerSent ∧ s'.roster.answerOwed = s.roster.answerOwed) ∧
          (owes → s.round.phase ≠ .joining → s'.roster.answerSent = true ∧
            s'.roster.answerOwed = s.roster.answerSent ∧
            (s.roster.answerSent = false → s.barred = false → s.bus.queue.length ≤ 4 →
              ∃ g ∈ s'.bus.queue, g.body = .summary))) ∧
        (∀ changed : Nat → Prop,
          (∀ i, changed i ↔ ∃ h e, s.roster.entries[i]? = some h ∧ s'.roster.entries[i]? = some e ∧
            (h.cond ≠ e.cond ∨ h.cls ≠ e.cls)) →
          s.round.phase ≠ .joining → s.round.phase ≠ .isolated → epochNewer f.epoch s.round.epoch = false →
          ((∀ i, ¬changed i) →
            s'.round = { s.round with firstTaken := true } ∧ s'.plan = s.plan ∧ s'.port = s.port) ∧
          (∀ j, changed j →
            (s.round.phase = .tripped ∨ s.round.phase = .lockout ∨ s.round.phase = .settling ∨
                s.round.phase = .revising → s'.round = { s.round with firstTaken := true }) ∧
            (s.round.phase = .halted → s'.round.phase = .settling ∧ s'.round.epoch = s.round.epoch ∧
              s'.round.resettle = s.round.resettle ∧ s'.plan.inForce = s.plan.inForce ∧
              s'.round.phaseTimer = some (max s.now t + 1000 * s.params.settle)) ∧
            (s.round.phase = .planning → s.round.resettle ≤ s.params.resettle →
              s'.round.resettle = s.round.resettle + 1 ∧ s'.round.epoch = s.round.epoch ∧
              (s.round.resettle + 1 ≤ s.params.resettle → s'.round.phase = .settling) ∧
              (s.params.resettle < s.round.resettle + 1 → s'.round.phase = .lockout)) ∧
            (s.round.phase = .catching ∨ s.round.phase = .arming →
              s'.round = { s.round with firstTaken := true, deferred := true }) ∧
            (s.round.phase = .running → s'.round.phase = .revising ∧ s'.round.epoch = s.round.epoch ∧
              s'.plan.inForce = s.plan.inForce ∧ s'.plan.build = .walking ∧ s'.plan.cursor = 1 ∧
              s'.round.phaseTimer = some (max s.now t + 1000 * s.params.revise)) ∧
            (s.round.phase = .revising ∨ s.round.phase = .settling → s'.plan.inForce = s.plan.inForce ∧
              (s.plan.build = .built ∨ s.plan.build = .finishing ∨ (s.plan.build = .walking ∧ j + 1 < s.plan.cursor) →
                s'.plan.build = .walking ∧ s'.plan.cursor = 1) ∧
              (s.plan.build = .none ∨ (s.plan.build = .walking ∧ ∀ i, changed i → s.plan.cursor ≤ i + 1) →
                s'.plan = s.plan)) ∧
            (s.round.phase = .revising → s.isLine = true →
              s'.port.switchPending = none ∧ s'.reviseOut = false ∧ s'.port.record = s.port.record ∧
              (s.port.switchPending.isSome = true → s'.port.presented = none) ∧
              (s.port.switchPending = none → s'.port = s.port)))))

/-- R17 to R21, index by index: the newer version is adopted, an older one kept; at equal versions the owner's content prevails
over an observer's and the higher content over the lower; the own entry under active authority keeps its content with the
successor of the received version. R6: version 0 is older than every other, two others compare serially, at a difference of
32768 by value, and the successor of 65535 is 1. -/
def Obligations.MergeTakesNewerEntry : Prop :=
  (∀ a b : Half, versionNewer a b = true ↔ a ≠ 0 ∧ (b = 0 ∨ SerialAfter a b)) ∧
  (∀ v : Half, versionSucc v = if v.toNat = 65535 then 1 else v + 1#16) ∧
  ∀ (now : Time) (r h : RosterEntry),
    (versionNewer r.version h.version = true → r.version ≠ h.version →
      mergeEntry false now r h =
        ({ r with silentSince := if r.cond = .silent ∧ h.cond ≠ .silent then now else h.silentSince },
          some .theirsNewer)) ∧
    (r.version ≠ h.version → versionNewer r.version h.version = false → mergeEntry false now r h = (h, some .oursNewer)) ∧
    (r.version = h.version → sameContent h r = true → mergeEntry false now r h = (h, none)) ∧
    (r.version = h.version → h.source = .observer → r.source = .owner →
      (mergeEntry false now r h).1.cond = r.cond ∧ (mergeEntry false now r h).1.source = .owner ∧
      (mergeEntry false now r h).1.cls = r.cls ∧ (mergeEntry false now r h).2 = some .theirsNewer) ∧
    (r.version = h.version → h.source = .owner → r.source = .observer →
      mergeEntry false now r h = (h, some .oursNewer)) ∧
    (r.version = h.version → h.source = r.source → sameContent h r = false →
      (mergeEntry false now r h).2 = some .conflict ∧ (mergeEntry false now r h).1.version = h.version ∧
      ((mergeEntry false now r h).1.cond, (mergeEntry false now r h).1.cls) =
        if h.cond.code < r.cond.code ∨ (h.cond = r.cond ∧ h.cls < r.cls) then (r.cond, r.cls) else (h.cond, h.cls)) ∧
    ((h.version = r.version ∨ versionNewer r.version h.version = true) → sameContent h r = false →
      mergeEntry true now r h = ({ h with version := versionSucc r.version }, some .oursNewer))

/-- STEP_RECEIVED of the station's epoch outside JOINING and ISOLATED: ARMED for the plan in force adds the sender to the
armed set, REFUSED removes it and sets the refusal record, and a STEP of another digest is kept as the sender's early
step. In ARMING, with no EXPIRED held and no refusal recorded: the armed set complete (station 0 and every active and
spare cell) with run request present leads to RUNNING; REFUSED by a cell leads to a counted resettle, SETTLING or beyond
RESETTLE LOCKOUT; REFUSED by the line station leads to HALTED with run demand cleared; anything else leaves ARMING as it
is. At the line station the entry to RUNNING raises RELEASE, stops the budget and gives the record in force its catch part:
CAUGHT and CARRIED with the angle carried forward to this moment, COLD and STANDSTILL with no angle, FAILED as such with
frequency 0, and NONE with frequency 0 where the catch record is of another epoch, used or NONE (or holds EXPIRED: the
model's choice, log 34); the used flag is then set, and RREADY with a change of the record on LSO. -/
def Obligations.StepIsRecordedForPlanInForce : Prop :=
  ∀ (t : Time) (x : Transmission) (f : Frame) (rev : Byte) (d : Half) (w : Byte) (code : Byte) (s : State) (n : Nat),
    s.runs = true → examineKind .step x = some f → f.payload = .step code rev d w → n = f.station.toNat → n ≠ s.number →
    f.epoch = s.round.epoch → s.round.phase ≠ .joining → s.round.phase ≠ .isolated →
    ∃ s', exec (.stepReceived t x) s = .next s' ∧
      (∀ (armed' : List Nat) (still : Prop),
        armed' = (if code = 1 ∧ s.planHasDigest d = true then insertRising n s.round.armed else s.round.armed) →
        (still ↔ s.round.phase ≠ .arming ∨ (s.heldOutcome ≠ some .expired ∧ s.round.refusal = .none ∧
          ∀ p, s.plan.inForce = some p → ∃ m ∈ p.armedNeeded, m ∉ armed')) →
        (code = 1 → s.planHasDigest d = true → still →
          s'.round = { s.round with firstTaken := true, armed := insertRising n s.round.armed }) ∧
        (code = 2 → s.planHasDigest d = true → s.round.phase ≠ .arming →
          s'.round =
            { s.round with
              firstTaken := true, armed := s.round.armed.filter fun m => m != n
              refusal := if n = 0 then .line else if s.round.refusal = .line then .line else .cell }) ∧
        ((code = 1 ∨ code = 2) → s.planHasDigest d = false → still →
          s'.round =
            { s.round with
              firstTaken := true
              early := (s.round.early.filter fun e => e.station != n) ++ [⟨n, code == 1, d⟩] }) ∧
        (code ≠ 1 → code ≠ 2 → still → s'.round = { s.round with firstTaken := true })) ∧
      (∀ p, s.round.phase = .arming → s.plan.inForce = some p → s.planHasDigest d = true → s.heldOutcome ≠ some .expired →
        s.round.refusal = .none →
        (code = 1 → (∀ m ∈ p.armedNeeded, m = n ∨ m ∈ s.round.armed) → s.round.facts.runReq = true →
          s.round.deferred = false →
          s'.round.phase = .running ∧ s'.round.armed = insertRising n s.round.armed ∧ s'.round.resettle = 0 ∧
          s'.round.epoch = s.round.epoch ∧ s'.plan.inForce = some p ∧
          (s.isLine = true → s'.release = true ∧ s'.catcher.budget = .idle ∧ s'.catcher.budgetTimer = none ∧
            ∀ (k : CatchRecord) (supplied : Prop) (part : CatchOutcome × Half × Option Half), k = s.catcher.record →
              (supplied ↔ k.epoch = some s.round.epoch ∧ k.used = false) →
              (supplied → k.outcome = .caught ∨ k.outcome = .carried →
                part = (k.outcome, frequencyField k.freq, k.angle.map fun a =>
                  BitVec.ofNat 16 (a.toNat + k.freq.natAbs * (max s.now t - k.angleTime) * 65536 / 10 ^ 8))) →
              (supplied → k.outcome = .cold ∨ k.outcome = .standstill →
                part = (k.outcome, frequencyField k.freq, none)) →
              (supplied → k.outcome = .failed → part = (.failed, 0, none)) →
              (¬supplied ∨ k.outcome = .none ∨ k.outcome = .expired → part = (.none, 0, none)) →
              s'.catcher.record = { k with used := true } ∧
              s'.port.record =
                { s.port.record with outcome := part.1, freq := part.2.1, angle := part.2.2 } ∧
              s'.port.presented = s.port.presented ∧
              (s.port.presented = none →
                s'.port.rready = (s.port.rready || decide (s'.port.record ≠ s.port.record))))) ∧
        (code = 2 → n ≠ 0 → s.round.resettle ≤ s.params.resettle →
          s'.round.resettle = s.round.resettle + 1 ∧ s'.round.epoch = s.round.epoch ∧
          (s.round.resettle + 1 ≤ s.params.resettle → s'.round.phase = .settling) ∧
          (s.params.resettle < s.round.resettle + 1 → s'.round.phase = .lockout)) ∧
        (code = 2 → n = 0 → s.round.deferred = false →
          s'.round.phase = .halted ∧ s'.round.runDemand = false ∧ s'.round.epoch = s.round.epoch ∧
          s'.plan.inForce = some p))

/-- LINE_RECEIVED from station 0 at a cell, or ATTEMPT_COMPLETED of the line station's own LINE frame, at the station's epoch;
`facts` and `demand` are the line facts and the run demand after it. TRIPPED, SETTLING, PLANNING: these alone. HALTED with the fault-reset count unchanged: these alone, but a
fresh run request leads to ARMING with a plan in force and to SETTLING without. HALTED and LOCKOUT with a changed count and
run request absent hand on the fault reset: a BYPASSED own entry all of whose latched causes are clear becomes LIVE and the
latch empty; LOCKOUT is cleared: the successor epoch, no attempts, no plan, SETTLING; in HALTED the owner's write alone
re-plans in SETTLING. CATCHING with a catch block: ARMING on CAUGHT, CARRIED, COLD, and on STANDSTILL with run demand;
HALTED otherwise. At each of these entries to ARMING the line station decides its STEP. With no switch under way and run
request absent: RUNNING goes to HALTED; REVISING discards its candidate, withdraws an announced switch and comes by way of
HALTED to the quiet re-plan in SETTLING. -/
def Obligations.LineFrameReplacesLineFacts : Prop :=
  ∀ (t : Time) (x : Transmission) (a : Attempt) (f : Frame) (l : LinePayload) (s : State) (facts : LineFacts)
    (demand : Bool) (c : Instr) (first : Bool), s.runs = true → f.payload = .line l → f.epoch = s.round.epoch →
    (c = .lineReceived t x ∧ examineKind .line x = some f ∧ f.station = 0 ∧ s.number ≠ 0 ∧ first = true) ∨
      (c = .attemptCompleted t ∧ s.bus.attempt = some a ∧ a.frame = f ∧ s.isLine = true ∧
        first = s.round.firstTaken) →
    facts = ⟨l.runReq, l.runReq, l.brakeOpen, some l.faultCount, catchHeldAfter f.epoch l s.round.facts.catchHeld,
      some l.mark⟩ →
    demand = (l.runReq && (s.round.runDemand || !s.round.facts.prevRun)) →
    ∃ s', exec c s = .next s' ∧
      ((s.round.phase = .tripped ∨ s.round.phase = .settling ∨ s.round.phase = .planning) →
        s'.round = { s.round with firstTaken := first, facts := facts, runDemand := demand }) ∧
      (s.round.phase = .halted → (∀ k, s.round.facts.faultCount = some k → k = l.faultCount) →
        ((l.runReq = false ∨ s.round.facts.prevRun = true) →
          s'.round = { s.round with firstTaken := first, facts := facts, runDemand := demand }) ∧
        (l.runReq = true → s.round.facts.prevRun = false → s.round.deferred = false →
          (s.plan.inForce = none → s'.round.phase = .settling ∧ s'.round.runDemand = true) ∧
          (s.plan.inForce.isSome = true → s.round.refusal = .none → 0 ∉ s.round.armed →
            (∀ h, facts.catchHeld = some h → h.epoch = s.round.epoch → h.outcome ≠ .expired) →
            s'.round.phase = .arming ∧ s'.round.runDemand = true ∧ s'.plan.inForce = s.plan.inForce ∧
            (s.isLine = true → StepDecided s s')))) ∧
      (∀ k, s.round.facts.faultCount = some k → k ≠ l.faultCount → l.runReq = false →
        (s.round.phase = .lockout → s'.round.phase = .settling ∧ s'.round.epoch = s.round.epoch + 1#16 ∧
          s'.round.attempts = [] ∧ s'.round.resettle = 0 ∧ s'.round.lockoutClear = some (max s.now t) ∧
          s'.round.facts = facts ∧ s'.plan.inForce = none) ∧
        (s.round.phase = .halted → s.ownCond .bypassed = false →
          s'.round = { s.round with firstTaken := first, facts := facts, runDemand := demand }) ∧
        (∀ i e, (s.round.phase = .lockout ∨ s.round.phase = .halted) → s.ownIndex = some i →
          s.roster.authority = true → s.roster.entries[i - 1]? = some e → e.cond = .bypassed →
          (∀ k ∈ s.watch.latch, (k = 1 → s.watch.bridgeFlt ≠ some true) ∧ (k = 2 → s.watch.cellFlt ≠ some true) ∧
            (k = 3 → s.watch.tripHigh = 0) ∧ (k ≠ 1 → k ≠ 2 → k ≠ 3 → s.bypass.feedback = some true)) →
          s'.watch.latch = [] ∧ s'.watch.leading = 0 ∧ s'.round.phase = .settling ∧
          s'.roster.entries[i - 1]? = some ⟨.live, .owner, 0, versionSucc e.version, e.silentSince⟩)) ∧
      (∀ b o, s.round.phase = .catching → l.catchBlock = some b → CatchOutcome.ofCode b.outcome = some o →
        ((o = .caught ∨ o = .carried ∨ o = .cold ∨ (o = .standstill ∧ demand = true)) → s.round.refusal = .none →
          0 ∉ s.round.armed →
          s'.round.phase = .arming ∧ s'.round.facts = facts ∧ (s.isLine = true → StepDecided s s')) ∧
        ((o = .failed ∨ o = .expired ∨ (o = .standstill ∧ demand = false)) → s.round.deferred = false →
          s'.round.phase = .halted ∧ s'.round.runDemand = false ∧ s'.round.facts = facts ∧
          s'.plan.inForce = s.plan.inForce)) ∧
      (s.round.phase = .running → l.runReq = false → l.switchBlock = none → s.plan.switchRecord = none →
        s.round.deferred = false →
        s'.round.phase = .halted ∧ s'.round.runDemand = false ∧ s'.plan.inForce = s.plan.inForce ∧ s'.gateEn = false) ∧
      (s.round.phase = .revising → l.runReq = false → l.switchBlock = none → s.plan.switchRecord = none →
        s'.round.phase = .settling ∧ s'.round.epoch = s.round.epoch ∧ s'.round.resettle = 0 ∧
        s'.round.runDemand = false ∧ s'.round.deferred = false ∧ s'.plan.inForce = s.plan.inForce ∧
        (∀ q, s'.plan.candidate = some q → q.revision = 0 ∧ s'.plan.build = .walking ∧ s'.plan.cursor = 1) ∧
        s'.gateEn = false ∧ s'.release = false ∧
        (s.isLine = true → s'.port.switchPending = none ∧ s'.port.presented = none ∧ s'.port.record = s.port.record))

/-- R77, R87, R92: LINE_RECEIVED in REVISING with a switch block and run request present, a candidate BUILT. At the mark
frame of the block, with a VIABLE candidate of its revision and digest, the candidate becomes the plan in force, the own
role and carrier offset are the candidate's, and the station enters RUNNING; the bypass is commanded as Table 4-2 has it for
the change of role: OPEN for one that becomes ACTIVE, CLOSE for one that is SPARE or OUT, nothing where it stands at its
target or moves toward it (which states those are is read from Table 7-2: log 38). At the mark frame with another candidate, a
plan in force of another revision than the block's has failed the switch: a local alarm of class LINE opens the successor
epoch with a trip and clears the plan; one of the block's revision stays. Before the mark, the plan in force and the
candidate are as they were. -/
def Obligations.MarkFrameAdoptsRevision : Prop :=
  ∀ (t : Time) (x : Transmission) (f : Frame) (l : LinePayload) (w : SwitchBlock) (c : Plan) (b : PlanBody) (s : State),
    s.runs = true → examineKind .line x = some f → f.payload = .line l → f.station = 0 → s.number ≠ 0 →
    f.epoch = s.round.epoch → s.round.phase = .revising → l.switchBlock = some w → l.runReq = true →
    s.round.deferred = false → s.plan.build = .built → s.plan.candidate = some c → c.body = some b →
    (∀ r ∈ s.plan.switchRecord, r.rev = w.rev) →
    (c.verdict = .viable → l.mark = w.mark → c.revision = w.rev → b.digest = w.digest →
      ∃ s', exec (.lineReceived t x) s = .next s' ∧ s'.plan.inForce = some c ∧ s'.plan.candidate = none ∧
        s'.plan.build = .none ∧ s'.round.phase = .running ∧ s'.round.epoch = s.round.epoch ∧
        s'.cellRole = roleInPlan s.store.ph.toNat s.store.pos.toNat c ∧
        s'.plan.switchRecord = some ⟨f.epoch, w.rev, w.mark, w.digest⟩ ∧
        (s'.cellRole.isActive = true →
          (s.cellRole.isActive = true ∨ s.watch.latch ≠ [] ∨ s.bypass.state = .opened ∨ s.bypass.state = .opening ∨
            s.bypass.state = .stuckOpen → s'.bypass = s.bypass) ∧
          (s.cellRole.isActive = false → s.watch.latch = [] →
            (s.bypass.state = .closed ∨ s.bypass.state = .stuckClosed →
              s'.bypass = { s.bypass with
                state := .opening, hold := true, contact := some (max s.now t + 1000 * s.params.contact)
                coilRelease := none }) ∧
            (s.bypass.state = .closing → s'.bypass = { s.bypass with pending := some .switch }))) ∧
        (s'.cellRole.isActive = false →
          (s.bypass.state = .closed ∨ s.bypass.state = .closing ∨ s.bypass.state = .stuckOpen →
            s'.bypass = s.bypass) ∧
          (s.bypass.state = .opened →
            s'.bypass = { s.bypass with state := .closing, gateOff := some (max s.now t + 10) }) ∧
          (s.bypass.state = .opening →
            s'.bypass = { s.bypass with
              state := .closing, hold := false, contact := some (max s.now t + 1000 * s.params.contact), gateOff := none
              coilRelease := none }) ∧
          (s.bypass.state = .stuckClosed → s'.bypass = { s.bypass with state := .closed }))) ∧
    (l.mark = w.mark → (c.verdict ≠ .viable ∨ c.revision ≠ w.rev ∨ b.digest ≠ w.digest) →
      ∀ p, s.plan.inForce = some p →
      (p.revision ≠ w.rev →
        ∃ s', exec (.lineReceived t x) s = .next s' ∧ s'.round.epoch = s.round.epoch + 1#16 ∧
          (s'.round.phase = .tripped ∨ s'.round.phase = .lockout) ∧ s'.plan.inForce = none ∧ s'.gateEn = false ∧
          (s.bus.duplicate = false → s.fitted = true → s.bus.queue.length ≤ 4 →
            ∃ g ∈ s'.bus.queue, g.body = .alarm (BitVec.ofNat 8 s.number) FaultClass.line.byte s.round.phase.code)) ∧
      (p.revision = w.rev →
        ∃ s', exec (.lineReceived t x) s = .next s' ∧ s'.plan.inForce = some p ∧ s'.plan.candidate = some c ∧
          s'.round.phase = .revising)) ∧
    (l.mark ≠ w.mark → (∀ r ∈ s.plan.switchRecord, r.rev = w.rev ∧ serialNewer l.mark r.mark = false) →
      ∃ s', exec (.lineReceived t x) s = .next s' ∧ s'.plan.inForce = s.plan.inForce ∧
        s'.plan.candidate = s.plan.candidate ∧ s'.round.phase = .revising ∧
        s'.plan.switchRecord = some ⟨f.epoch, w.rev, w.mark, w.digest⟩)

/-! ## The Round Controller -/

/-- DRIVE_TRIP_RISING at a line station: in ARMING, RUNNING and REVISING a local alarm of class DRIVE advances the epoch,
takes a trip under the attempt list rule and queues an ALARM with the phase held before. TRIPPED saves the trip context with
its tags, read at the entry, and sets the restart state anew (the pre-trip plan of a trip during a round is EMPTY, the
model's reading: log 52); LOCKOUT, with the list full, keeps the context and returns the budget to IDLE and the catch
record to NONE of the new epoch. In every other phase the sample alone changes. -/
def Obligations.DriveTripRaisesAlarm : Prop :=
  ∀ (t : Time) (u : Sample) (s : State), s.runs = true → s.isLine = true → s.port.driveTrip = some u →
    u.asserted = false →
    ((s.round.phase = .arming ∨ s.round.phase = .running ∨ s.round.phase = .revising) →
      ∀ pruned, pruned = s.round.attempts.dropWhile (fun u => decide (u + 1000000 * s.params.window < max s.now t)) →
      ∃ s', exec (.driveTripRising t) s = .next s' ∧ s'.round.epoch = s.round.epoch + 1#16 ∧ s'.plan.inForce = none ∧
        s'.port.driveTrip = some ⟨true, max s.now t⟩ ∧ s'.release = false ∧
        (pruned.length < s.params.rounds → s'.round.phase = .tripped ∧ s'.round.tripTime = some (max s.now t) ∧
          s'.round.attempts = (if pruned.getLast? = some (max s.now t) then pruned else pruned ++ [max s.now t]) ∧
          RestartSetAnew s (max s.now t) (s.round.epoch + 1#16) s') ∧
        (s.params.rounds ≤ pruned.length → s'.round.phase = .lockout ∧ s'.round.attempts = pruned ∧
          s'.lockoutOut = true ∧ s'.catcher.context = s.catcher.context ∧ s'.catcher.budget = .idle ∧
          s'.catcher.budgetTimer = none ∧ s'.catcher.overdue = false ∧ s'.catcher.retire = 0 ∧
          s'.catcher.record = ⟨some (s.round.epoch + 1#16), .none, 0, none, 0, false⟩ ∧
          s'.port.record.valid = false) ∧
        (s.bus.duplicate = false → s.bus.queue.length ≤ 4 →
          ∃ g ∈ s'.bus.queue, g.body = .alarm 0 11 s.round.phase.code)) ∧
    (s.round.phase ≠ .arming → s.round.phase ≠ .running → s.round.phase ≠ .revising →
      exec (.driveTripRising t) s = .next
        { s.advance t with port := { s.port with driveTrip := some ⟨true, max s.now t⟩ } })

/-- SETTLE_EXPIRY with the line station present, AGREE_EXPIRY and ARM_EXPIRY: the resettle count rises by 1 and the
station enters SETTLING, or LOCKOUT when the count exceeds RESETTLE. SETTLE_EXPIRY without the line station starts the
timer again. DWELL_EXPIRY: TRIPPED is left for SETTLING with the SETTLE timer started and a SUMMARY queued; the epoch
is as it was. -/
def Obligations.PhaseTimersExpire : Prop :=
  ((∀ (t d : Time) (s : State), s.runs = true → s.round.phaseTimer = some d → d ≤ max s.now t →
    s.round.resettle ≤ s.params.resettle →
    ∀ c : Instr, (c = .settleExpiry t ∧ s.round.phase = .settling ∧ (s.advance t).present = true) ∨
        (c = .agreeExpiry t ∧ s.round.phase = .planning) ∨ (c = .armExpiry t ∧ s.round.phase = .arming) →
      ∃ s', exec c s = .next s' ∧ s'.round.resettle = s.round.resettle + 1 ∧ s'.round.epoch = s.round.epoch ∧
        (s.round.resettle + 1 ≤ s.params.resettle → s'.round.phase = .settling ∧
          s'.round.phaseTimer = some (max s.now t + 1000 * s.params.settle)) ∧
        (s.params.resettle < s.round.resettle + 1 → s'.round.phase = .lockout ∧ s'.round.phaseTimer = none)) ∧
  (∀ (t d : Time) (s : State), s.runs = true → s.round.phase = .settling → s.round.phaseTimer = some d →
    d ≤ max s.now t → (s.advance t).present = false →
    exec (.settleExpiry t) s = .next
      { s.advance t with round := { s.round with phaseTimer := some (max s.now t + 1000 * s.params.settle) } })) ∧
  (∀ (t d : Time) (s : State), s.runs = true → s.round.phase = .tripped → s.round.phaseTimer = some d →
    d ≤ max s.now t →
    ∃ s', exec (.dwellExpiry t) s = .next s' ∧ s'.round.phase = .settling ∧
      s'.round.phaseTimer = some (max s.now t + 1000 * s.params.settle) ∧ s'.round.epoch = s.round.epoch ∧
      s'.round.deferred = false ∧ s'.round.resettle = s.round.resettle ∧
      (s.bus.duplicate = false → s.fitted = true → s.bus.queue.length ≤ 4 →
        ∃ g ∈ s'.bus.queue, g.body.kind = .summary))

/-- REVISE_EXPIRY with run request present: the candidate is discarded, the switch record and switch pending cleared, and the
station returns to RUNNING with the plan in force. A withdrawing cell then raises its alarm from there: the successor epoch,
TRIPPED or LOCKOUT, the plan cleared, and an ALARM queued with the class of the own entry and the phase held after the return,
RUNNING. -/
def Obligations.ReviseExpiryAbandonsRevision : Prop :=
  ∀ (t d : Time) (s : State), s.runs = true → s.round.phase = .revising → s.round.phaseTimer = some d →
    d ≤ max s.now t → s.round.facts.runReq = true → s.round.deferred = false →
    (s.standing ≠ .withdrawing →
      ∃ s', exec (.reviseExpiry t) s = .next s' ∧ s'.round.phase = .running ∧ s'.round.epoch = s.round.epoch ∧
        s'.plan.inForce = s.plan.inForce ∧ s'.plan.candidate = none ∧ s'.plan.build = .none ∧
        s'.plan.switchRecord = none ∧ (s.isLine = true → s'.port.switchPending = none ∧ s'.port.presented = none)) ∧
    (s.standing = .withdrawing →
      ∃ s', exec (.reviseExpiry t) s = .next s' ∧ s'.round.epoch = s.round.epoch + 1#16 ∧
        (s'.round.phase = .tripped ∨ s'.round.phase = .lockout) ∧ s'.plan.inForce = none ∧ s'.plan.candidate = none ∧
        s'.plan.switchRecord = none ∧ s'.gateEn = false ∧
        ∀ e, s.ownEntry = some e → s.bus.duplicate = false → s.bus.queue.length ≤ 4 →
          ∃ g ∈ s'.bus.queue, g.body = .alarm (BitVec.ofNat 8 s.number) e.cls.byte Phase.running.code)

/-! ## The Plan Unit -/

/-- BUILD_START in SETTLING with build state NONE, once the roster digest has been unchanged for one report period: a
walk starts with the cursor at 1 and the tallies empty, for revision 0 of the station's epoch. WALK_READ: the entry at
the cursor is classified by its condition and class, the cursor advances, and past 3N the walk ends with the source
digest recorded. -/
def Obligations.WalkReadsRosterInOrder : Prop :=
  (∀ (t : Time) (s : State), s.runs = true → s.store.valid = true → s.round.phase = .settling → s.plan.build = .none →
    (s.roster.digestChange + s.report ≤ max s.now t →
      ∃ c, exec (.buildStart t) s = .next
          { s.advance t with
            plan := { s.plan with
              build := .walking, candidate := some c, cursor := 1, tallies := ⟨⟨[], [], []⟩, []⟩ } } ∧
        c.epoch = s.round.epoch ∧ c.revision = 0) ∧
    (max s.now t < s.roster.digestChange + s.report → exec (.buildStart t) s = .next (s.advance t))) ∧
  (∀ (t : Time) (e : RosterEntry) (s : State), s.runs = true → s.plan.build = .walking → 1 ≤ s.plan.cursor →
    s.roster.entries[s.plan.cursor - 1]? = some e →
    ∃ s', exec (.walkRead t) s = .next s' ∧ s' = { s.advance t with plan := s'.plan } ∧
      s'.plan.cursor = s.plan.cursor + 1 ∧ s'.plan.inForce = s.plan.inForce ∧
      (e.cond = .live → s'.plan.tallies.pending = s.plan.tallies.pending ∧
        s'.plan.tallies.live.get (phaseOfIndex s.params.cells s.plan.cursor) =
          s.plan.tallies.live.get (phaseOfIndex s.params.cells s.plan.cursor) ++
            [posOfIndex s.params.cells s.plan.cursor]) ∧
      ((e.cond = .resting ∨ e.cond = .bypassed) → s'.plan.tallies = s.plan.tallies) ∧
      (e.cond = .silent → s'.plan.tallies =
        { s.plan.tallies with
          pending := s.plan.tallies.pending ++
            [.silentYoung s.plan.cursor (e.silentSince + 1000 * (s.params.isolate + s.params.drop))] }) ∧
      (e.cond = .faulted → s'.plan.tallies =
        { s.plan.tallies with
          pending := s.plan.tallies.pending ++
            [if e.cls = FaultClass.bypass then .stuckOpen s.plan.cursor else .closing s.plan.cursor] }) ∧
      (s.plan.cursor < 3 * s.params.cells → s'.plan.build = .walking ∧ s'.plan.candidate = s.plan.candidate) ∧
      (s.plan.cursor = 3 * s.params.cells → s'.plan.build = .finishing ∧ s'.plan.walkEnd = max s.now t ∧
        s'.plan.candidate = s.plan.candidate.map fun c => { c with sourceDigest := s.roster.digest }))

/-- FINISHING_STEP: the candidate is filled and BUILT. Its reasons are those of the walk (a
SILENT_YOUNG one only with its deadline after the walk's end), SHORT_PHASE for each phase with fewer LIVE cells than
MIN_LIVE, and without these LOW_FRACTION below MIN_FRACTION. Its verdict is NOT_VIABLE with a STUCK_OPEN, SHORT_PHASE or
LOW_FRACTION reason, otherwise WAIT with any reason, otherwise VIABLE. A candidate short of a phase has its counts and no
angles, lists or digest. Otherwise SHIFT takes every LIVE cell, with span and angles of the shift table's row of the
sorted counts and fraction 1000 × span / (1732 × N), and TRIM the first t of each phase, t the smallest count, with
angles of 1200, the rest as spares and fraction 1000 × t / N. The verdict is handed on: in PLANNING NOT_VIABLE leads to
LOCKOUT, WAIT stays, and VIABLE with plan agreement is adopted, on the way to CATCHING, ARMING or HALTED; in REVISING
NOT_VIABLE escalates a withdrawing cell, and VIABLE with revision agreement and time left announces a switch; any other
phase takes no notice. At the line station an entry to CATCHING so made starts the catch, and one to ARMING decides the
STEP. -/
def Obligations.FinishingStepGivesVerdict : Prop :=
  ∀ (t : Time) (c : Plan) (live : Abc (List Nat)) (s : State), s.runs = true → s.plan.build = .finishing →
    s.plan.candidate = some c → TalliesSound s → live = s.plan.tallies.live →
    ∃ c' s', exec (.finishingStep t) s = .next s' ∧
      VerdictTaken { s.advance t with plan := { s.plan with build := .built, candidate := some c' } } c' s' ∧
      c'.epoch = c.epoch ∧ c'.revision = c.revision ∧ c'.sourceDigest = c.sourceDigest ∧
      c'.mode = (if s.params.balance = 0 then .shift else .trim) ∧
      (c'.verdict = .notViable ↔
        ∃ r ∈ c'.reasons, (∃ i, r = .stuckOpen i) ∨ (∃ p, r = .shortPhase p) ∨ r = .lowFraction) ∧
      (c'.verdict = .viable ↔ c'.reasons = []) ∧
      (c'.body = none ↔ ∃ p, .shortPhase p ∈ c'.reasons) ∧
      (∀ r, r ∈ c'.reasons ↔
        (r ∈ s.plan.tallies.pending ∧ ∀ i d, r = .silentYoung i d → s.plan.walkEnd < d) ∨
        (∃ p, p < 3 ∧ r = .shortPhase p ∧ (live.get p).length < s.params.minLive) ∨
        (r = .lowFraction ∧ ∃ b, c'.body = some b ∧ b.fraction < s.params.minFraction)) ∧
      (c'.body = none → c'.counts = ⟨live.a.length, live.b.length, live.c.length⟩) ∧
      ∀ b, c'.body = some b →
        (s.params.balance = 0 →
          c'.counts = ⟨live.a.length, live.b.length, live.c.length⟩ ∧ b.active = live ∧ b.spares = [] ∧
          b.fraction = 1000 * b.span / (1732 * s.params.cells) ∧
          ∀ x y z r, r ∈ shiftTable → x < 3 → y < 3 → z < 3 → x ≠ y → y ≠ z → x ≠ z →
            r.x = (live.get x).length → r.y = (live.get y).length → r.z = (live.get z).length →
            (r.x = r.y → x < y) → (r.y = r.z → y < z) →
            b.span = r.span ∧ planAngle b x y = r.xy ∧ planAngle b y z = r.yz ∧ planAngle b z x = r.zx) ∧
        (s.params.balance ≠ 0 → ∀ k, k = min live.a.length (min live.b.length live.c.length) →
          c'.counts = ⟨k, k, k⟩ ∧ b.active = ⟨live.a.take k, live.b.take k, live.c.take k⟩ ∧
          b.spares = (live.a.drop k).map (CellName.mk 0) ++ (live.b.drop k).map (CellName.mk 1) ++
            (live.c.drop k).map (CellName.mk 2) ∧
          b.thetaAB = 1200 ∧ b.thetaBC = 1200 ∧ b.thetaCA = 1200 ∧ b.span = 1732 * k ∧
          b.fraction = 1000 * k / s.params.cells)

/-- AGING_DEADLINE: the SILENT_YOUNG reasons whose deadlines have passed are removed together and the verdict is set again; the
digest is unchanged. A verdict that so turns from WAIT to VIABLE is handed on, as FinishingStepGivesVerdict has it; nothing
else changes. -/
def Obligations.AgingRemovesPassedDeadlines : Prop :=
  ∀ (t : Time) (c : Plan) (s : State), s.runs = true → s.plan.build = .built → s.plan.candidate = some c →
    (∃ i d, .silentYoung i d ∈ c.reasons ∧ d ≤ max s.now t) →
    ∃ c' r s', exec (.agingDeadline t) s = .next s' ∧
      r = { s.advance t with plan := { s.plan with candidate := some c' } } ∧
      (c.verdict = .wait → c'.verdict = .viable → VerdictTaken r c' s') ∧
      (c.verdict ≠ .wait ∨ c'.verdict ≠ .viable → s' = r) ∧
      c'.body = c.body ∧ c'.epoch = c.epoch ∧ c'.revision = c.revision ∧
      (∀ r, r ∈ c'.reasons ↔ r ∈ c.reasons ∧ ∀ i d, r = .silentYoung i d → max s.now t < d) ∧
      (c'.verdict = .viable ↔ c'.reasons = [])

/-- R71: the shift table has one row for each of the 165 sorted triples of counts from 1 to 9; its angles sum to 3600, its
spans lie between 1732 times the smallest and the greatest count and do not decrease with a count, and the case of step 1
that an opposite Y and Z give reads 1800 and 1000 × (y + z). -/
def Obligations.ShiftTableHasItsProperties : Prop :=
  shiftTable.length = 165 ∧
  (∀ r ∈ shiftTable, 1 ≤ r.z ∧ r.z ≤ r.y ∧ r.y ≤ r.x ∧ r.x ≤ 9 ∧ r.xy + r.yz + r.zx = 3600 ∧
    1732 * r.z ≤ r.span ∧ r.span ≤ 1732 * r.x ∧
    (r.x = r.z → r.xy = 1200 ∧ r.yz = 1200 ∧ r.zx = 1200 ∧ r.span = 1732 * r.x) ∧
    ((r.y - r.z) ^ 2 + 3 * (r.y + r.z) ^ 2 ≤ 4 * r.x ^ 2 → r.yz = 1800 ∧ r.span = 1000 * (r.y + r.z))) ∧
  (∀ q ∈ shiftTable, ∀ r ∈ shiftTable, q.x = r.x → q.y = r.y → q.z = r.z → q = r) ∧
  (∀ q ∈ shiftTable, ∀ r ∈ shiftTable, q.x ≤ r.x → q.y ≤ r.y → q.z ≤ r.z → q.span ≤ r.span)

/-- R73, R74, R78: the carrier offsets of a finished plan; its digest, the CRC of the bytes of Table 3-6 in their order; and a
cell's role in it: ACTIVE with the offset of its place in the phase's active list, SPARE, or OUT. R3: the CRC starts at FFFFh
and takes each byte, most significant bit first, through x^16 + x^12 + x^5 + 1, without a final inversion. -/
def Obligations.FinishedPlanGivesOffsetsDigestAndRoles : Prop :=
  crc [] = 0xFFFF ∧
  (∀ (bs : List Byte) (x : Byte),
    crc (bs ++ [x]) = (List.replicate 8 ()).foldl (fun k _ => if k.msb then (k <<< 1) ^^^ 0x1021#16 else k <<< 1)
      (crc bs ^^^ (x ++ 0#8))) ∧
  ∀ (p : Params) (e : Time) (w : Tallies) (c : Plan) (b : PlanBody), (finishPlan p e w c).body = some b →
    (∀ i j : Nat, i < 3 → j < (b.active.get i).length →
      (b.offsets.get i)[j]? = some (j * 2048 / (b.active.get i).length)) ∧
    (∀ i : Nat, i < 3 → (b.offsets.get i).length = (b.active.get i).length ∧ ∀ o ∈ b.offsets.get i, o < 2048) ∧
    b.digest = planDigest c.epoch c.revision (modeOf p.balance) (balanceOf (modeOf p.balance) p.cells w.live) ∧
    (∀ n : Abc Nat, n = (finishPlan p e w c).counts →
      b.digest = crc (halfBytes c.epoch ++ [c.revision, if p.balance = 0 then 0 else 1] ++
        [BitVec.ofNat 8 n.a, BitVec.ofNat 8 n.b, BitVec.ofNat 8 n.c] ++ halfBytes (BitVec.ofNat 16 b.thetaAB) ++
        halfBytes (BitVec.ofNat 16 b.thetaBC) ++ halfBytes (BitVec.ofNat 16 b.thetaCA) ++
        halfBytes (BitVec.ofNat 16 b.fraction) ++
        (b.active.a ++ b.active.b ++ b.active.c).map (fun k => BitVec.ofNat 8 k) ++ [BitVec.ofNat 8 b.spares.length] ++
        b.spares.map fun x => BitVec.ofNat 8 (16 * x.phase + x.pos))) ∧
    ∀ i k : Nat, i < 3 →
      (∀ j, (b.active.get i)[j]? = some k → (∀ m, m < j → (b.active.get i)[m]? ≠ some k) →
        roleInPlan i k (finishPlan p e w c) = .active (j * 2048 / (b.active.get i).length)) ∧
      (k ∉ b.active.get i → ⟨i, k⟩ ∈ b.spares → roleInPlan i k (finishPlan p e w c) = .spare) ∧
      (k ∉ b.active.get i → ⟨i, k⟩ ∉ b.spares → roleInPlan i k (finishPlan p e w c) = .out)

/-! ## The Sense Scanner -/

/-- CONVERSION_COMPLETE where no block takes the result (at a line station without an ACTIVE catch, at a cell station before
the pass end): the result is stored, setting FRESH, and OVERRUN when FRESH was set; the next channel's conversion, or at the
pass end the pending trigger's pass or IDLE, follows. -/
def Obligations.ConversionStoresResult : Prop :=
  ∀ (t : Time) (v : Nat) (k : Bool) (a : Activity) (x : Slot) (s : State), s.runs = true →
    s.scanner.activity = some a → a.convEnd ≤ max s.now t → s.scanner.slots[a.channel]? = some x →
    (s.isLine = true ∧ s.catcher.active = false) ∨ (s.isLine = false ∧ a.channel < s.scanner.last) →
    ∃ s', exec (.conversionComplete t v k) s = .next s' ∧ s' = { s.advance t with scanner := s'.scanner } ∧
      s'.scanner.slots = s.scanner.slots.set a.channel ⟨min v 1000, true, x.overrun || x.fresh⟩ ∧
      s'.scanner.mode = s.scanner.mode ∧
      (a.channel < s.scanner.last →
        s'.scanner.activity = some ⟨a.channel + 1, a.passStart, max s.now t + 5⟩ ∧
        s'.scanner.pending = s.scanner.pending) ∧
      (s.scanner.last ≤ a.channel → s.scanner.mode = .single →
        s'.scanner.pending = none ∧
        s'.scanner.activity =
          if s.scanner.pending.isSome then some ⟨s.scanner.first, max s.now t, max s.now t + 5⟩ else none)

/-- CONVERSION_COMPLETE at the pass end of a cell station with a valid copy and no sense step waiting: Cell Watch takes the
four slots; each count rises by 1 up to PERSIST while its condition holds and is 0 otherwise, and the in-band count goes
with all of them. Where no limit comes to its assertion and the readmission trigger is not met, nothing else changes. A
RESTING cell in HALTED that meets the trigger becomes LIVE, and SETTLING follows. The soft assertion of a LIVE cell with an
empty latch makes its entry RESTING with the lowest class asserted: in TRIPPED, LOCKOUT and SETTLING the round stays; in
RUNNING and REVISING a soft-mask WITHDRAW of an active cell opens or joins a revision with the bypass as it was, and TRIP
trips the station. A trip-high assertion with an empty latch latches LINK_HIGH as the leading class, and in RUNNING and
REVISING trips. -/
def Obligations.PassEndCountsLimits : Prop :=
  ∀ (t : Time) (v : Nat) (k : Bool) (a : Activity) (s : State) (x : PassValues) (n : Nat), s.runs = true →
    s.isLine = false → s.store.valid = true → s.scanner.activity = some a → a.convEnd ≤ max s.now t →
    s.scanner.last ≤ a.channel → x = (s.scanner.storeSlot a.channel (min v 1000)).values → s.watch.check ≠ .senseWait →
    n = (if s.params.linkLow ≤ x.ch0 ∧ x.ch0 ≤ s.params.tripHigh ∧ s.params.supplyLow ≤ x.ch1 ∧
      x.ch2 ≤ s.params.heatHigh ∧ s.params.inputLow ≤ x.ch3 then min (s.watch.inBand + 1) s.params.persist else 0) →
    ∃ s', exec (.conversionComplete t v k) s = .next s' ∧
      s'.scanner.slots = (s.scanner.storeSlot a.channel (min v 1000)).slots.map (fun y =>
        { y with fresh := false, overrun := false }) ∧
      s'.watch.inBand = n ∧
      s'.watch.tripHigh = (if s.params.tripHigh < x.ch0 then min (s.watch.tripHigh + 1) s.params.persist else 0) ∧
      s'.watch.linkLow = (if x.ch0 < s.params.linkLow then min (s.watch.linkLow + 1) s.params.persist else 0) ∧
      s'.watch.heat = (if s.params.heatHigh < x.ch2 then min (s.watch.heat + 1) s.params.persist else 0) ∧
      s'.watch.supply = (if x.ch1 < s.params.supplyLow then min (s.watch.supply + 1) s.params.persist else 0) ∧
      s'.watch.input = (if x.ch3 < s.params.inputLow then min (s.watch.input + 1) s.params.persist else 0) ∧
      s'.watch.passSeen = true ∧
      (assertsNow s.params.persist (decide (s.params.tripHigh < x.ch0)) s.watch.tripHigh = false →
        (softAssertion s.params x s.watch = none →
          ((s.ownCond .resting = false ∨ (s.round.phase ≠ .halted ∧ s.round.phase ≠ .running) ∨
              s.watch.rest ≠ .elapsed ∨ n ≠ s.params.persist ∨ s.watch.latch ≠ []) →
            s' = { s.advance t with scanner := s'.scanner, watch := s'.watch } ∧
            s'.watch = { s.watch with
              tripHigh := s'.watch.tripHigh, linkLow := s'.watch.linkLow, heat := s'.watch.heat
              supply := s'.watch.supply, input := s'.watch.input, passSeen := true, inBand := n }) ∧
          (∀ i e, s.round.phase = .halted → s.ownIndex = some i → s.roster.entries[i - 1]? = some e →
            e.cond = .resting → s.roster.authority = true → s.watch.rest = .elapsed → n = s.params.persist →
            s.watch.latch = [] →
            s'.roster.entries[i - 1]? = some ⟨.live, .owner, 0, versionSucc e.version, e.silentSince⟩ ∧
            s'.watch.rest = .stopped ∧ s'.round.phase = .settling)) ∧
        (∀ q i e, softAssertion s.params x s.watch = some q → s.watch.latch = [] → s.roster.authority = true →
          s.ownIndex = some i → s.roster.entries[i - 1]? = some e → e.cond = .live →
          ((s.round.phase = .tripped ∨ s.round.phase = .lockout ∨ s.round.phase = .settling) →
            s'.round = s.round ∧ s'.watch.rest = .running (max s.now t + 1000000 * s.params.rest) ∧
            s'.roster.entries[i - 1]? = some ⟨.resting, .owner, q, versionSucc e.version, e.silentSince⟩) ∧
          ((s.round.phase = .running ∨ s.round.phase = .revising) → s.cellRole.isActive = true →
            (withdrawMask s.params.softMask q = true →
              s'.round.phase = .revising ∧ s'.round.epoch = s.round.epoch ∧ s'.bypass = s.bypass ∧
              s'.plan.inForce = s.plan.inForce ∧
              s'.roster.entries[i - 1]? = some ⟨.resting, .owner, q, versionSucc e.version, e.silentSince⟩) ∧
            (withdrawMask s.params.softMask q = false →
              s'.round.epoch = s.round.epoch + 1#16 ∧ (s'.round.phase = .tripped ∨ s'.round.phase = .lockout) ∧
              s'.plan.inForce = none ∧ s'.gateEn = false)))) ∧
      (assertsNow s.params.persist (decide (s.params.tripHigh < x.ch0)) s.watch.tripHigh = true → s.watch.latch = [] →
        s'.watch.latch = [3] ∧ s'.watch.leading = FaultClass.linkHigh ∧ s'.gateEn = false ∧
        ((s.round.phase = .running ∨ s.round.phase = .revising) →
          s'.round.epoch = s.round.epoch + 1#16 ∧ (s'.round.phase = .tripped ∨ s'.round.phase = .lockout)))

/-- R119: a trigger taken while a pass is in flight. -/
def Obligations.TriggerInFlightIsHeldOrLost : Prop :=
  ∀ (now : Time) (k h : Trigger) (a : Activity) (c : Scanner),
    (c.mode = .single → c.activity = some a → c.pending = none → c.trigger now k = { c with pending := some k }) ∧
    (c.mode = .single → c.activity = some a → c.pending = some h → c.trigger now k = c) ∧
    (c.mode = .continuous → c.trigger now k = c) ∧
    (c.mode = .single → c.pending = some h → c.last ≤ a.channel →
      c.moveOn now a = { c with pending := none, activity := some ⟨c.first, now, now + 5⟩ }) ∧
    (c.forcedStop).pending = none

/-- R117: a settings change. -/
def Obligations.SettingsChangeIsAcceptedOrRefused : Prop :=
  ∀ (now : Time) (lo hi : Nat) (m : ScanMode) (w : Standby) (c : Scanner), lo ≤ 3 → hi ≤ 3 →
    ((hi < lo ∨ (m = .single ∧ w = .free) ∨ (m = .continuous ∧ w = .tick)) → c.request now lo hi m w = c) ∧
    (lo ≤ hi → m = .single → w = .tick →
      c.request now lo hi m w =
        { c with first := lo, last := hi, mode := .single, standing := .tick, activity := none, pending := none }) ∧
    (lo ≤ hi → m = .continuous → w = .free →
      c.request now lo hi m w =
        { c with
          first := lo, last := hi, mode := .continuous, standing := .free, pending := none
          activity := some ⟨lo, now, now + 5⟩ })

/-! ## The Catch Unit -/

/-- CONVERSION_COMPLETE of V_AB, V_BC or V_CA with a catch ACTIVE: the sample 2 × (v − 500) is taken and its slot cleared. One
without OVERRUN that goes from below 0 to 0 or above is a rising crossing at its interpolated time: its channel's peak since
the last crossing restarts from it, and one of V_AB or V_BC whose amplitude reaches CATCH_FLOOR at a time no entry holds is
entered in time order, the list keeping the eight latest, and evaluated (EvaluationDecidesCatch); one of V_CA, below the
floor, or at a time held is not entered. Any other sample moves the last sample and the peaks alone. With OVERRUN the list is
emptied and the last sample of every channel cleared, the sample being the first of its channel after the gap (the amplitude
window that it opens is the model's choice: log 49), and the third clearance fails the catch. A result above 1000 is taken as
1000 (the model's choice: log 20). A result that the catch misses stays in its slot, with OVERRUN where one stood there (when
it does is the command's to say: log 19). -/
def Obligations.SamplesEnterRisingCrossings : Prop :=
  ∀ (t : Time) (v : Nat) (a : Activity) (y : Slot) (s : State) (x : Int) (k : Tracker) (slots : List Slot),
    s.runs = true → s.isLine = true → s.catcher.active = true → s.scanner.activity = some a → a.convEnd ≤ max s.now t →
    a.channel ≤ 2 → s.scanner.slots[a.channel]? = some y → x = 2 * ((min v 1000 : Nat) - 500 : Int) →
    k = s.catcher.tracker a.channel → slots = s.scanner.slots.set a.channel ⟨min v 1000, false, false⟩ →
    (∃ s', exec (.conversionComplete t v false) s = .next s' ∧ s' = { s.advance t with scanner := s'.scanner } ∧
      s'.scanner.slots = s.scanner.slots.set a.channel ⟨min v 1000, true, y.overrun || y.fresh⟩) ∧
    (y.fresh = false → y.overrun = false →
      ((∀ l u, k.last = some (l, u) → 0 ≤ l ∨ x < 0) →
        ∃ s', exec (.conversionComplete t v true) s = .next s' ∧
          s' = { s.advance t with scanner := s'.scanner, catcher := s'.catcher } ∧ s'.scanner.slots = slots ∧
          s'.catcher = s.catcher.setTracker a.channel
            ⟨some (x, max s.now t), max k.peakCross x.natAbs, max k.peakStart x.natAbs⟩) ∧
      (∀ (l : Int) (u c : Time) (amplitude : Nat) (r : CatchUnit), k.last = some (l, u) → l < 0 → 0 ≤ x →
        c = u + ((max s.now t - u) * l.natAbs) / (x - l).natAbs → amplitude = max k.peakCross x.natAbs →
        r = s.catcher.setTracker a.channel ⟨some (x, max s.now t), x.natAbs, max k.peakStart x.natAbs⟩ →
        (a.channel = 2 ∨ amplitude < s.params.catchFloor ∨ (∃ z ∈ s.catcher.crossings, z.time = c) →
          ∃ s', exec (.conversionComplete t v true) s = .next s' ∧
            s' = { s.advance t with scanner := s'.scanner, catcher := r } ∧ s'.scanner.slots = slots) ∧
        (a.channel ≠ 2 → s.params.catchFloor ≤ amplitude → (∀ z ∈ s.catcher.crossings, z.time ≠ c) →
          ∃ s1 : State, s1 = { s.advance t with
              scanner := s1.scanner
              catcher := { r with
                crossings := capCrossings (insertCrossing ⟨a.channel == 0, c⟩ s.catcher.crossings)
                entered := s.catcher.entered + 1 } } ∧
            s1.scanner.slots = slots ∧ exec (.conversionComplete t v true) s = .next s1.evaluateCatch ∧
            (evaluationTimes s1.catcher.crossings = none → s1.evaluateCatch = s1) ∧
            ∀ early late, s.catcher.crossings = early ++ late → (∀ z ∈ early, z.time < c) →
              (∀ z ∈ late, c < z.time) →
              s1.catcher.crossings =
                (early ++ ⟨a.channel == 0, c⟩ :: late).drop (if 8 ≤ s.catcher.crossings.length then 1 else 0)))) ∧
    (y.fresh = true →
      (s.catcher.clearances + 1 < 3 → ∃ s', exec (.conversionComplete t v true) s = .next s' ∧
        s' = { s.advance t with scanner := s'.scanner, catcher := s'.catcher } ∧ s'.scanner.slots = slots ∧
        s'.catcher.active = true ∧ s'.catcher.crossings = [] ∧ s'.catcher.clearances = s.catcher.clearances + 1 ∧
        s'.catcher.entered = s.catcher.entered ∧ s'.catcher.record = s.catcher.record ∧
        s'.catcher.tracker a.channel = ⟨some (x, max s.now t), x.natAbs, max k.peakStart x.natAbs⟩ ∧
        ∀ j, j ≤ 2 → j ≠ a.channel → (s'.catcher.tracker j).last = none ∧
          (s'.catcher.tracker j).peakStart = (s.catcher.tracker j).peakStart) ∧
      (3 ≤ s.catcher.clearances + 1 → ∃ s', exec (.conversionComplete t v true) s = .next s' ∧
        s'.catcher.active = false ∧ s'.catcher.record.outcome = .failed ∧ s'.catcher.record.freq = 0 ∧
        s'.catcher.record.angle = none ∧ s'.catcher.timer = none ∧ s'.catcher.quiet = none ∧
        s'.scanner.mode = .single))

/-- R105 to R107: an evaluation with three V_AB crossings at t1, t2, t3 and the latest V_BC crossing at tb. Intervals that
differ by more than CATCH_TOL percent, or an offset in neither window, remove the oldest entry; an offset in one window alone
gives direction and frequency, and the catch is CAUGHT with angle 0 at t3 when encoder and DIR agree, FAILED otherwise (the
angle time of a FAILED record, the moment of the end, is the model's choice: log 44; so are the exact fractions of the
windows: log 50). -/
def Obligations.EvaluationDecidesCatch : Prop :=
  ∀ (s : State) (t1 t2 t3 tb p d : Nat), evaluationTimes s.catcher.crossings = some (t1, t2, t3, tb) →
    p = ((t2 - t1) + (t3 - t2)) / 2 → d = phaseOffset p t3 tb →
    (100 * (max (t2 - t1) (t3 - t2) - min (t2 - t1) (t3 - t2)) > s.params.catchTol * max (t2 - t1) (t3 - t2) →
      s.evaluateCatch = { s with catcher := { s.catcher with crossings := s.catcher.crossings.drop 1 } }) ∧
    (100 * (max (t2 - t1) (t3 - t2) - min (t2 - t1) (t3 - t2)) ≤ s.params.catchTol * max (t2 - t1) (t3 - t2) →
      (withinThird s.params.catchTol p d 1 = false → withinThird s.params.catchTol p d 2 = false →
        s.evaluateCatch = { s with catcher := { s.catcher with crossings := s.catcher.crossings.drop 1 } }) ∧
      (∀ fwd : Bool, withinThird s.params.catchTol p d 1 = fwd → withinThird s.params.catchTol p d 2 = !fwd →
        ∀ f : Int, f = (if fwd then ((100000000 / p : Nat) : Int) else -((100000000 / p : Nat) : Int)) →
        (∀ w, s.currentWord = some w →
          100 * (f - w.encFreq.toInt).natAbs ≤ w.encFreq.toInt.natAbs * s.params.catchTol →
          sampledAsserted s.port.dir = fwd →
          s.evaluateCatch.catcher.record = ⟨some s.round.epoch, .caught, f, some 0, t3, false⟩ ∧
          s.evaluateCatch.catcher.active = false) ∧
        ((∀ w, s.currentWord = some w →
            w.encFreq.toInt.natAbs * s.params.catchTol < 100 * (f - w.encFreq.toInt).natAbs ∨
            sampledAsserted s.port.dir ≠ fwd) →
          s.evaluateCatch.catcher.record = ⟨some s.round.epoch, .failed, 0, none, s.now, false⟩ ∧
          s.evaluateCatch.catcher.active = false)))

/-- QUIET_MARK_EXPIRY of an ACTIVE catch: with the residual voltage present nothing but the mark ends; with it absent and
CARRIED not allowed a current encoder frequency within COLD_LIMIT gives COLD and otherwise the catch fails; CARRIED takes
the context's frequency and angle when the directions agree. Absent: no crossing entered and all three peaks below
CATCH_FLOOR. Allowed: status fields and pre-trip plan VALID, a capture less than CONTEXT_LIFE before the catch start,
OVERHAUL deasserted then and now, and a current encoder frequency within CATCH_TOL percent of the context's. -/
def Obligations.QuietMarkDecidesResidualTest : Prop :=
  ∀ (t d : Time) (s : State), s.runs = true → s.catcher.active = true → s.catcher.quiet = some d → d ≤ max s.now t →
    (residualAbsent s.params.catchFloor s.catcher = true ↔ s.catcher.entered = 0 ∧
      s.catcher.trackAB.peakStart < s.params.catchFloor ∧ s.catcher.trackBC.peakStart < s.params.catchFloor ∧
      s.catcher.trackCA.peakStart < s.params.catchFloor) ∧
    (∀ w, (s.advance t).currentWord = some w ↔
      s.port.status = some w ∧ max s.now t - w.time < 2 * (1000 * s.params.report)) ∧
    ((s.advance t).carriedAllowed = true ↔
      s.catcher.context.statusTag = .valid ∧ s.catcher.context.planTag = .valid ∧
      (∃ u, s.catcher.context.capture = some u ∧ s.catcher.start - u < 1000 * s.params.contextLife) ∧
      s.catcher.context.overhauling = false ∧ sampledAsserted s.port.overhaul = false ∧
      ∃ w, (s.advance t).currentWord = some w ∧
        100 * (w.encFreq.toInt - s.catcher.context.encFreq.toInt).natAbs ≤
          s.catcher.context.encFreq.toInt.natAbs * s.params.catchTol) ∧
    (residualAbsent s.params.catchFloor s.catcher = false →
      exec (.quietMarkExpiry t) s = .next { s.advance t with catcher := { s.catcher with quiet := none } }) ∧
    (residualAbsent s.params.catchFloor s.catcher = true →
      ∃ s', exec (.quietMarkExpiry t) s = .next s' ∧ s'.catcher.active = false ∧ s'.catcher.timer = none ∧
        s'.catcher.quiet = none ∧ s'.catcher.record.epoch = some s.round.epoch ∧ s'.catcher.record.used = false ∧
        s'.scanner.mode = .single ∧ s'.round = s.round ∧
        ((s.advance t).carriedAllowed = true → s.catcher.context.dir = sampledAsserted s.port.dir →
          s'.catcher.record.outcome = .carried ∧ s'.catcher.record.freq = s.catcher.context.driveFreq.toInt ∧
          s'.catcher.record.angle = some s.catcher.context.driveAngle ∧
          s'.catcher.record.angleTime = s.catcher.context.sampleTime) ∧
        ((s.advance t).carriedAllowed = true → s.catcher.context.dir ≠ sampledAsserted s.port.dir →
          s'.catcher.record.outcome = .failed ∧ s'.catcher.record.freq = 0) ∧
        (∀ w, (s.advance t).carriedAllowed = false → (s.advance t).currentWord = some w →
          w.encFreq.toInt.natAbs ≤ s.params.coldLimit →
          s'.catcher.record.outcome = .cold ∧ s'.catcher.record.freq = w.encFreq.toInt ∧
          s'.catcher.record.angle = none) ∧
        ((s.advance t).carriedAllowed = false →
          (∀ w, (s.advance t).currentWord = some w → s.params.coldLimit < w.encFreq.toInt.natAbs) →
          s'.catcher.record.outcome = .failed ∧ s'.catcher.record.freq = 0 ∧ s'.catcher.record.angle = none))

/-- CATCH_TIMER_EXPIRY with the catch ACTIVE: the outcome is FAILED with frequency 0 and no angle, the catch timer and
quiet mark stop, and the scanner returns to SINGLE over CH0 to CH3 on TICK. BUDGET_EXPIRY: the budget is SPENT; with
station 0 in the armed set the overdue flag is set and the record kept, otherwise the record of the current epoch gets
outcome EXPIRED with frequency 0 and no angle, and an ACTIVE catch ends. The angle time of the FAILED record, the moment of
the end, is the model's choice (log 44). -/
def Obligations.CatchTimersEndCatch : Prop :=
  (∀ (t d : Time) (s : State), s.runs = true → s.catcher.active = true → s.catcher.timer = some d → d ≤ max s.now t →
    s.scanner.mode = .continuous →
    ∃ s', exec (.catchTimerExpiry t) s = .next s' ∧
      s'.catcher = { s.catcher with
        active := false, timer := none, quiet := none
        record := ⟨some s.round.epoch, .failed, 0, none, max s.now t, false⟩ } ∧
      s'.scanner = ⟨0, 3, .single, .tick, none, none, s.scanner.slots⟩ ∧
      s' = { s.advance t with catcher := s'.catcher, scanner := s'.scanner }) ∧
  (∀ (t d : Time) (s : State), s.runs = true → s.catcher.budget = .running → s.catcher.budgetTimer = some d →
    d ≤ max s.now t →
    (0 ∈ s.round.armed →
      exec (.budgetExpiry t) s = .next
        { s.advance t with catcher := { s.catcher with budget := .spent, budgetTimer := none, overdue := true } }) ∧
    (0 ∉ s.round.armed →
      ∃ s', exec (.budgetExpiry t) s = .next s' ∧ s'.catcher.budget = .spent ∧ s'.catcher.budgetTimer = none ∧
        s'.catcher.record.epoch = some s.round.epoch ∧ s'.catcher.record.outcome = .expired ∧
        s'.catcher.record.freq = 0 ∧ s'.catcher.record.angle = none ∧ s'.catcher.active = false ∧
        s' = { s.advance t with catcher := s'.catcher, scanner := s'.scanner }))

/-- BRAKE_OPEN_FALLING at a line station: an ACTIVE catch ends STANDSTILL, an unused CAUGHT or CARRIED of the epoch is
replaced by STANDSTILL, any other record is kept; the budget stops. -/
def Obligations.BrakeDropGivesStandstill : Prop :=
  ∀ (t : Time) (u : Sample) (s : State), s.runs = true → s.isLine = true → s.port.brakeOpen = some u →
    u.asserted = true →
    ∃ s', exec (.brakeOpenFalling t) s = .next s' ∧ s'.port = { s.port with brakeOpen := some ⟨false, max s.now t⟩ } ∧
      s'.catcher.budget = .idle ∧ s'.catcher.budgetTimer = none ∧ s'.catcher.overdue = false ∧
      s'.catcher.active = false ∧
      ((s.catcher.active = true ∨ (s.catcher.record.epoch = some s.round.epoch ∧ s.catcher.record.used = false ∧
          (s.catcher.record.outcome = .caught ∨ s.catcher.record.outcome = .carried))) →
        s'.catcher.record.outcome = .standstill ∧ s'.catcher.record.freq = 0 ∧ s'.catcher.record.angle = none) ∧
      (s.catcher.active = false → (s.catcher.record.epoch ≠ some s.round.epoch ∨ s.catcher.record.used = true ∨
          (s.catcher.record.outcome ≠ .caught ∧ s.catcher.record.outcome ≠ .carried)) →
        s'.catcher.record = s.catcher.record) ∧
      s' = { s.advance t with catcher := s'.catcher, scanner := s'.scanner, port := s'.port }

/-! ## Cell Watch and the Bypass Controller -/

/-- FAULT_INPUT_CHANGE at a cell station: each change gives an EDGE trigger; a return clears nothing; an assertion with a class
latched adds its class alone. With the latch empty it latches the leading class, GATE_EN falls, the bypass takes a CLOSE, and
under active authority the own entry is written FAULTED with the class, and BYPASSED at once after it where the contactor
stands confirmed closed, which stops the rest hold-off. In JOINING, ISOLATED and LOCKOUT the alarm is dropped; in every other
phase the station takes the successor epoch, enters TRIPPED or LOCKOUT without a plan, and queues an ALARM of the class. That
the owner write comes before the alarm is the model's choice (log 32): in RUNNING the ALARM may so show REVISING, and in HALTED
and PLANNING SETTLING; in PLANNING a write whose resettle leads to LOCKOUT drops the alarm. A level already held is no change
(the model's choice: log 2). -/
def Obligations.FaultInputLatchesHardFault : Prop :=
  ∀ (t : Time) (i : FaultInput) (s : State), s.runs = true → s.isLine = false →
    (s.watch.level i ≠ some false →
      exec (.faultInputChange t i false) s = .next
        { s.advance t with
          watch := s.watch.setLevel i false, scanner := s.scanner.trigger (max s.now t) .edge }) ∧
    (s.watch.level i ≠ some true → s.watch.latch ≠ [] →
      exec (.faultInputChange t i true) s = .next
        { s.advance t with
          watch := { s.watch.setLevel i true with latch := insertRising (hardClassOf i).toNat s.watch.latch }
          scanner := s.scanner.trigger (max s.now t) .edge }) ∧
    (∀ a, s.watch.level i = some a → exec (.faultInputChange t i a) s = .next (s.advance t)) ∧
    (s.watch.level i ≠ some true → s.watch.latch = [] →
      ∃ s', exec (.faultInputChange t i true) s = .next s' ∧ s'.watch.latch = [(hardClassOf i).toNat] ∧
        s'.watch.leading = hardClassOf i ∧ s'.watch.level i = some true ∧ s'.gateEn = false ∧
        s'.scanner = s.scanner.trigger (max s.now t) .edge ∧
        (s.bypass.state = .closed ∨ s.bypass.state = .stuckOpen → s'.bypass = s.bypass) ∧
        (s.bypass.state = .stuckClosed → s'.bypass = { s.bypass with state := .closed }) ∧
        (s.bypass.state = .opened →
          s'.bypass = { s.bypass with state := .closing, gateOff := some (max s.now t + 10) }) ∧
        (s.bypass.state = .opening →
          s'.bypass = { s.bypass with
            state := .closing, hold := false, contact := some (max s.now t + 1000 * s.params.contact), gateOff := none
            coilRelease := none }) ∧
        (s.bypass.state = .closing → s'.bypass = { s.bypass with pending := none }) ∧
        (s.roster.authority = false → s'.roster.entries = s.roster.entries ∧ s'.watch.rest = s.watch.rest) ∧
        (∀ j e, s.roster.authority = true → s.ownIndex = some j → s.roster.entries[j - 1]? = some e →
          ∃ v, s'.roster.entries[j - 1]? =
              some ⟨if s.bypass.confirmedClosed = true then .bypassed else .faulted, .owner, hardClassOf i, v,
                e.silentSince⟩ ∧
            (e.cond ≠ .faulted → s'.watch.rest = .stopped ∧
              v = if s.bypass.confirmedClosed = true then versionSucc (versionSucc e.version)
                else versionSucc e.version)) ∧
        (s.round.phase = .joining ∨ s.round.phase = .isolated ∨ s.round.phase = .lockout → s'.round = s.round) ∧
        (s.round.phase ≠ .joining → s.round.phase ≠ .isolated → s.round.phase ≠ .lockout →
          (s.round.phase = .planning → s.round.resettle < s.params.resettle) →
          s'.round.epoch = s.round.epoch + 1#16 ∧ (s'.round.phase = .tripped ∨ s'.round.phase = .lockout) ∧
          s'.plan.inForce = none ∧
          (s.bus.duplicate = false → s.fitted = true → s.bus.queue.length ≤ 4 →
            ∃ g ∈ s'.bus.queue, ∃ p : Phase,
              g.body = .alarm (BitVec.ofNat 8 s.number) (hardClassOf i).byte p.code ∧
              (p = s.round.phase ∨ (s.round.phase = .running ∧ p = .revising) ∨
                ((s.round.phase = .halted ∨ s.round.phase = .planning) ∧ p = .settling)))))

/-- The arming check of a cell. Its start, on a LINE frame with a fresh run request that takes HALTED with a plan in force to
ARMING: an active cell, LIVE with an empty latch, starts the sense step with its bypass OPEN and opens it otherwise; a spare
answers STEP ARMED with its bypass CLOSED and closes it otherwise; an entry not LIVE is answered STEP REFUSED with its class,
and the contactor closed; outside the plan's lists no check runs. The values of a pass are evaluated when it started at or
after the check's request, not when it started before. The answer: within the arming bands and with an empty latch STEP
ARMED; otherwise STEP REFUSED with reason REFUSED, and the LIVE own entry becomes RESTING class REFUSED. The CLOSE of a check
refused at its start is the model's reading (log 45). -/
def Obligations.ArmingCheckAnswersByBands : Prop :=
  (∀ (t : Time) (x : Transmission) (f : Frame) (l : LinePayload) (p : Plan) (e : RosterEntry) (s : State),
    s.runs = true → examineKind .line x = some f → f.payload = .line l → f.station = 0 → s.isLine = false →
    s.number ≠ 0 → f.epoch = s.round.epoch → s.round.phase = .halted → s.plan.inForce = some p →
    (∀ k, s.round.facts.faultCount = some k → k = l.faultCount) → l.runReq = true → s.round.facts.prevRun = false →
    s.round.deferred = false → s.round.refusal = .none → 0 ∉ s.round.armed →
    (∀ h, catchHeldAfter f.epoch l s.round.facts.catchHeld = some h → h.epoch = s.round.epoch → h.outcome ≠ .expired) →
    s.ownEntry = some e →
    ∃ s', exec (.lineReceived t x) s = .next s' ∧ s'.round.phase = .arming ∧
      (∀ o, s.cellRole = .active o → e.cond = .live → s.watch.latch = [] →
        s'.roster.entries = s.roster.entries ∧
        (s.bypass.state = .opened → s'.watch.check = .senseWait ∧ s'.watch.armRequest = some (max s.now t) ∧
          s'.bypass = s.bypass ∧ s'.scanner = s.scanner.trigger (max s.now t) .arm) ∧
        (s.bypass.state ≠ .opened → s'.watch.check = .openWait ∧ s'.scanner = s.scanner ∧
          ((s.bypass.state = .closed ∨ s.bypass.state = .stuckClosed) →
            s'.bypass = { s.bypass with
              state := .opening, hold := true, contact := some (max s.now t + 1000 * s.params.contact)
              coilRelease := none }) ∧
          (s.bypass.state = .closing → s'.bypass = { s.bypass with pending := some .arm }) ∧
          ((s.bypass.state = .opening ∨ s.bypass.state = .stuckOpen) → s'.bypass = s.bypass))) ∧
      (s.cellRole = .spare → e.cond = .live → s.watch.latch = [] →
        (s.bypass.state = .closed → s'.watch.check = .done ∧ s'.bypass = s.bypass ∧
          (s.barred = false → s.bus.queue.length ≤ 4 →
            ∃ g ∈ s'.bus.queue, g.body = .step 1 p.revision (p.digest?.getD 0) 0)) ∧
        (s.bypass.state = .opened → s'.watch.check = .closeWait ∧
          s'.bypass = { s.bypass with state := .closing, gateOff := some (max s.now t + 10) })) ∧
      (s.cellRole.isActive = true ∨ s.cellRole = .spare → e.cond ≠ .live →
        s'.watch.check = .done ∧
        (s.barred = false → s.bus.queue.length ≤ 4 →
          ∃ g ∈ s'.bus.queue, g.body = .step 2 p.revision (p.digest?.getD 0) e.cls.byte) ∧
        (s.bypass.state = .opened →
          s'.bypass = { s.bypass with state := .closing, gateOff := some (max s.now t + 10) })) ∧
      (s.cellRole = .out → s'.watch.check = .idle ∧ s'.bypass = s.bypass ∧ s'.scanner = s.scanner)) ∧
  (∀ (t q : Time) (v : Nat) (k : Bool) (a : Activity) (s : State) (x : PassValues), s.runs = true →
    s.isLine = false → s.store.valid = true → s.scanner.activity = some a → a.convEnd ≤ max s.now t →
    s.scanner.last ≤ a.channel → x = (s.scanner.storeSlot a.channel (min v 1000)).values → s.round.phase = .arming →
    s.watch.check = .senseWait → s.watch.armRequest = some q →
    assertsNow s.params.persist (decide (s.params.tripHigh < x.ch0)) s.watch.tripHigh = false →
    softAssertion s.params x s.watch = none →
    ∃ r, r = { s.advance t with scanner := r.scanner, watch := r.watch } ∧ r.watch.latch = s.watch.latch ∧
      r.watch.check = .senseWait ∧ r.watch.sentArmed = s.watch.sentArmed ∧
      r.watch.sentRefused = s.watch.sentRefused ∧
      (q ≤ a.passStart → exec (.conversionComplete t v k) s = .next (r.evaluateCheck x)) ∧
      (a.passStart < q → exec (.conversionComplete t v k) s = .next r)) ∧
  ∀ (s : State) (v : PassValues) (p : Plan), s.round.phase = .arming → s.plan.inForce = some p → s.barred = false →
    s.bus.queue.length ≤ 4 →
    ((s.params.armLow ≤ v.ch0 ∧ v.ch0 ≤ s.params.armHigh ∧ s.params.supplyLow < v.ch1 ∧ s.params.inputLow < v.ch3 ∧
        v.ch2 < s.params.heatHigh ∧ s.watch.latch = []) → s.watch.sentArmed = false →
      (s.evaluateCheck v).watch = { s.watch with check := .done, sentArmed := true } ∧
      (s.evaluateCheck v).roster = s.roster ∧ (s.evaluateCheck v).bypass = s.bypass ∧
      ∃ g ∈ (s.evaluateCheck v).bus.queue, g.body = .step 1 p.revision (p.digest?.getD 0) 0) ∧
    (¬(s.params.armLow ≤ v.ch0 ∧ v.ch0 ≤ s.params.armHigh ∧ s.params.supplyLow < v.ch1 ∧ s.params.inputLow < v.ch3 ∧
        v.ch2 < s.params.heatHigh ∧ s.watch.latch = []) → s.watch.sentRefused = false →
      (s.evaluateCheck v).watch.check = .done ∧
      (∃ g ∈ (s.evaluateCheck v).bus.queue, g.body = .step 2 p.revision (p.digest?.getD 0) 13) ∧
      ∀ i e, s.ownIndex = some i → 1 ≤ i → s.roster.authority = true → s.roster.entries[i - 1]? = some e →
        e.cond = .live →
        (s.evaluateCheck v).roster.entries[i - 1]? = some ⟨.resting, .owner, 13, versionSucc e.version, e.silentSince⟩)

/-- REST_HOLDOFF_EXPIRY: the timer becomes elapsed; where the readmission trigger is met in HALTED, the own entry is written
LIVE with the next version and the timer stops. -/
def Obligations.RestHoldoffElapsesAndReadmits : Prop :=
  ∀ (t d : Time) (s : State), s.runs = true → s.watch.rest = .running d → d ≤ max s.now t →
    ((s.isLine = true ∨ (s.round.phase ≠ .halted ∧ s.round.phase ≠ .running) ∨ s.ownCond .resting = false ∨
        s.watch.inBand ≠ s.params.persist ∨ s.watch.latch ≠ []) →
      exec (.restHoldoffExpiry t) s = .next { s.advance t with watch := { s.watch with rest := .elapsed } }) ∧
    (∀ i e, s.ownIndex = some i → 1 ≤ i → s.roster.entries[i - 1]? = some e → e.cond = .resting →
      s.roster.authority = true → s.round.phase = .halted → s.watch.inBand = s.params.persist → s.watch.latch = [] →
      ∃ s', exec (.restHoldoffExpiry t) s = .next s' ∧ s'.watch.rest = .stopped ∧
        s'.roster.entries[i - 1]? = some ⟨.live, .owner, 0, versionSucc e.version, e.silentSince⟩ ∧
        s'.round.phase = .settling)

/-- BYPASS_FB_CHANGE at a cell station, as the feedback columns of Table 7-3 give for the state, the coil and the timers. -/
def Obligations.FeedbackChangeMovesBypassState : Prop :=
  ∀ (t : Time) (s : State), s.runs = true → s.isLine = false →
    (s.bypass.feedback ≠ some false →
      (s.bypass.state = .opening → ∃ s', exec (.bypassFbChange t false) s = .next s' ∧
        s'.bypass = { s.bypass with feedback := some false, state := .opened, contact := none }) ∧
      ((s.bypass.state = .closed ∨ s.bypass.state = .stuckClosed) →
        exec (.bypassFbChange t false) s = .next
          { s.advance t with
            bypass := { s.bypass with
              feedback := some false, state := .closing, hold := false, gateOff := none, coilRelease := none
              contact := some (max s.now t + 1000 * s.params.contact) } }) ∧
      ((s.bypass.state = .opened ∨ s.bypass.state = .closing ∨ s.bypass.state = .stuckOpen) →
        exec (.bypassFbChange t false) s = .next
          { s.advance t with bypass := { s.bypass with feedback := some false } })) ∧
    (s.bypass.feedback ≠ some true →
      ((s.bypass.state = .closed ∨ s.bypass.state = .stuckClosed ∨ s.bypass.state = .opening) →
        exec (.bypassFbChange t true) s = .next
          { s.advance t with bypass := { s.bypass with feedback := some true } }) ∧
      (s.bypass.state = .opened → ∃ s', exec (.bypassFbChange t true) s = .next s' ∧ s'.bypass.state = .closed ∧
        s'.bypass.hold = false ∧ s'.bypass.contact = none ∧ 4 ∈ s'.watch.latch ∧ s'.gateEn = false) ∧
      ((s.bypass.state = .stuckOpen ∨ (s.bypass.state = .closing ∧ s.bypass.pending = none)) →
        ∃ s', exec (.bypassFbChange t true) s = .next s' ∧
          s'.bypass = { s.bypass with
            feedback := some true, state := .closed, hold := false, contact := none, gateOff := none
            coilRelease := none }))

/-- CONTACT_EXPIRY: an open not confirmed in time releases the coil and latches BYPASS. Outside an arming check's OPEN_WAIT it
leaves STUCK_CLOSED; in OPEN_WAIT it is a refusal, BYPASS leads the latch, and the CLOSE that Table 7-4 gives a refused
arming check leaves CLOSED (R130 lists no CLOSE; that the table's holds there is the model's reading: log 45). A close not
confirmed leaves STUCK_OPEN, discards a pending OPEN and latches BYPASS as the leading class. -/
def Obligations.ContactExpiryLeavesStuckState : Prop :=
  ∀ (t d : Time) (s : State), s.runs = true → s.bypass.contact = some d → d ≤ max s.now t →
    (s.bypass.state = .opening → s.watch.check ≠ .openWait → ∃ s', exec (.contactExpiry t) s = .next s' ∧
      s'.bypass = { s.bypass with state := .stuckClosed, hold := false, contact := none } ∧ 4 ∈ s'.watch.latch) ∧
    (s.bypass.state = .opening → s.watch.check = .openWait → s.isLine = false → ∃ s', exec (.contactExpiry t) s = .next s' ∧
      s'.bypass = { s.bypass with state := .closed, hold := false, contact := none } ∧ 4 ∈ s'.watch.latch ∧
      s'.watch.leading = FaultClass.bypass ∧ s'.watch.check = .done ∧ s'.gateEn = false) ∧
    (s.bypass.state = .closing → ∃ s', exec (.contactExpiry t) s = .next s' ∧
      s'.bypass = { s.bypass with state := .stuckOpen, contact := none, pending := none } ∧ 4 ∈ s'.watch.latch ∧
      s'.watch.leading = FaultClass.bypass)

/-- R143: GATE_EN. -/
def Obligations.GateEnableFollowsFourInputs : Prop :=
  (∀ s : State, s.runs = true → s.isLine = false →
    (s.gateEn = true ↔ (s.round.phase = .running ∨ s.round.phase = .revising) ∧ (∃ o, s.cellRole = .active o) ∧
      s.bypass.state = .opened ∧ s.watch.latch = [])) ∧
  (∀ s : State, s.isLine = true → s.gateEn = false) ∧
  (∀ s : State, s.round.phase = .joining ∨ s.round.phase = .isolated ∨ s.round.phase = .lockout → s.gateEn = false) ∧
  (∀ (t : Time) (x : Straps) (s : State), ∃ s', exec (.powerOnReset t x) s = .next s' ∧ s'.gateEn = false) ∧
  (∀ (t : Time) (x : Straps) (s : State), s.runs = true →
    ∃ s', exec (.pinReset t (.falls true) x) s = .next s' ∧ s'.gateEn = false) ∧
  (∀ s : State, s.store.resetLow = true → s.gateEn = false)

/-! ## The Line Port -/

/-- FAULT_RST_FALLING and DISCRETE_INPUT_CHANGE at a line station: the first level after a reset sets the sample alone; a falling
FAULT_RST# adds 1 to the fault-reset count, modulo 256, in every phase; a change of RUN_REQ, DIR, OVERHAUL or SLOW_ZONE
replaces its sample alone; a level already held is no change, of FAULT_RST# too (the model's choice: log 2). -/
def Obligations.InputChangesReplaceSamples : Prop :=
  ∀ (t : Time) (s : State), s.runs = true → s.isLine = true →
    (s.port.faultRst = none →
      exec (.faultRstFalling t) s = .next
        { s.advance t with port := { s.port with faultRst := some ⟨true, max s.now t⟩ } }) ∧
    (∀ u, s.port.faultRst = some u → u.asserted = false →
      exec (.faultRstFalling t) s = .next
        { s.advance t with
          port := { s.port with
            faultRst := some ⟨true, max s.now t⟩, faultCount := s.port.faultCount + 1#8 } }) ∧
    (∀ u, s.port.faultRst = some u → u.asserted = true → exec (.faultRstFalling t) s = .next (s.advance t)) ∧
    (∀ (i : LineInput) (b : Bool), (∀ u ∈ s.port.sample i, u.asserted ≠ b) →
      i = .runReq ∨ i = .dir ∨ i = .overhaul ∨ i = .slowZone →
      exec (.discreteInputChange t i b) s = .next
        { s.advance t with port := s.port.setSample i ⟨b, max s.now t⟩ }) ∧
    (∀ (i : LineInput) (b : Bool) (u : Sample), s.port.sample i = some u → u.asserted = b →
      exec (.discreteInputChange t i b) s = .next (s.advance t))

/-- TRANSFER_START and LSCK_CLOCK_EDGE at a line station: the first rising edge copies the record on LSO and samples LSI; within
the transfer each rising edge samples LSI and each falling edge moves LSO to the next bit of the copy; an
LSCK_CLOCK_EDGE outside a transfer does nothing (the model's choice: log 2; by R176 a rising edge while IDLE is a
TRANSFER_START). LSO is the present bit of the copy, while IDLE the first bit of the record on LSO, and low after the last;
the bytes of a record of 27 slots are those of Table 10-3, multi-byte fields most significant byte first, bits from the most
significant on. That a cleared record, whose every other field is 0 by R177, ends with the CRC as well is the model's choice
(log 17). -/
def Obligations.LinkEdgesShiftRecordAndWord : Prop :=
  (∀ (t : Time) (b : Bool) (s : State), s.runs = true → s.isLine = true →
    (s.port.transfer = none →
      exec (.transferStart t b) s = .next
        { s.advance t with
          port := { s.port with
            transfer := some ⟨1, [b], 0, true, max s.now t, s.port.presented.getD s.port.record, false⟩ } } ∧
      (∀ r, exec (.lsckClockEdge t r b) s = .next (s.advance t)) ∧
      s.lso = ((bitsOfBytes (s.port.presented.getD s.port.record).bytes)[0]?).getD false) ∧
    ∀ x : Transfer, s.port.transfer = some x →
      (x.high = false →
        exec (.lsckClockEdge t true b) s = .next
          { s.advance t with
            port := { s.port with
              transfer := some { x with clocked := x.clocked + 1, lsi := x.lsi ++ [b], high := true } } }) ∧
      (x.high = true →
        exec (.lsckClockEdge t false b) s = .next
          { s.advance t with
            port := { s.port with
              transfer := some { x with lsoIndex := x.lsoIndex + 1, high := false, lastFall := max s.now t } } }) ∧
      s.lso = ((bitsOfBytes x.snapshot.bytes)[x.lsoIndex]?).getD false) ∧
  ∀ r : ReleaseRecord, r.slots.length = 27 → r.bytes.length = 65 ∧
    (bitsOfBytes r.bytes).take 8 =
      [r.valid, decide (r.mode = .trim), r.angle.isSome, false, false, false, false, false] ∧
    halfAt r.bytes 1 = r.epoch ∧ byteAt r.bytes 3 = r.revision ∧ halfAt r.bytes 4 = r.digest ∧
    byteAt r.bytes 6 = BitVec.ofNat 8 r.counts.a ∧ byteAt r.bytes 7 = BitVec.ofNat 8 r.counts.b ∧
    byteAt r.bytes 8 = BitVec.ofNat 8 r.counts.c ∧ halfAt r.bytes 9 = BitVec.ofNat 16 r.thetaAB ∧
    halfAt r.bytes 11 = BitVec.ofNat 16 r.thetaBC ∧ halfAt r.bytes 13 = BitVec.ofNat 16 r.thetaCA ∧
    halfAt r.bytes 15 = BitVec.ofNat 16 r.fraction ∧ byteAt r.bytes 17 = r.outcome.code ∧
    halfAt r.bytes 18 = r.freq ∧ halfAt r.bytes 20 = r.angle.getD 0 ∧
    (∀ i x, r.slots[i]? = some x → (bitsOfBytes r.bytes)[176 + 12 * i]? = some x.active ∧
      ∀ j, j < 11 → (bitsOfBytes r.bytes)[176 + 12 * i + 1 + j]? = some (x.offset.getLsbD (10 - j))) ∧
    (∀ j, j < 4 → (bitsOfBytes r.bytes)[500 + j]? = some false) ∧ halfAt r.bytes 63 = crc (r.bytes.take 63)

/-- TRANSFER_END, LSCK low for 10 µs: a status word of 8 bytes with a right CRC becomes the latest word, taken now; otherwise
the held word stands. RREADY falls after a whole read of an unchanged record. -/
def Obligations.TransferEndTakesStatusWord : Prop :=
  ∀ (t : Time) (x : Transfer) (s : State), s.runs = true → s.port.transfer = some x → x.high = false →
    x.lastFall + 10 ≤ max s.now t →
    ∃ s', exec (.transferEnd t) s = .next s' ∧ s' = { s.advance t with port := s'.port } ∧ s'.port.transfer = none ∧
      s'.port.rready = (s.port.rready && !(decide (520 ≤ x.clocked) && !x.changed)) ∧
      s'.port.record = s.port.record ∧ s'.port.presented = s.port.presented ∧
      (∀ (v a e : Half) (rest : List Bool),
        x.lsi = bitsOfBytes (bytesOfHalf v ++ bytesOfHalf a ++ bytesOfHalf e ++
          bytesOfHalf (crc (bytesOfHalf v ++ bytesOfHalf a ++ bytesOfHalf e))) ++ rest →
        s'.port.status = some ⟨v, a, e, max s.now t⟩) ∧
      ((wholeBytes x.lsi).length < 8 → s'.port.status = s.port.status) ∧
      (crc ((wholeBytes x.lsi).take 6) ≠ halfAt (wholeBytes x.lsi) 6 → s'.port.status = s.port.status)

/-! ## Invariants -/

/-- The state right after reset keeps every invariant of Sys2Proof/Safety.lean. -/
def Obligations.ResetStateIsSound : Prop :=
  QueueSound State.reset ∧ HeardSized State.reset ∧ RosterSized State.reset ∧ AttemptsSound State.reset ∧
  RoundSound State.reset ∧ PlanSound State.reset ∧ TalliesSound State.reset ∧ SlotsSound State.reset ∧ CrossingsSound State.reset ∧
  CatchSound State.reset ∧ BypassSound State.reset ∧ StoreSound State.reset

/-- R152, R156: every step keeps the transmit queue within 6 frames, one of each single-copy kind, in the order of rank, and
the heard table at 28 entries. -/
def Obligations.StepsKeepQueueAndHeardTable : Prop :=
  ∀ s s' : State, QueueSound s → HeardSized s → step s = .next s' → QueueSound s' ∧ HeardSized s'

/-- R4, R35: every step keeps the roster at its size and the attempt list within ROUNDS increasing times. Tables 2-2
and 2-9: every step keeps a phase timer running in exactly the phases that have one, and the resettle count within
RESETTLE + 1. -/
def Obligations.StepsKeepRosterAndRound : Prop :=
  (∀ s s' : State, RosterSized s → AttemptsSound s → step s = .next s' → RosterSized s' ∧ AttemptsSound s') ∧
  (∀ s s' : State, RoundSound s → step s = .next s' → RoundSound s')

/-- R64, R66, R76, R79: every step keeps a plan in force VIABLE and of the station's epoch, and the walk's reasons those of
Table 3-3. -/
def Obligations.StepsKeepPlanOfEpoch : Prop :=
  ∀ s s' : State, PlanSound s → TalliesSound s → step s = .next s' → PlanSound s' ∧ TalliesSound s'

/-- R104, R110, R120: every step keeps OVERRUN within FRESH, the crossing list bounded and in order, and a catch ACTIVE only
in CATCHING with the scanner CONTINUOUS. -/
def Obligations.StepsKeepScannerAndCatch : Prop :=
  ∀ s s' : State, SlotsSound s → CrossingsSound s → CatchSound s → step s = .next s' →
    SlotsSound s' ∧ CrossingsSound s' ∧ CatchSound s'

/-- R137, R144: every step keeps the coil, the CONTACT timer and the gate-off wait as the bypass state has them. R144:
in every state that keeps the Bypass Controller's invariant, GATE_EN high means that the coil is held. -/
def Obligations.StepsKeepCoilHeldWhileGating : Prop :=
  (∀ s s' : State, BypassSound s → step s = .next s' → BypassSound s') ∧
  (∀ s : State, BypassSound s → s.gateEn = true → s.bypassHold = true)

/-- R181 to R187: every step keeps validity, config digest and DIFFERS those of the bytes held, and both copies at 64
bytes. -/
def Obligations.StepsKeepStoreConsistent : Prop :=
  ∀ s s' : State, StoreSound s → step s = .next s' → StoreSound s'
end

