-- ==== Sys2Proof/Laws/Agree.lean ====
section
/-! SUPPORT. The words of Safety.lean on voters and agreement, as the tests that the operations make: cite these to pass
between a statement's `Voter`, `RosterAgreement`, `PlanAgreement` or `RevisionAgreement` and the Bool a meaning branches
on. -/

namespace Sys2Proof.Laws

open Sys2Proof.Machine Sys2Proof.Safety

/-- R31: a voter is a station number that the Round Controller's test accepts, with the STATE held of it. -/
theorem voter_iff (s : State) (m : Nat) (h : HeardState) :
    Voter s m h ↔ m ∈ s.voters ∧ (s.heardAt m).state = some h := by
  simp only [Voter, State.voters, State.isVoter, List.mem_filter, List.mem_range, Config.stations]
  constructor
  · rintro ⟨hm, hn, hs, ha, hj, hi, hc⟩
    refine ⟨⟨hm, ?_⟩, hs⟩
    simp only [hs, Phase.outside]
    simp [hn, ha, hc]
    cases hp : h.phase <;> simp_all
  · rintro ⟨⟨hm, hv⟩, hs⟩
    rw [hs] at hv
    simp only [Bool.and_eq_true, decide_eq_true_eq, Bool.not_eq_true', beq_iff_eq] at hv
    obtain ⟨hn, ⟨ha, hp⟩, hc⟩ := hv
    refine ⟨hm, hn, hs, ha, ?_, ?_, hc⟩ <;> intro h' <;> simp [h', Phase.outside] at hp

/-- Every voter's latest STATE meets a test just when the operation's test says so. -/
theorem everyVoter_iff (s : State) (p : HeardState → Bool) :
    s.everyVoter p = true ↔ ∀ m h, Voter s m h → p h = true := by
  simp only [State.everyVoter, List.all_eq_true, voter_iff]
  constructor
  · rintro hall m h ⟨hm, hs⟩
    have := hall m hm
    rwa [hs] at this
  · intro hall m hm
    have hv : s.isVoter m = true := (List.mem_filter.mp hm).2
    cases hs : (s.heardAt m).state with
    | none => simp [State.isVoter, hs] at hv
    | some h => exact hall m h ⟨hm, hs⟩

/-- R32: the line station is present. -/
theorem linePresent_iff (s : State) : LinePresent s ↔ s.present = true := by
  simp only [LinePresent, State.present, Bool.or_eq_true]
  refine or_congr Iff.rfl ?_
  constructor
  · rintro ⟨h, hv⟩
    exact (List.mem_filter.mp ((voter_iff s 0 h).mp hv).1).2
  · intro hv
    cases hs : (s.heardAt 0).state with
    | none => simp [State.isVoter, hs] at hv
    | some h =>
      exact ⟨h, (voter_iff s 0 h).mpr ⟨List.mem_filter.mpr ⟨by simp [Config.stations], hv⟩, hs⟩⟩

/-- R43: roster agreement. -/
theorem rosterAgreement_iff (s : State) : RosterAgreement s ↔ s.rosterAgreed = true := by
  simp only [RosterAgreement, State.rosterAgreed, State.digestStable, Bool.and_eq_true, decide_eq_true_eq,
    linePresent_iff, everyVoter_iff, beq_iff_eq, and_assoc]

/-- R46: plan agreement. -/
theorem planAgreement_iff (s : State) (d : Half) : PlanAgreement s d ↔ s.planAgreed d = true := by
  simp only [PlanAgreement, State.planAgreed, Bool.and_eq_true, linePresent_iff, everyVoter_iff, beq_iff_eq]

/-- R83: revision agreement, of a line station in REVISING. -/
theorem revisionAgreement_iff (s : State) (d : Half) (h : s.round.phase = .revising) :
    RevisionAgreement s d ↔ s.revisionAgreed d = true := by
  simp only [RevisionAgreement, State.revisionAgreed, Bool.and_eq_true, everyVoter_iff, beq_iff_eq, h, beq_self_eq_true,
    and_true, and_assoc, Option.isNone_iff_eq_none]

end Sys2Proof.Laws
end

