-- ==== Sys2Proof/Laws/State.lean ====
section
/-! SUPPORT. What each update of `State` leaves in each field: one lemma for each update and field, true by `rfl`, and what the
functions that read only the store or the round give after an update of another block. -/

namespace Sys2Proof.Machine

variable (s : State)

/-! ## `State.onBus` -/

@[simp] theorem State.onBus_now (f : Bif → Bif) : (s.onBus f).now = s.now := rfl
@[simp] theorem State.onBus_powered (f : Bif → Bif) : (s.onBus f).powered = s.powered := rfl
@[simp] theorem State.onBus_freeCount (f : Bif → Bif) : (s.onBus f).freeCount = s.freeCount := rfl
@[simp] theorem State.onBus_bus (f : Bif → Bif) : (s.onBus f).bus = f s.bus := rfl
@[simp] theorem State.onBus_roster (f : Bif → Bif) : (s.onBus f).roster = s.roster := rfl
@[simp] theorem State.onBus_round (f : Bif → Bif) : (s.onBus f).round = s.round := rfl
@[simp] theorem State.onBus_plan (f : Bif → Bif) : (s.onBus f).plan = s.plan := rfl
@[simp] theorem State.onBus_scanner (f : Bif → Bif) : (s.onBus f).scanner = s.scanner := rfl
@[simp] theorem State.onBus_store (f : Bif → Bif) : (s.onBus f).store = s.store := rfl
@[simp] theorem State.onBus_watch (f : Bif → Bif) : (s.onBus f).watch = s.watch := rfl
@[simp] theorem State.onBus_bypass (f : Bif → Bif) : (s.onBus f).bypass = s.bypass := rfl
@[simp] theorem State.onBus_catcher (f : Bif → Bif) : (s.onBus f).catcher = s.catcher := rfl
@[simp] theorem State.onBus_port (f : Bif → Bif) : (s.onBus f).port = s.port := rfl
@[simp] theorem State.onBus_pending (f : Bif → Bif) : (s.onBus f).pending = s.pending := rfl
@[simp] theorem State.onBus_runs (f : Bif → Bif) : (s.onBus f).runs = s.runs := rfl
@[simp] theorem State.onBus_params (f : Bif → Bif) : (s.onBus f).params = s.params := rfl
@[simp] theorem State.onBus_report (f : Bif → Bif) : (s.onBus f).report = s.report := rfl
@[simp] theorem State.onBus_quietTime (f : Bif → Bif) : (s.onBus f).quietTime = s.quietTime := rfl
@[simp] theorem State.onBus_isLine (f : Bif → Bif) : (s.onBus f).isLine = s.isLine := rfl
@[simp] theorem State.onBus_isCell (f : Bif → Bif) : (s.onBus f).isCell = s.isCell := rfl
@[simp] theorem State.onBus_number (f : Bif → Bif) : (s.onBus f).number = s.number := rfl
@[simp] theorem State.onBus_fitted (f : Bif → Bif) : (s.onBus f).fitted = s.fitted := rfl
@[simp] theorem State.onBus_ownIndex (f : Bif → Bif) : (s.onBus f).ownIndex = s.ownIndex := rfl

/-! ## `State.onRoster` -/

@[simp] theorem State.onRoster_now (f : Roster → Roster) : (s.onRoster f).now = s.now := rfl
@[simp] theorem State.onRoster_powered (f : Roster → Roster) : (s.onRoster f).powered = s.powered := rfl
@[simp] theorem State.onRoster_freeCount (f : Roster → Roster) : (s.onRoster f).freeCount = s.freeCount := rfl
@[simp] theorem State.onRoster_bus (f : Roster → Roster) : (s.onRoster f).bus = s.bus := rfl
@[simp] theorem State.onRoster_roster (f : Roster → Roster) : (s.onRoster f).roster = f s.roster := rfl
@[simp] theorem State.onRoster_round (f : Roster → Roster) : (s.onRoster f).round = s.round := rfl
@[simp] theorem State.onRoster_plan (f : Roster → Roster) : (s.onRoster f).plan = s.plan := rfl
@[simp] theorem State.onRoster_scanner (f : Roster → Roster) : (s.onRoster f).scanner = s.scanner := rfl
@[simp] theorem State.onRoster_store (f : Roster → Roster) : (s.onRoster f).store = s.store := rfl
@[simp] theorem State.onRoster_watch (f : Roster → Roster) : (s.onRoster f).watch = s.watch := rfl
@[simp] theorem State.onRoster_bypass (f : Roster → Roster) : (s.onRoster f).bypass = s.bypass := rfl
@[simp] theorem State.onRoster_catcher (f : Roster → Roster) : (s.onRoster f).catcher = s.catcher := rfl
@[simp] theorem State.onRoster_port (f : Roster → Roster) : (s.onRoster f).port = s.port := rfl
@[simp] theorem State.onRoster_pending (f : Roster → Roster) : (s.onRoster f).pending = s.pending := rfl
@[simp] theorem State.onRoster_runs (f : Roster → Roster) : (s.onRoster f).runs = s.runs := rfl
@[simp] theorem State.onRoster_params (f : Roster → Roster) : (s.onRoster f).params = s.params := rfl
@[simp] theorem State.onRoster_report (f : Roster → Roster) : (s.onRoster f).report = s.report := rfl
@[simp] theorem State.onRoster_quietTime (f : Roster → Roster) : (s.onRoster f).quietTime = s.quietTime := rfl
@[simp] theorem State.onRoster_isLine (f : Roster → Roster) : (s.onRoster f).isLine = s.isLine := rfl
@[simp] theorem State.onRoster_isCell (f : Roster → Roster) : (s.onRoster f).isCell = s.isCell := rfl
@[simp] theorem State.onRoster_number (f : Roster → Roster) : (s.onRoster f).number = s.number := rfl
@[simp] theorem State.onRoster_fitted (f : Roster → Roster) : (s.onRoster f).fitted = s.fitted := rfl
@[simp] theorem State.onRoster_ownIndex (f : Roster → Roster) : (s.onRoster f).ownIndex = s.ownIndex := rfl

/-! ## `State.onRound` -/

@[simp] theorem State.onRound_now (f : Round → Round) : (s.onRound f).now = s.now := rfl
@[simp] theorem State.onRound_powered (f : Round → Round) : (s.onRound f).powered = s.powered := rfl
@[simp] theorem State.onRound_freeCount (f : Round → Round) : (s.onRound f).freeCount = s.freeCount := rfl
@[simp] theorem State.onRound_bus (f : Round → Round) : (s.onRound f).bus = s.bus := rfl
@[simp] theorem State.onRound_roster (f : Round → Round) : (s.onRound f).roster = s.roster := rfl
@[simp] theorem State.onRound_round (f : Round → Round) : (s.onRound f).round = f s.round := rfl
@[simp] theorem State.onRound_plan (f : Round → Round) : (s.onRound f).plan = s.plan := rfl
@[simp] theorem State.onRound_scanner (f : Round → Round) : (s.onRound f).scanner = s.scanner := rfl
@[simp] theorem State.onRound_store (f : Round → Round) : (s.onRound f).store = s.store := rfl
@[simp] theorem State.onRound_watch (f : Round → Round) : (s.onRound f).watch = s.watch := rfl
@[simp] theorem State.onRound_bypass (f : Round → Round) : (s.onRound f).bypass = s.bypass := rfl
@[simp] theorem State.onRound_catcher (f : Round → Round) : (s.onRound f).catcher = s.catcher := rfl
@[simp] theorem State.onRound_port (f : Round → Round) : (s.onRound f).port = s.port := rfl
@[simp] theorem State.onRound_pending (f : Round → Round) : (s.onRound f).pending = s.pending := rfl
@[simp] theorem State.onRound_runs (f : Round → Round) : (s.onRound f).runs = s.runs := rfl
@[simp] theorem State.onRound_params (f : Round → Round) : (s.onRound f).params = s.params := rfl
@[simp] theorem State.onRound_report (f : Round → Round) : (s.onRound f).report = s.report := rfl
@[simp] theorem State.onRound_quietTime (f : Round → Round) : (s.onRound f).quietTime = s.quietTime := rfl
@[simp] theorem State.onRound_isLine (f : Round → Round) : (s.onRound f).isLine = s.isLine := rfl
@[simp] theorem State.onRound_isCell (f : Round → Round) : (s.onRound f).isCell = s.isCell := rfl
@[simp] theorem State.onRound_number (f : Round → Round) : (s.onRound f).number = s.number := rfl
@[simp] theorem State.onRound_fitted (f : Round → Round) : (s.onRound f).fitted = s.fitted := rfl
@[simp] theorem State.onRound_ownIndex (f : Round → Round) : (s.onRound f).ownIndex = s.ownIndex := rfl

/-! ## `State.onPlan` -/

@[simp] theorem State.onPlan_now (f : PlanUnit → PlanUnit) : (s.onPlan f).now = s.now := rfl
@[simp] theorem State.onPlan_powered (f : PlanUnit → PlanUnit) : (s.onPlan f).powered = s.powered := rfl
@[simp] theorem State.onPlan_freeCount (f : PlanUnit → PlanUnit) : (s.onPlan f).freeCount = s.freeCount := rfl
@[simp] theorem State.onPlan_bus (f : PlanUnit → PlanUnit) : (s.onPlan f).bus = s.bus := rfl
@[simp] theorem State.onPlan_roster (f : PlanUnit → PlanUnit) : (s.onPlan f).roster = s.roster := rfl
@[simp] theorem State.onPlan_round (f : PlanUnit → PlanUnit) : (s.onPlan f).round = s.round := rfl
@[simp] theorem State.onPlan_plan (f : PlanUnit → PlanUnit) : (s.onPlan f).plan = f s.plan := rfl
@[simp] theorem State.onPlan_scanner (f : PlanUnit → PlanUnit) : (s.onPlan f).scanner = s.scanner := rfl
@[simp] theorem State.onPlan_store (f : PlanUnit → PlanUnit) : (s.onPlan f).store = s.store := rfl
@[simp] theorem State.onPlan_watch (f : PlanUnit → PlanUnit) : (s.onPlan f).watch = s.watch := rfl
@[simp] theorem State.onPlan_bypass (f : PlanUnit → PlanUnit) : (s.onPlan f).bypass = s.bypass := rfl
@[simp] theorem State.onPlan_catcher (f : PlanUnit → PlanUnit) : (s.onPlan f).catcher = s.catcher := rfl
@[simp] theorem State.onPlan_port (f : PlanUnit → PlanUnit) : (s.onPlan f).port = s.port := rfl
@[simp] theorem State.onPlan_pending (f : PlanUnit → PlanUnit) : (s.onPlan f).pending = s.pending := rfl
@[simp] theorem State.onPlan_runs (f : PlanUnit → PlanUnit) : (s.onPlan f).runs = s.runs := rfl
@[simp] theorem State.onPlan_params (f : PlanUnit → PlanUnit) : (s.onPlan f).params = s.params := rfl
@[simp] theorem State.onPlan_report (f : PlanUnit → PlanUnit) : (s.onPlan f).report = s.report := rfl
@[simp] theorem State.onPlan_quietTime (f : PlanUnit → PlanUnit) : (s.onPlan f).quietTime = s.quietTime := rfl
@[simp] theorem State.onPlan_isLine (f : PlanUnit → PlanUnit) : (s.onPlan f).isLine = s.isLine := rfl
@[simp] theorem State.onPlan_isCell (f : PlanUnit → PlanUnit) : (s.onPlan f).isCell = s.isCell := rfl
@[simp] theorem State.onPlan_number (f : PlanUnit → PlanUnit) : (s.onPlan f).number = s.number := rfl
@[simp] theorem State.onPlan_fitted (f : PlanUnit → PlanUnit) : (s.onPlan f).fitted = s.fitted := rfl
@[simp] theorem State.onPlan_ownIndex (f : PlanUnit → PlanUnit) : (s.onPlan f).ownIndex = s.ownIndex := rfl

/-! ## `State.onScanner` -/

@[simp] theorem State.onScanner_now (f : Scanner → Scanner) : (s.onScanner f).now = s.now := rfl
@[simp] theorem State.onScanner_powered (f : Scanner → Scanner) : (s.onScanner f).powered = s.powered := rfl
@[simp] theorem State.onScanner_freeCount (f : Scanner → Scanner) : (s.onScanner f).freeCount = s.freeCount := rfl
@[simp] theorem State.onScanner_bus (f : Scanner → Scanner) : (s.onScanner f).bus = s.bus := rfl
@[simp] theorem State.onScanner_roster (f : Scanner → Scanner) : (s.onScanner f).roster = s.roster := rfl
@[simp] theorem State.onScanner_round (f : Scanner → Scanner) : (s.onScanner f).round = s.round := rfl
@[simp] theorem State.onScanner_plan (f : Scanner → Scanner) : (s.onScanner f).plan = s.plan := rfl
@[simp] theorem State.onScanner_scanner (f : Scanner → Scanner) : (s.onScanner f).scanner = f s.scanner := rfl
@[simp] theorem State.onScanner_store (f : Scanner → Scanner) : (s.onScanner f).store = s.store := rfl
@[simp] theorem State.onScanner_watch (f : Scanner → Scanner) : (s.onScanner f).watch = s.watch := rfl
@[simp] theorem State.onScanner_bypass (f : Scanner → Scanner) : (s.onScanner f).bypass = s.bypass := rfl
@[simp] theorem State.onScanner_catcher (f : Scanner → Scanner) : (s.onScanner f).catcher = s.catcher := rfl
@[simp] theorem State.onScanner_port (f : Scanner → Scanner) : (s.onScanner f).port = s.port := rfl
@[simp] theorem State.onScanner_pending (f : Scanner → Scanner) : (s.onScanner f).pending = s.pending := rfl
@[simp] theorem State.onScanner_runs (f : Scanner → Scanner) : (s.onScanner f).runs = s.runs := rfl
@[simp] theorem State.onScanner_params (f : Scanner → Scanner) : (s.onScanner f).params = s.params := rfl
@[simp] theorem State.onScanner_report (f : Scanner → Scanner) : (s.onScanner f).report = s.report := rfl
@[simp] theorem State.onScanner_quietTime (f : Scanner → Scanner) : (s.onScanner f).quietTime = s.quietTime := rfl
@[simp] theorem State.onScanner_isLine (f : Scanner → Scanner) : (s.onScanner f).isLine = s.isLine := rfl
@[simp] theorem State.onScanner_isCell (f : Scanner → Scanner) : (s.onScanner f).isCell = s.isCell := rfl
@[simp] theorem State.onScanner_number (f : Scanner → Scanner) : (s.onScanner f).number = s.number := rfl
@[simp] theorem State.onScanner_fitted (f : Scanner → Scanner) : (s.onScanner f).fitted = s.fitted := rfl
@[simp] theorem State.onScanner_ownIndex (f : Scanner → Scanner) : (s.onScanner f).ownIndex = s.ownIndex := rfl

/-! ## `State.onStore` -/

@[simp] theorem State.onStore_now (f : Store → Store) : (s.onStore f).now = s.now := rfl
@[simp] theorem State.onStore_powered (f : Store → Store) : (s.onStore f).powered = s.powered := rfl
@[simp] theorem State.onStore_freeCount (f : Store → Store) : (s.onStore f).freeCount = s.freeCount := rfl
@[simp] theorem State.onStore_bus (f : Store → Store) : (s.onStore f).bus = s.bus := rfl
@[simp] theorem State.onStore_roster (f : Store → Store) : (s.onStore f).roster = s.roster := rfl
@[simp] theorem State.onStore_round (f : Store → Store) : (s.onStore f).round = s.round := rfl
@[simp] theorem State.onStore_plan (f : Store → Store) : (s.onStore f).plan = s.plan := rfl
@[simp] theorem State.onStore_scanner (f : Store → Store) : (s.onStore f).scanner = s.scanner := rfl
@[simp] theorem State.onStore_store (f : Store → Store) : (s.onStore f).store = f s.store := rfl
@[simp] theorem State.onStore_watch (f : Store → Store) : (s.onStore f).watch = s.watch := rfl
@[simp] theorem State.onStore_bypass (f : Store → Store) : (s.onStore f).bypass = s.bypass := rfl
@[simp] theorem State.onStore_catcher (f : Store → Store) : (s.onStore f).catcher = s.catcher := rfl
@[simp] theorem State.onStore_port (f : Store → Store) : (s.onStore f).port = s.port := rfl
@[simp] theorem State.onStore_pending (f : Store → Store) : (s.onStore f).pending = s.pending := rfl

/-! ## `State.onWatch` -/

@[simp] theorem State.onWatch_now (f : Watch → Watch) : (s.onWatch f).now = s.now := rfl
@[simp] theorem State.onWatch_powered (f : Watch → Watch) : (s.onWatch f).powered = s.powered := rfl
@[simp] theorem State.onWatch_freeCount (f : Watch → Watch) : (s.onWatch f).freeCount = s.freeCount := rfl
@[simp] theorem State.onWatch_bus (f : Watch → Watch) : (s.onWatch f).bus = s.bus := rfl
@[simp] theorem State.onWatch_roster (f : Watch → Watch) : (s.onWatch f).roster = s.roster := rfl
@[simp] theorem State.onWatch_round (f : Watch → Watch) : (s.onWatch f).round = s.round := rfl
@[simp] theorem State.onWatch_plan (f : Watch → Watch) : (s.onWatch f).plan = s.plan := rfl
@[simp] theorem State.onWatch_scanner (f : Watch → Watch) : (s.onWatch f).scanner = s.scanner := rfl
@[simp] theorem State.onWatch_store (f : Watch → Watch) : (s.onWatch f).store = s.store := rfl
@[simp] theorem State.onWatch_watch (f : Watch → Watch) : (s.onWatch f).watch = f s.watch := rfl
@[simp] theorem State.onWatch_bypass (f : Watch → Watch) : (s.onWatch f).bypass = s.bypass := rfl
@[simp] theorem State.onWatch_catcher (f : Watch → Watch) : (s.onWatch f).catcher = s.catcher := rfl
@[simp] theorem State.onWatch_port (f : Watch → Watch) : (s.onWatch f).port = s.port := rfl
@[simp] theorem State.onWatch_pending (f : Watch → Watch) : (s.onWatch f).pending = s.pending := rfl
@[simp] theorem State.onWatch_runs (f : Watch → Watch) : (s.onWatch f).runs = s.runs := rfl
@[simp] theorem State.onWatch_params (f : Watch → Watch) : (s.onWatch f).params = s.params := rfl
@[simp] theorem State.onWatch_report (f : Watch → Watch) : (s.onWatch f).report = s.report := rfl
@[simp] theorem State.onWatch_quietTime (f : Watch → Watch) : (s.onWatch f).quietTime = s.quietTime := rfl
@[simp] theorem State.onWatch_isLine (f : Watch → Watch) : (s.onWatch f).isLine = s.isLine := rfl
@[simp] theorem State.onWatch_isCell (f : Watch → Watch) : (s.onWatch f).isCell = s.isCell := rfl
@[simp] theorem State.onWatch_number (f : Watch → Watch) : (s.onWatch f).number = s.number := rfl
@[simp] theorem State.onWatch_fitted (f : Watch → Watch) : (s.onWatch f).fitted = s.fitted := rfl
@[simp] theorem State.onWatch_ownIndex (f : Watch → Watch) : (s.onWatch f).ownIndex = s.ownIndex := rfl

/-! ## `State.onBypass` -/

@[simp] theorem State.onBypass_now (f : Bypass → Bypass) : (s.onBypass f).now = s.now := rfl
@[simp] theorem State.onBypass_powered (f : Bypass → Bypass) : (s.onBypass f).powered = s.powered := rfl
@[simp] theorem State.onBypass_freeCount (f : Bypass → Bypass) : (s.onBypass f).freeCount = s.freeCount := rfl
@[simp] theorem State.onBypass_bus (f : Bypass → Bypass) : (s.onBypass f).bus = s.bus := rfl
@[simp] theorem State.onBypass_roster (f : Bypass → Bypass) : (s.onBypass f).roster = s.roster := rfl
@[simp] theorem State.onBypass_round (f : Bypass → Bypass) : (s.onBypass f).round = s.round := rfl
@[simp] theorem State.onBypass_plan (f : Bypass → Bypass) : (s.onBypass f).plan = s.plan := rfl
@[simp] theorem State.onBypass_scanner (f : Bypass → Bypass) : (s.onBypass f).scanner = s.scanner := rfl
@[simp] theorem State.onBypass_store (f : Bypass → Bypass) : (s.onBypass f).store = s.store := rfl
@[simp] theorem State.onBypass_watch (f : Bypass → Bypass) : (s.onBypass f).watch = s.watch := rfl
@[simp] theorem State.onBypass_bypass (f : Bypass → Bypass) : (s.onBypass f).bypass = f s.bypass := rfl
@[simp] theorem State.onBypass_catcher (f : Bypass → Bypass) : (s.onBypass f).catcher = s.catcher := rfl
@[simp] theorem State.onBypass_port (f : Bypass → Bypass) : (s.onBypass f).port = s.port := rfl
@[simp] theorem State.onBypass_pending (f : Bypass → Bypass) : (s.onBypass f).pending = s.pending := rfl
@[simp] theorem State.onBypass_runs (f : Bypass → Bypass) : (s.onBypass f).runs = s.runs := rfl
@[simp] theorem State.onBypass_params (f : Bypass → Bypass) : (s.onBypass f).params = s.params := rfl
@[simp] theorem State.onBypass_report (f : Bypass → Bypass) : (s.onBypass f).report = s.report := rfl
@[simp] theorem State.onBypass_quietTime (f : Bypass → Bypass) : (s.onBypass f).quietTime = s.quietTime := rfl
@[simp] theorem State.onBypass_isLine (f : Bypass → Bypass) : (s.onBypass f).isLine = s.isLine := rfl
@[simp] theorem State.onBypass_isCell (f : Bypass → Bypass) : (s.onBypass f).isCell = s.isCell := rfl
@[simp] theorem State.onBypass_number (f : Bypass → Bypass) : (s.onBypass f).number = s.number := rfl
@[simp] theorem State.onBypass_fitted (f : Bypass → Bypass) : (s.onBypass f).fitted = s.fitted := rfl
@[simp] theorem State.onBypass_ownIndex (f : Bypass → Bypass) : (s.onBypass f).ownIndex = s.ownIndex := rfl

/-! ## `State.onCatcher` -/

@[simp] theorem State.onCatcher_now (f : CatchUnit → CatchUnit) : (s.onCatcher f).now = s.now := rfl
@[simp] theorem State.onCatcher_powered (f : CatchUnit → CatchUnit) : (s.onCatcher f).powered = s.powered := rfl
@[simp] theorem State.onCatcher_freeCount (f : CatchUnit → CatchUnit) : (s.onCatcher f).freeCount = s.freeCount := rfl
@[simp] theorem State.onCatcher_bus (f : CatchUnit → CatchUnit) : (s.onCatcher f).bus = s.bus := rfl
@[simp] theorem State.onCatcher_roster (f : CatchUnit → CatchUnit) : (s.onCatcher f).roster = s.roster := rfl
@[simp] theorem State.onCatcher_round (f : CatchUnit → CatchUnit) : (s.onCatcher f).round = s.round := rfl
@[simp] theorem State.onCatcher_plan (f : CatchUnit → CatchUnit) : (s.onCatcher f).plan = s.plan := rfl
@[simp] theorem State.onCatcher_scanner (f : CatchUnit → CatchUnit) : (s.onCatcher f).scanner = s.scanner := rfl
@[simp] theorem State.onCatcher_store (f : CatchUnit → CatchUnit) : (s.onCatcher f).store = s.store := rfl
@[simp] theorem State.onCatcher_watch (f : CatchUnit → CatchUnit) : (s.onCatcher f).watch = s.watch := rfl
@[simp] theorem State.onCatcher_bypass (f : CatchUnit → CatchUnit) : (s.onCatcher f).bypass = s.bypass := rfl
@[simp] theorem State.onCatcher_catcher (f : CatchUnit → CatchUnit) : (s.onCatcher f).catcher = f s.catcher := rfl
@[simp] theorem State.onCatcher_port (f : CatchUnit → CatchUnit) : (s.onCatcher f).port = s.port := rfl
@[simp] theorem State.onCatcher_pending (f : CatchUnit → CatchUnit) : (s.onCatcher f).pending = s.pending := rfl
@[simp] theorem State.onCatcher_runs (f : CatchUnit → CatchUnit) : (s.onCatcher f).runs = s.runs := rfl
@[simp] theorem State.onCatcher_params (f : CatchUnit → CatchUnit) : (s.onCatcher f).params = s.params := rfl
@[simp] theorem State.onCatcher_report (f : CatchUnit → CatchUnit) : (s.onCatcher f).report = s.report := rfl
@[simp] theorem State.onCatcher_quietTime (f : CatchUnit → CatchUnit) : (s.onCatcher f).quietTime = s.quietTime := rfl
@[simp] theorem State.onCatcher_isLine (f : CatchUnit → CatchUnit) : (s.onCatcher f).isLine = s.isLine := rfl
@[simp] theorem State.onCatcher_isCell (f : CatchUnit → CatchUnit) : (s.onCatcher f).isCell = s.isCell := rfl
@[simp] theorem State.onCatcher_number (f : CatchUnit → CatchUnit) : (s.onCatcher f).number = s.number := rfl
@[simp] theorem State.onCatcher_fitted (f : CatchUnit → CatchUnit) : (s.onCatcher f).fitted = s.fitted := rfl
@[simp] theorem State.onCatcher_ownIndex (f : CatchUnit → CatchUnit) : (s.onCatcher f).ownIndex = s.ownIndex := rfl

/-! ## `State.onPort` -/

@[simp] theorem State.onPort_now (f : Port → Port) : (s.onPort f).now = s.now := rfl
@[simp] theorem State.onPort_powered (f : Port → Port) : (s.onPort f).powered = s.powered := rfl
@[simp] theorem State.onPort_freeCount (f : Port → Port) : (s.onPort f).freeCount = s.freeCount := rfl
@[simp] theorem State.onPort_bus (f : Port → Port) : (s.onPort f).bus = s.bus := rfl
@[simp] theorem State.onPort_roster (f : Port → Port) : (s.onPort f).roster = s.roster := rfl
@[simp] theorem State.onPort_round (f : Port → Port) : (s.onPort f).round = s.round := rfl
@[simp] theorem State.onPort_plan (f : Port → Port) : (s.onPort f).plan = s.plan := rfl
@[simp] theorem State.onPort_scanner (f : Port → Port) : (s.onPort f).scanner = s.scanner := rfl
@[simp] theorem State.onPort_store (f : Port → Port) : (s.onPort f).store = s.store := rfl
@[simp] theorem State.onPort_watch (f : Port → Port) : (s.onPort f).watch = s.watch := rfl
@[simp] theorem State.onPort_bypass (f : Port → Port) : (s.onPort f).bypass = s.bypass := rfl
@[simp] theorem State.onPort_catcher (f : Port → Port) : (s.onPort f).catcher = s.catcher := rfl
@[simp] theorem State.onPort_port (f : Port → Port) : (s.onPort f).port = f s.port := rfl
@[simp] theorem State.onPort_pending (f : Port → Port) : (s.onPort f).pending = s.pending := rfl
@[simp] theorem State.onPort_runs (f : Port → Port) : (s.onPort f).runs = s.runs := rfl
@[simp] theorem State.onPort_params (f : Port → Port) : (s.onPort f).params = s.params := rfl
@[simp] theorem State.onPort_report (f : Port → Port) : (s.onPort f).report = s.report := rfl
@[simp] theorem State.onPort_quietTime (f : Port → Port) : (s.onPort f).quietTime = s.quietTime := rfl
@[simp] theorem State.onPort_isLine (f : Port → Port) : (s.onPort f).isLine = s.isLine := rfl
@[simp] theorem State.onPort_isCell (f : Port → Port) : (s.onPort f).isCell = s.isCell := rfl
@[simp] theorem State.onPort_number (f : Port → Port) : (s.onPort f).number = s.number := rfl
@[simp] theorem State.onPort_fitted (f : Port → Port) : (s.onPort f).fitted = s.fitted := rfl
@[simp] theorem State.onPort_ownIndex (f : Port → Port) : (s.onPort f).ownIndex = s.ownIndex := rfl

/-! ## `State.advance` -/

@[simp] theorem State.advance_now (t : Time) : (s.advance t).now = max s.now t := rfl
@[simp] theorem State.advance_powered (t : Time) : (s.advance t).powered = s.powered := rfl
@[simp] theorem State.advance_freeCount (t : Time) : (s.advance t).freeCount = s.freeCount := rfl
@[simp] theorem State.advance_bus_queue (t : Time) : (s.advance t).bus.queue = s.bus.queue := rfl
@[simp] theorem State.advance_bus_attempt (t : Time) : (s.advance t).bus.attempt = s.bus.attempt := rfl
@[simp] theorem State.advance_bus_quietStart (t : Time) : (s.advance t).bus.quietStart = s.bus.quietStart := rfl
@[simp] theorem State.advance_bus_echoMisses (t : Time) : (s.advance t).bus.echoMisses = s.bus.echoMisses := rfl
@[simp] theorem State.advance_bus_duplicate (t : Time) : (s.advance t).bus.duplicate = s.bus.duplicate := rfl
@[simp] theorem State.advance_bus_isoClock (t : Time) : (s.advance t).bus.isoClock = s.bus.isoClock := rfl
@[simp] theorem State.advance_bus_nextTick (t : Time) : (s.advance t).bus.nextTick = s.bus.nextTick := rfl
@[simp] theorem State.advance_bus_resetAt (t : Time) : (s.advance t).bus.resetAt = s.bus.resetAt := rfl
theorem State.advance_bus_heard (t : Time) :
    (s.advance t).bus.heard = s.bus.heard.map (HeardEntry.aged (max s.now t) s.report s.quietTime) := rfl
@[simp] theorem State.advance_roster (t : Time) : (s.advance t).roster = s.roster := rfl
@[simp] theorem State.advance_round (t : Time) : (s.advance t).round = s.round := rfl
@[simp] theorem State.advance_plan (t : Time) : (s.advance t).plan = s.plan := rfl
@[simp] theorem State.advance_scanner (t : Time) : (s.advance t).scanner = s.scanner := rfl
@[simp] theorem State.advance_store (t : Time) : (s.advance t).store = s.store := rfl
@[simp] theorem State.advance_watch (t : Time) : (s.advance t).watch = s.watch := rfl
@[simp] theorem State.advance_bypass (t : Time) : (s.advance t).bypass = s.bypass := rfl
@[simp] theorem State.advance_catcher (t : Time) : (s.advance t).catcher = s.catcher := rfl
@[simp] theorem State.advance_port (t : Time) : (s.advance t).port = s.port := rfl
@[simp] theorem State.advance_pending (t : Time) : (s.advance t).pending = s.pending := rfl
@[simp] theorem State.advance_runs (t : Time) : (s.advance t).runs = s.runs := rfl
@[simp] theorem State.advance_params (t : Time) : (s.advance t).params = s.params := rfl
@[simp] theorem State.advance_report (t : Time) : (s.advance t).report = s.report := rfl
@[simp] theorem State.advance_quietTime (t : Time) : (s.advance t).quietTime = s.quietTime := rfl
@[simp] theorem State.advance_isLine (t : Time) : (s.advance t).isLine = s.isLine := rfl
@[simp] theorem State.advance_isCell (t : Time) : (s.advance t).isCell = s.isCell := rfl
@[simp] theorem State.advance_number (t : Time) : (s.advance t).number = s.number := rfl
@[simp] theorem State.advance_fitted (t : Time) : (s.advance t).fitted = s.fitted := rfl
@[simp] theorem State.advance_ownIndex (t : Time) : (s.advance t).ownIndex = s.ownIndex := rfl

/-! ## `State.when` -/

@[simp] theorem State.when_true (f : State → State) : s.when true f = f s := rfl
@[simp] theorem State.when_false (f : State → State) : s.when false f = s := rfl

@[simp] theorem State.when_now (c : Bool) (f : State → State) : (s.when c f).now = if c then (f s).now else s.now := by
  cases c <;> rfl
@[simp] theorem State.when_powered (c : Bool) (f : State → State) : (s.when c f).powered = if c then (f s).powered else s.powered := by
  cases c <;> rfl
@[simp] theorem State.when_freeCount (c : Bool) (f : State → State) : (s.when c f).freeCount = if c then (f s).freeCount else s.freeCount := by
  cases c <;> rfl
@[simp] theorem State.when_bus (c : Bool) (f : State → State) : (s.when c f).bus = if c then (f s).bus else s.bus := by
  cases c <;> rfl
@[simp] theorem State.when_roster (c : Bool) (f : State → State) : (s.when c f).roster = if c then (f s).roster else s.roster := by
  cases c <;> rfl
@[simp] theorem State.when_round (c : Bool) (f : State → State) : (s.when c f).round = if c then (f s).round else s.round := by
  cases c <;> rfl
@[simp] theorem State.when_plan (c : Bool) (f : State → State) : (s.when c f).plan = if c then (f s).plan else s.plan := by
  cases c <;> rfl
@[simp] theorem State.when_scanner (c : Bool) (f : State → State) : (s.when c f).scanner = if c then (f s).scanner else s.scanner := by
  cases c <;> rfl
@[simp] theorem State.when_store (c : Bool) (f : State → State) : (s.when c f).store = if c then (f s).store else s.store := by
  cases c <;> rfl
@[simp] theorem State.when_watch (c : Bool) (f : State → State) : (s.when c f).watch = if c then (f s).watch else s.watch := by
  cases c <;> rfl
@[simp] theorem State.when_bypass (c : Bool) (f : State → State) : (s.when c f).bypass = if c then (f s).bypass else s.bypass := by
  cases c <;> rfl
@[simp] theorem State.when_catcher (c : Bool) (f : State → State) : (s.when c f).catcher = if c then (f s).catcher else s.catcher := by
  cases c <;> rfl
@[simp] theorem State.when_port (c : Bool) (f : State → State) : (s.when c f).port = if c then (f s).port else s.port := by
  cases c <;> rfl
@[simp] theorem State.when_pending (c : Bool) (f : State → State) : (s.when c f).pending = if c then (f s).pending else s.pending := by
  cases c <;> rfl

/-! ## Fields of a block chosen by a condition -/

@[simp] theorem Bif.ite_heard (c : Prop) [Decidable c] (a b : Bif) : (if c then a else b).heard = if c then a.heard else b.heard := by
  split <;> rfl
@[simp] theorem Bif.ite_nextTick (c : Prop) [Decidable c] (a b : Bif) : (if c then a else b).nextTick = if c then a.nextTick else b.nextTick := by
  split <;> rfl
@[simp] theorem Bif.ite_resetAt (c : Prop) [Decidable c] (a b : Bif) : (if c then a else b).resetAt = if c then a.resetAt else b.resetAt := by
  split <;> rfl
@[simp] theorem Bif.ite_duplicate (c : Prop) [Decidable c] (a b : Bif) : (if c then a else b).duplicate = if c then a.duplicate else b.duplicate := by
  split <;> rfl
@[simp] theorem Port.ite_lastMark (c : Prop) [Decidable c] (a b : Port) : (if c then a else b).lastMark = if c then a.lastMark else b.lastMark := by
  split <;> rfl
@[simp] theorem Port.ite_status (c : Prop) [Decidable c] (a b : Port) : (if c then a else b).status = if c then a.status else b.status := by
  split <;> rfl
@[simp] theorem Port.ite_faultCount (c : Prop) [Decidable c] (a b : Port) : (if c then a else b).faultCount = if c then a.faultCount else b.faultCount := by
  split <;> rfl
@[simp] theorem Roster.ite_entries (c : Prop) [Decidable c] (a b : Roster) : (if c then a else b).entries = if c then a.entries else b.entries := by
  split <;> rfl
@[simp] theorem length_ite {α : Type} (c : Prop) [Decidable c] (a b : List α) :
    (if c then a else b).length = if c then a.length else b.length := by
  split <;> rfl

/-- What holds with and without a change holds of the change made on a condition. -/
theorem State.when_induct {P : State → Prop} (c : Bool) (f : State → State) (h : P s) (hf : c = true → P (f s)) :
    P (s.when c f) := by
  cases c
  · exact h
  · exact hf rfl

/-- What a list of changes keeps, one after the other. -/
theorem State.foldl_keeps {α β : Type} (p : State → α) (f : State → β → State) (h : ∀ s b, p (f s b) = p s) (l : List β) :
    p (l.foldl f s) = p s := by
  induction l generalizing s with
  | nil => rfl
  | cons b l ih => rw [List.foldl_cons, ih, h]

end Sys2Proof.Machine
end

