-- ==== Sys2Proof/Laws/Frame.lean ====
section
/-! SUPPORT. The frame of every shared operation: for each, the fields of the state it never writes. -/

namespace Sys2Proof.Machine

/-- R17, R23: a merge keeps the number of entries. -/
theorem mergeFrom_length (own : Option Nat) (now : Time) (rs hs : List RosterEntry) (i : Nat) :
    (mergeFrom own now i rs hs).entries.length = hs.length := by
  induction rs generalizing hs i with
  | nil => cases hs <;> simp [mergeFrom]
  | cons r rs ih =>
    cases hs with
    | nil => simp [mergeFrom]
    | cons h hs => simp [mergeFrom, ih]

/-- An entry to a phase keeps the roster's entries. -/
@[simp] theorem Roster.onEntry_entries (p : Phase) (r : Roster) : (r.onEntry p).entries = r.entries := by
  dsimp only [Roster.onEntry]; split <;> rfl

/-- An entry to a phase keeps the heard table, the tick and the duplicate flag. -/
@[simp] theorem Bif.onEntry_frame (now : Time) (p : Phase) (u : Bif) :
    (u.onEntry now p).heard = u.heard ∧ (u.onEntry now p).nextTick = u.nextTick ∧
    (u.onEntry now p).resetAt = u.resetAt ∧ (u.onEntry now p).duplicate = u.duplicate ∧
    (u.onEntry now p).queue = u.queue ∧ (u.onEntry now p).attempt = u.attempt := ⟨rfl, rfl, rfl, rfl, rfl, rfl⟩

/-- A frame heard keeps the tick, the duplicate flag, the queue and the attempt. -/
@[simp] theorem Bif.hear_frame (now : Time) (f : Frame) (u : Bif) :
    (u.hear now f).nextTick = u.nextTick ∧ (u.hear now f).resetAt = u.resetAt ∧ (u.hear now f).duplicate = u.duplicate ∧
    (u.hear now f).queue = u.queue ∧ (u.hear now f).attempt = u.attempt := ⟨rfl, rfl, rfl, rfl, rfl⟩

/-- The renewal of the samples keeps everything else of the Line Port. -/
@[simp] theorem Port.renewSamples_frame (now : Time) (p : Port) :
    (p.renewSamples now).lastMark = p.lastMark ∧ (p.renewSamples now).status = p.status ∧
    (p.renewSamples now).faultCount = p.faultCount ∧ (p.renewSamples now).record = p.record ∧
    (p.renewSamples now).presented = p.presented ∧ (p.renewSamples now).switchPending = p.switchPending :=
  ⟨rfl, rfl, rfl, rfl, rfl, rfl⟩

/-- A sample replaced keeps everything else of the Line Port. -/
@[simp] theorem Port.setSample_frame (i : LineInput) (x : Sample) (p : Port) :
    (p.setSample i x).lastMark = p.lastMark ∧ (p.setSample i x).status = p.status ∧
    (p.setSample i x).faultCount = p.faultCount ∧ (p.setSample i x).record = p.record ∧
    (p.setSample i x).presented = p.presented ∧ (p.setSample i x).switchPending = p.switchPending := by
  cases i <;> exact ⟨rfl, rfl, rfl, rfl, rfl, rfl⟩

@[simp] theorem State.enqueue_frame (b : QBody) (s : State) :
    (State.enqueue b s).now = s.now ∧ (State.enqueue b s).powered = s.powered ∧
    (State.enqueue b s).freeCount = s.freeCount ∧ (State.enqueue b s).roster = s.roster ∧
    (State.enqueue b s).round = s.round ∧ (State.enqueue b s).plan = s.plan ∧
    (State.enqueue b s).scanner = s.scanner ∧ (State.enqueue b s).store = s.store ∧
    (State.enqueue b s).watch = s.watch ∧ (State.enqueue b s).bypass = s.bypass ∧
    (State.enqueue b s).catcher = s.catcher ∧ (State.enqueue b s).port = s.port ∧
    (State.enqueue b s).pending = s.pending ∧ (State.enqueue b s).bus.heard = s.bus.heard ∧
    (State.enqueue b s).bus.nextTick = s.bus.nextTick ∧ (State.enqueue b s).bus.resetAt = s.bus.resetAt ∧
    (State.enqueue b s).bus.duplicate = s.bus.duplicate := by
  dsimp only [State.enqueue]; repeat' split
  all_goals simp

@[simp] theorem State.queueState_frame (s : State) :
    (State.queueState s).now = s.now ∧ (State.queueState s).powered = s.powered ∧
    (State.queueState s).freeCount = s.freeCount ∧ (State.queueState s).roster = s.roster ∧
    (State.queueState s).round = s.round ∧ (State.queueState s).plan = s.plan ∧
    (State.queueState s).scanner = s.scanner ∧ (State.queueState s).store = s.store ∧
    (State.queueState s).watch = s.watch ∧ (State.queueState s).bypass = s.bypass ∧
    (State.queueState s).catcher = s.catcher ∧ (State.queueState s).port = s.port ∧
    (State.queueState s).pending = s.pending ∧ (State.queueState s).bus.heard = s.bus.heard ∧
    (State.queueState s).bus.nextTick = s.bus.nextTick ∧ (State.queueState s).bus.resetAt = s.bus.resetAt ∧
    (State.queueState s).bus.duplicate = s.bus.duplicate := by
  dsimp only [State.queueState]
  simp

@[simp] theorem State.queueSummary_frame (s : State) :
    (State.queueSummary s).now = s.now ∧ (State.queueSummary s).powered = s.powered ∧
    (State.queueSummary s).freeCount = s.freeCount ∧ (State.queueSummary s).round = s.round ∧
    (State.queueSummary s).plan = s.plan ∧ (State.queueSummary s).scanner = s.scanner ∧
    (State.queueSummary s).store = s.store ∧ (State.queueSummary s).watch = s.watch ∧
    (State.queueSummary s).bypass = s.bypass ∧ (State.queueSummary s).catcher = s.catcher ∧
    (State.queueSummary s).port = s.port ∧ (State.queueSummary s).pending = s.pending ∧
    (State.queueSummary s).bus.heard = s.bus.heard ∧ (State.queueSummary s).bus.nextTick = s.bus.nextTick ∧
    (State.queueSummary s).bus.resetAt = s.bus.resetAt ∧ (State.queueSummary s).bus.duplicate = s.bus.duplicate ∧
    (State.queueSummary s).roster.entries.length = s.roster.entries.length := by
  dsimp only [State.queueSummary]; repeat' split
  all_goals simp

@[simp] theorem State.emptyQueue_frame (s : State) :
    (State.emptyQueue s).now = s.now ∧ (State.emptyQueue s).powered = s.powered ∧
    (State.emptyQueue s).freeCount = s.freeCount ∧ (State.emptyQueue s).roster = s.roster ∧
    (State.emptyQueue s).round = s.round ∧ (State.emptyQueue s).plan = s.plan ∧
    (State.emptyQueue s).scanner = s.scanner ∧ (State.emptyQueue s).store = s.store ∧
    (State.emptyQueue s).watch = s.watch ∧ (State.emptyQueue s).bypass = s.bypass ∧
    (State.emptyQueue s).catcher = s.catcher ∧ (State.emptyQueue s).port = s.port ∧
    (State.emptyQueue s).pending = s.pending ∧ (State.emptyQueue s).bus.heard = s.bus.heard ∧
    (State.emptyQueue s).bus.nextTick = s.bus.nextTick ∧ (State.emptyQueue s).bus.resetAt = s.bus.resetAt ∧
    (State.emptyQueue s).bus.duplicate = s.bus.duplicate := by
  simp [State.emptyQueue, Bif.emptied]

@[simp] theorem State.withdrawSteps_frame (s : State) :
    (State.withdrawSteps s).now = s.now ∧ (State.withdrawSteps s).powered = s.powered ∧
    (State.withdrawSteps s).freeCount = s.freeCount ∧ (State.withdrawSteps s).roster = s.roster ∧
    (State.withdrawSteps s).round = s.round ∧ (State.withdrawSteps s).plan = s.plan ∧
    (State.withdrawSteps s).scanner = s.scanner ∧ (State.withdrawSteps s).store = s.store ∧
    (State.withdrawSteps s).watch = s.watch ∧ (State.withdrawSteps s).bypass = s.bypass ∧
    (State.withdrawSteps s).catcher = s.catcher ∧ (State.withdrawSteps s).port = s.port ∧
    (State.withdrawSteps s).pending = s.pending ∧ (State.withdrawSteps s).bus.heard = s.bus.heard ∧
    (State.withdrawSteps s).bus.nextTick = s.bus.nextTick ∧ (State.withdrawSteps s).bus.resetAt = s.bus.resetAt ∧
    (State.withdrawSteps s).bus.duplicate = s.bus.duplicate := by
  dsimp only [State.withdrawSteps]
  simp

@[simp] theorem State.changeRecord_frame (f : Port → Port) (s : State) :
    (State.changeRecord f s).now = s.now ∧ (State.changeRecord f s).powered = s.powered ∧
    (State.changeRecord f s).freeCount = s.freeCount ∧ (State.changeRecord f s).bus = s.bus ∧
    (State.changeRecord f s).roster = s.roster ∧ (State.changeRecord f s).round = s.round ∧
    (State.changeRecord f s).plan = s.plan ∧ (State.changeRecord f s).scanner = s.scanner ∧
    (State.changeRecord f s).store = s.store ∧ (State.changeRecord f s).watch = s.watch ∧
    (State.changeRecord f s).bypass = s.bypass ∧ (State.changeRecord f s).catcher = s.catcher ∧
    (State.changeRecord f s).pending = s.pending := by
  dsimp only [State.changeRecord]
  simp

@[simp] theorem State.clearRecord_frame (s : State) :
    (State.clearRecord s).now = s.now ∧ (State.clearRecord s).powered = s.powered ∧
    (State.clearRecord s).freeCount = s.freeCount ∧ (State.clearRecord s).bus = s.bus ∧
    (State.clearRecord s).roster = s.roster ∧ (State.clearRecord s).round = s.round ∧
    (State.clearRecord s).plan = s.plan ∧ (State.clearRecord s).scanner = s.scanner ∧
    (State.clearRecord s).store = s.store ∧ (State.clearRecord s).watch = s.watch ∧
    (State.clearRecord s).bypass = s.bypass ∧ (State.clearRecord s).catcher = s.catcher ∧
    (State.clearRecord s).pending = s.pending ∧ (State.clearRecord s).port.lastMark = s.port.lastMark ∧
    (State.clearRecord s).port.status = s.port.status ∧ (State.clearRecord s).port.faultCount = s.port.faultCount := by
  simp [State.clearRecord, State.changeRecord, apply_ite Port.lastMark, apply_ite Port.status, apply_ite Port.faultCount]

@[simp] theorem State.buildRecord_frame (p : Plan) (s : State) :
    (State.buildRecord p s).now = s.now ∧ (State.buildRecord p s).powered = s.powered ∧
    (State.buildRecord p s).freeCount = s.freeCount ∧ (State.buildRecord p s).bus = s.bus ∧
    (State.buildRecord p s).roster = s.roster ∧ (State.buildRecord p s).round = s.round ∧
    (State.buildRecord p s).plan = s.plan ∧ (State.buildRecord p s).scanner = s.scanner ∧
    (State.buildRecord p s).store = s.store ∧ (State.buildRecord p s).watch = s.watch ∧
    (State.buildRecord p s).bypass = s.bypass ∧ (State.buildRecord p s).catcher = s.catcher ∧
    (State.buildRecord p s).pending = s.pending ∧ (State.buildRecord p s).port.lastMark = s.port.lastMark ∧
    (State.buildRecord p s).port.status = s.port.status ∧ (State.buildRecord p s).port.faultCount = s.port.faultCount := by
  simp [State.buildRecord, State.changeRecord, apply_ite Port.lastMark, apply_ite Port.status, apply_ite Port.faultCount]

@[simp] theorem State.presentRecord_frame (p : Plan) (s : State) :
    (State.presentRecord p s).now = s.now ∧ (State.presentRecord p s).powered = s.powered ∧
    (State.presentRecord p s).freeCount = s.freeCount ∧ (State.presentRecord p s).bus = s.bus ∧
    (State.presentRecord p s).roster = s.roster ∧ (State.presentRecord p s).round = s.round ∧
    (State.presentRecord p s).plan = s.plan ∧ (State.presentRecord p s).scanner = s.scanner ∧
    (State.presentRecord p s).store = s.store ∧ (State.presentRecord p s).watch = s.watch ∧
    (State.presentRecord p s).bypass = s.bypass ∧ (State.presentRecord p s).catcher = s.catcher ∧
    (State.presentRecord p s).pending = s.pending ∧ (State.presentRecord p s).port.lastMark = s.port.lastMark ∧
    (State.presentRecord p s).port.status = s.port.status ∧
    (State.presentRecord p s).port.faultCount = s.port.faultCount := by
  simp [State.presentRecord, State.changeRecord, apply_ite Port.lastMark, apply_ite Port.status, apply_ite Port.faultCount]

@[simp] theorem State.withdrawSwitch_frame (s : State) :
    (State.withdrawSwitch s).now = s.now ∧ (State.withdrawSwitch s).powered = s.powered ∧
    (State.withdrawSwitch s).freeCount = s.freeCount ∧ (State.withdrawSwitch s).bus = s.bus ∧
    (State.withdrawSwitch s).roster = s.roster ∧ (State.withdrawSwitch s).round = s.round ∧
    (State.withdrawSwitch s).plan = s.plan ∧ (State.withdrawSwitch s).scanner = s.scanner ∧
    (State.withdrawSwitch s).store = s.store ∧ (State.withdrawSwitch s).watch = s.watch ∧
    (State.withdrawSwitch s).bypass = s.bypass ∧ (State.withdrawSwitch s).catcher = s.catcher ∧
    (State.withdrawSwitch s).pending = s.pending ∧ (State.withdrawSwitch s).port.lastMark = s.port.lastMark ∧
    (State.withdrawSwitch s).port.status = s.port.status ∧
    (State.withdrawSwitch s).port.faultCount = s.port.faultCount := by
  simp [State.withdrawSwitch, State.changeRecord, apply_ite Port.lastMark, apply_ite Port.status, apply_ite Port.faultCount]

@[simp] theorem State.switchRecords_frame (p : Plan) (s : State) :
    (State.switchRecords p s).now = s.now ∧ (State.switchRecords p s).powered = s.powered ∧
    (State.switchRecords p s).freeCount = s.freeCount ∧ (State.switchRecords p s).bus = s.bus ∧
    (State.switchRecords p s).roster = s.roster ∧ (State.switchRecords p s).round = s.round ∧
    (State.switchRecords p s).plan = s.plan ∧ (State.switchRecords p s).scanner = s.scanner ∧
    (State.switchRecords p s).store = s.store ∧ (State.switchRecords p s).watch = s.watch ∧
    (State.switchRecords p s).bypass = s.bypass ∧ (State.switchRecords p s).catcher = s.catcher ∧
    (State.switchRecords p s).pending = s.pending ∧ (State.switchRecords p s).port.lastMark = s.port.lastMark ∧
    (State.switchRecords p s).port.status = s.port.status ∧
    (State.switchRecords p s).port.faultCount = s.port.faultCount := by
  simp [State.switchRecords, State.changeRecord, apply_ite Port.lastMark, apply_ite Port.status, apply_ite Port.faultCount]

@[simp] theorem State.endCatch_frame (o : CatchOutcome) (f : Int) (angle : Option Half) (t : Time) (s : State) :
    (State.endCatch o f angle t s).now = s.now ∧ (State.endCatch o f angle t s).powered = s.powered ∧
    (State.endCatch o f angle t s).freeCount = s.freeCount ∧ (State.endCatch o f angle t s).bus = s.bus ∧
    (State.endCatch o f angle t s).roster = s.roster ∧ (State.endCatch o f angle t s).round = s.round ∧
    (State.endCatch o f angle t s).plan = s.plan ∧ (State.endCatch o f angle t s).store = s.store ∧
    (State.endCatch o f angle t s).watch = s.watch ∧ (State.endCatch o f angle t s).bypass = s.bypass ∧
    (State.endCatch o f angle t s).port = s.port ∧ (State.endCatch o f angle t s).pending = s.pending := by
  dsimp only [State.endCatch]
  simp

@[simp] theorem State.abandonCatch_frame (s : State) :
    (State.abandonCatch s).now = s.now ∧ (State.abandonCatch s).powered = s.powered ∧
    (State.abandonCatch s).freeCount = s.freeCount ∧ (State.abandonCatch s).bus = s.bus ∧
    (State.abandonCatch s).roster = s.roster ∧ (State.abandonCatch s).round = s.round ∧
    (State.abandonCatch s).plan = s.plan ∧ (State.abandonCatch s).store = s.store ∧
    (State.abandonCatch s).watch = s.watch ∧ (State.abandonCatch s).bypass = s.bypass ∧
    (State.abandonCatch s).port = s.port ∧ (State.abandonCatch s).pending = s.pending := by
  dsimp only [State.abandonCatch]
  simp

@[simp] theorem State.setExpired_frame (s : State) :
    (State.setExpired s).now = s.now ∧ (State.setExpired s).powered = s.powered ∧
    (State.setExpired s).freeCount = s.freeCount ∧ (State.setExpired s).bus = s.bus ∧
    (State.setExpired s).roster = s.roster ∧ (State.setExpired s).round = s.round ∧
    (State.setExpired s).plan = s.plan ∧ (State.setExpired s).store = s.store ∧ (State.setExpired s).watch = s.watch ∧
    (State.setExpired s).bypass = s.bypass ∧ (State.setExpired s).port = s.port ∧
    (State.setExpired s).pending = s.pending := by
  dsimp only [State.setExpired]; repeat' split
  all_goals simp

@[simp] theorem State.overdueExpiry_frame (s : State) :
    (State.overdueExpiry s).now = s.now ∧ (State.overdueExpiry s).powered = s.powered ∧
    (State.overdueExpiry s).freeCount = s.freeCount ∧ (State.overdueExpiry s).bus = s.bus ∧
    (State.overdueExpiry s).roster = s.roster ∧ (State.overdueExpiry s).round = s.round ∧
    (State.overdueExpiry s).plan = s.plan ∧ (State.overdueExpiry s).store = s.store ∧
    (State.overdueExpiry s).watch = s.watch ∧ (State.overdueExpiry s).bypass = s.bypass ∧
    (State.overdueExpiry s).port = s.port ∧ (State.overdueExpiry s).pending = s.pending := by
  dsimp only [State.overdueExpiry]
  simp

@[simp] theorem State.saveContext_frame (s : State) :
    (State.saveContext s).now = s.now ∧ (State.saveContext s).powered = s.powered ∧
    (State.saveContext s).freeCount = s.freeCount ∧ (State.saveContext s).bus = s.bus ∧
    (State.saveContext s).roster = s.roster ∧ (State.saveContext s).round = s.round ∧
    (State.saveContext s).plan = s.plan ∧ (State.saveContext s).store = s.store ∧
    (State.saveContext s).watch = s.watch ∧ (State.saveContext s).bypass = s.bypass ∧
    (State.saveContext s).pending = s.pending ∧ (State.saveContext s).port.lastMark = s.port.lastMark ∧
    (State.saveContext s).port.status = s.port.status ∧ (State.saveContext s).port.faultCount = s.port.faultCount := by
  dsimp only [State.saveContext]
  simp

@[simp] theorem State.startCatch_frame (s : State) :
    (State.startCatch s).now = s.now ∧ (State.startCatch s).powered = s.powered ∧
    (State.startCatch s).freeCount = s.freeCount ∧ (State.startCatch s).bus = s.bus ∧
    (State.startCatch s).roster = s.roster ∧ (State.startCatch s).round = s.round ∧
    (State.startCatch s).plan = s.plan ∧ (State.startCatch s).store = s.store ∧ (State.startCatch s).watch = s.watch ∧
    (State.startCatch s).bypass = s.bypass ∧ (State.startCatch s).port = s.port ∧
    (State.startCatch s).pending = s.pending := by
  dsimp only [State.startCatch]; repeat' split
  all_goals simp

@[simp] theorem State.checkCatch_frame (p : Nat) (forward : Bool) (t3 : Time) (s : State) :
    (State.checkCatch p forward t3 s).now = s.now ∧ (State.checkCatch p forward t3 s).powered = s.powered ∧
    (State.checkCatch p forward t3 s).freeCount = s.freeCount ∧ (State.checkCatch p forward t3 s).bus = s.bus ∧
    (State.checkCatch p forward t3 s).roster = s.roster ∧ (State.checkCatch p forward t3 s).round = s.round ∧
    (State.checkCatch p forward t3 s).plan = s.plan ∧ (State.checkCatch p forward t3 s).store = s.store ∧
    (State.checkCatch p forward t3 s).watch = s.watch ∧ (State.checkCatch p forward t3 s).bypass = s.bypass ∧
    (State.checkCatch p forward t3 s).port = s.port ∧ (State.checkCatch p forward t3 s).pending = s.pending := by
  dsimp only [State.checkCatch]; repeat' split
  all_goals simp

@[simp] theorem State.dropOldest_frame (s : State) :
    (State.dropOldest s).now = s.now ∧ (State.dropOldest s).powered = s.powered ∧
    (State.dropOldest s).freeCount = s.freeCount ∧ (State.dropOldest s).bus = s.bus ∧
    (State.dropOldest s).roster = s.roster ∧ (State.dropOldest s).round = s.round ∧
    (State.dropOldest s).plan = s.plan ∧ (State.dropOldest s).scanner = s.scanner ∧
    (State.dropOldest s).store = s.store ∧ (State.dropOldest s).watch = s.watch ∧
    (State.dropOldest s).bypass = s.bypass ∧ (State.dropOldest s).port = s.port ∧
    (State.dropOldest s).pending = s.pending := by
  dsimp only [State.dropOldest]
  simp

@[simp] theorem State.evaluateCatch_frame (s : State) :
    (State.evaluateCatch s).now = s.now ∧ (State.evaluateCatch s).powered = s.powered ∧
    (State.evaluateCatch s).bus = s.bus ∧ (State.evaluateCatch s).roster = s.roster ∧
    (State.evaluateCatch s).round = s.round ∧ (State.evaluateCatch s).plan = s.plan ∧
    (State.evaluateCatch s).store = s.store ∧ (State.evaluateCatch s).watch = s.watch ∧
    (State.evaluateCatch s).bypass = s.bypass ∧ (State.evaluateCatch s).port = s.port ∧
    (State.evaluateCatch s).pending = s.pending := by
  dsimp only [State.evaluateCatch]; repeat' split
  all_goals simp

@[simp] theorem State.overrunSample_frame (ch : Nat) (x : Int) (s : State) :
    (State.overrunSample ch x s).now = s.now ∧ (State.overrunSample ch x s).powered = s.powered ∧
    (State.overrunSample ch x s).freeCount = s.freeCount ∧ (State.overrunSample ch x s).bus = s.bus ∧
    (State.overrunSample ch x s).roster = s.roster ∧ (State.overrunSample ch x s).round = s.round ∧
    (State.overrunSample ch x s).plan = s.plan ∧ (State.overrunSample ch x s).store = s.store ∧
    (State.overrunSample ch x s).watch = s.watch ∧ (State.overrunSample ch x s).bypass = s.bypass ∧
    (State.overrunSample ch x s).port = s.port ∧ (State.overrunSample ch x s).pending = s.pending := by
  dsimp only [State.overrunSample]; repeat' split
  all_goals simp

@[simp] theorem State.plainSample_frame (ch : Nat) (x : Int) (s : State) :
    (State.plainSample ch x s).now = s.now ∧ (State.plainSample ch x s).powered = s.powered ∧
    (State.plainSample ch x s).bus = s.bus ∧ (State.plainSample ch x s).roster = s.roster ∧
    (State.plainSample ch x s).round = s.round ∧ (State.plainSample ch x s).plan = s.plan ∧
    (State.plainSample ch x s).store = s.store ∧ (State.plainSample ch x s).watch = s.watch ∧
    (State.plainSample ch x s).bypass = s.bypass ∧ (State.plainSample ch x s).port = s.port ∧
    (State.plainSample ch x s).pending = s.pending := by
  dsimp only [State.plainSample]; repeat' split
  all_goals simp

@[simp] theorem State.takeSample_frame (ch : Nat) (s : State) :
    (State.takeSample ch s).now = s.now ∧ (State.takeSample ch s).powered = s.powered ∧
    (State.takeSample ch s).bus = s.bus ∧ (State.takeSample ch s).roster = s.roster ∧
    (State.takeSample ch s).round = s.round ∧ (State.takeSample ch s).plan = s.plan ∧
    (State.takeSample ch s).store = s.store ∧ (State.takeSample ch s).watch = s.watch ∧
    (State.takeSample ch s).bypass = s.bypass ∧ (State.takeSample ch s).port = s.port ∧
    (State.takeSample ch s).pending = s.pending := by
  dsimp only [State.takeSample]; repeat' split
  all_goals simp

@[simp] theorem State.residualOutcome_frame (s : State) :
    (State.residualOutcome s).now = s.now ∧ (State.residualOutcome s).powered = s.powered ∧
    (State.residualOutcome s).freeCount = s.freeCount ∧ (State.residualOutcome s).bus = s.bus ∧
    (State.residualOutcome s).roster = s.roster ∧ (State.residualOutcome s).round = s.round ∧
    (State.residualOutcome s).plan = s.plan ∧ (State.residualOutcome s).store = s.store ∧
    (State.residualOutcome s).watch = s.watch ∧ (State.residualOutcome s).bypass = s.bypass ∧
    (State.residualOutcome s).port = s.port ∧ (State.residualOutcome s).pending = s.pending := by
  dsimp only [State.residualOutcome]; repeat' split
  all_goals simp

@[simp] theorem State.brakeDrop_frame (s : State) :
    (State.brakeDrop s).now = s.now ∧ (State.brakeDrop s).powered = s.powered ∧
    (State.brakeDrop s).freeCount = s.freeCount ∧ (State.brakeDrop s).bus = s.bus ∧
    (State.brakeDrop s).roster = s.roster ∧ (State.brakeDrop s).round = s.round ∧ (State.brakeDrop s).plan = s.plan ∧
    (State.brakeDrop s).store = s.store ∧ (State.brakeDrop s).watch = s.watch ∧
    (State.brakeDrop s).bypass = s.bypass ∧ (State.brakeDrop s).port = s.port ∧
    (State.brakeDrop s).pending = s.pending := by
  dsimp only [State.brakeDrop]; repeat' split
  all_goals simp

@[simp] theorem State.supplyCatch_frame (s : State) :
    (State.supplyCatch s).now = s.now ∧ (State.supplyCatch s).powered = s.powered ∧
    (State.supplyCatch s).freeCount = s.freeCount ∧ (State.supplyCatch s).bus = s.bus ∧
    (State.supplyCatch s).roster = s.roster ∧ (State.supplyCatch s).round = s.round ∧
    (State.supplyCatch s).plan = s.plan ∧ (State.supplyCatch s).scanner = s.scanner ∧
    (State.supplyCatch s).store = s.store ∧ (State.supplyCatch s).watch = s.watch ∧
    (State.supplyCatch s).bypass = s.bypass ∧ (State.supplyCatch s).pending = s.pending ∧
    (State.supplyCatch s).port.lastMark = s.port.lastMark ∧ (State.supplyCatch s).port.status = s.port.status ∧
    (State.supplyCatch s).port.faultCount = s.port.faultCount := by
  simp [State.supplyCatch, State.changeRecord, apply_ite Port.lastMark, apply_ite Port.status, apply_ite Port.faultCount]

@[simp] theorem State.retireExpired_frame (s : State) :
    (State.retireExpired s).now = s.now ∧ (State.retireExpired s).powered = s.powered ∧
    (State.retireExpired s).freeCount = s.freeCount ∧ (State.retireExpired s).bus = s.bus ∧
    (State.retireExpired s).roster = s.roster ∧ (State.retireExpired s).round = s.round ∧
    (State.retireExpired s).plan = s.plan ∧ (State.retireExpired s).scanner = s.scanner ∧
    (State.retireExpired s).store = s.store ∧ (State.retireExpired s).watch = s.watch ∧
    (State.retireExpired s).bypass = s.bypass ∧ (State.retireExpired s).port = s.port ∧
    (State.retireExpired s).pending = s.pending := by
  dsimp only [State.retireExpired]
  simp

@[simp] theorem State.startWalk_frame (s : State) :
    (State.startWalk s).now = s.now ∧ (State.startWalk s).powered = s.powered ∧
    (State.startWalk s).freeCount = s.freeCount ∧ (State.startWalk s).bus = s.bus ∧
    (State.startWalk s).roster = s.roster ∧ (State.startWalk s).round = s.round ∧
    (State.startWalk s).scanner = s.scanner ∧ (State.startWalk s).store = s.store ∧
    (State.startWalk s).watch = s.watch ∧ (State.startWalk s).bypass = s.bypass ∧
    (State.startWalk s).catcher = s.catcher ∧ (State.startWalk s).port = s.port ∧
    (State.startWalk s).pending = s.pending := by
  dsimp only [State.startWalk]
  simp

@[simp] theorem State.walkOnEntry_frame (p : Phase) (s : State) :
    (State.walkOnEntry p s).now = s.now ∧ (State.walkOnEntry p s).powered = s.powered ∧
    (State.walkOnEntry p s).freeCount = s.freeCount ∧ (State.walkOnEntry p s).bus = s.bus ∧
    (State.walkOnEntry p s).roster = s.roster ∧ (State.walkOnEntry p s).round = s.round ∧
    (State.walkOnEntry p s).scanner = s.scanner ∧ (State.walkOnEntry p s).store = s.store ∧
    (State.walkOnEntry p s).watch = s.watch ∧ (State.walkOnEntry p s).bypass = s.bypass ∧
    (State.walkOnEntry p s).catcher = s.catcher ∧ (State.walkOnEntry p s).port = s.port ∧
    (State.walkOnEntry p s).pending = s.pending := by
  dsimp only [State.walkOnEntry]; repeat' split
  all_goals simp

@[simp] theorem State.planEntryChange_frame (lowest : Nat) (s : State) :
    (State.planEntryChange lowest s).now = s.now ∧ (State.planEntryChange lowest s).powered = s.powered ∧
    (State.planEntryChange lowest s).freeCount = s.freeCount ∧ (State.planEntryChange lowest s).bus = s.bus ∧
    (State.planEntryChange lowest s).roster = s.roster ∧ (State.planEntryChange lowest s).round = s.round ∧
    (State.planEntryChange lowest s).scanner = s.scanner ∧ (State.planEntryChange lowest s).store = s.store ∧
    (State.planEntryChange lowest s).watch = s.watch ∧ (State.planEntryChange lowest s).bypass = s.bypass ∧
    (State.planEntryChange lowest s).catcher = s.catcher ∧ (State.planEntryChange lowest s).port = s.port ∧
    (State.planEntryChange lowest s).pending = s.pending := by
  dsimp only [State.planEntryChange]; repeat' split
  all_goals simp

@[simp] theorem State.walkOne_frame (s : State) :
    (State.walkOne s).now = s.now ∧ (State.walkOne s).powered = s.powered ∧
    (State.walkOne s).freeCount = s.freeCount ∧ (State.walkOne s).bus = s.bus ∧ (State.walkOne s).roster = s.roster ∧
    (State.walkOne s).round = s.round ∧ (State.walkOne s).scanner = s.scanner ∧ (State.walkOne s).store = s.store ∧
    (State.walkOne s).watch = s.watch ∧ (State.walkOne s).bypass = s.bypass ∧ (State.walkOne s).catcher = s.catcher ∧
    (State.walkOne s).port = s.port ∧ (State.walkOne s).pending = s.pending := by
  dsimp only [State.walkOne]; repeat' split
  all_goals simp

@[simp] theorem State.finishWalk_frame (s : State) :
    (State.finishWalk s).now = s.now ∧ (State.finishWalk s).powered = s.powered ∧
    (State.finishWalk s).freeCount = s.freeCount ∧ (State.finishWalk s).bus = s.bus ∧
    (State.finishWalk s).roster = s.roster ∧ (State.finishWalk s).round = s.round ∧
    (State.finishWalk s).scanner = s.scanner ∧ (State.finishWalk s).store = s.store ∧
    (State.finishWalk s).watch = s.watch ∧ (State.finishWalk s).bypass = s.bypass ∧
    (State.finishWalk s).catcher = s.catcher ∧ (State.finishWalk s).port = s.port ∧
    (State.finishWalk s).pending = s.pending := by
  dsimp only [State.finishWalk]
  simp

@[simp] theorem State.writeEntry_frame (i : Nat) (e : RosterEntry) (s : State) :
    (State.writeEntry i e s).now = s.now ∧ (State.writeEntry i e s).powered = s.powered ∧
    (State.writeEntry i e s).freeCount = s.freeCount ∧ (State.writeEntry i e s).bus = s.bus ∧
    (State.writeEntry i e s).round = s.round ∧ (State.writeEntry i e s).plan = s.plan ∧
    (State.writeEntry i e s).scanner = s.scanner ∧ (State.writeEntry i e s).store = s.store ∧
    (State.writeEntry i e s).watch = s.watch ∧ (State.writeEntry i e s).bypass = s.bypass ∧
    (State.writeEntry i e s).catcher = s.catcher ∧ (State.writeEntry i e s).port = s.port ∧
    (State.writeEntry i e s).pending = s.pending ∧
    (State.writeEntry i e s).roster.entries.length = s.roster.entries.length := by
  simp [State.writeEntry, Roster.withEntries, setAt]

@[simp] theorem State.leaveArming_frame (p : Phase) (s : State) :
    (State.leaveArming p s).now = s.now ∧ (State.leaveArming p s).powered = s.powered ∧
    (State.leaveArming p s).freeCount = s.freeCount ∧ (State.leaveArming p s).roster = s.roster ∧
    (State.leaveArming p s).round = s.round ∧ (State.leaveArming p s).plan = s.plan ∧
    (State.leaveArming p s).scanner = s.scanner ∧ (State.leaveArming p s).store = s.store ∧
    (State.leaveArming p s).bypass = s.bypass ∧ (State.leaveArming p s).catcher = s.catcher ∧
    (State.leaveArming p s).pending = s.pending ∧ (State.leaveArming p s).bus.heard = s.bus.heard ∧
    (State.leaveArming p s).bus.nextTick = s.bus.nextTick ∧ (State.leaveArming p s).bus.resetAt = s.bus.resetAt ∧
    (State.leaveArming p s).bus.duplicate = s.bus.duplicate ∧
    (State.leaveArming p s).port.lastMark = s.port.lastMark ∧ (State.leaveArming p s).port.status = s.port.status ∧
    (State.leaveArming p s).port.faultCount = s.port.faultCount := by
  dsimp only [State.leaveArming]
  simp

@[simp] theorem State.leaveCatching_frame (s : State) :
    (State.leaveCatching s).now = s.now ∧ (State.leaveCatching s).powered = s.powered ∧
    (State.leaveCatching s).freeCount = s.freeCount ∧ (State.leaveCatching s).bus = s.bus ∧
    (State.leaveCatching s).roster = s.roster ∧ (State.leaveCatching s).round = s.round ∧
    (State.leaveCatching s).plan = s.plan ∧ (State.leaveCatching s).store = s.store ∧
    (State.leaveCatching s).watch = s.watch ∧ (State.leaveCatching s).bypass = s.bypass ∧
    (State.leaveCatching s).port = s.port ∧ (State.leaveCatching s).pending = s.pending := by
  dsimp only [State.leaveCatching]
  simp

@[simp] theorem State.leaveRevising_frame (s : State) :
    (State.leaveRevising s).now = s.now ∧ (State.leaveRevising s).powered = s.powered ∧
    (State.leaveRevising s).freeCount = s.freeCount ∧ (State.leaveRevising s).bus = s.bus ∧
    (State.leaveRevising s).roster = s.roster ∧ (State.leaveRevising s).round = s.round ∧
    (State.leaveRevising s).plan = s.plan ∧ (State.leaveRevising s).scanner = s.scanner ∧
    (State.leaveRevising s).store = s.store ∧ (State.leaveRevising s).watch = s.watch ∧
    (State.leaveRevising s).bypass = s.bypass ∧ (State.leaveRevising s).catcher = s.catcher ∧
    (State.leaveRevising s).pending = s.pending ∧ (State.leaveRevising s).port.lastMark = s.port.lastMark ∧
    (State.leaveRevising s).port.status = s.port.status ∧ (State.leaveRevising s).port.faultCount = s.port.faultCount := by
  dsimp only [State.leaveRevising]
  simp

@[simp] theorem State.contextOnEntry_frame (p : Phase) (s : State) :
    (State.contextOnEntry p s).now = s.now ∧ (State.contextOnEntry p s).powered = s.powered ∧
    (State.contextOnEntry p s).freeCount = s.freeCount ∧ (State.contextOnEntry p s).bus = s.bus ∧
    (State.contextOnEntry p s).roster = s.roster ∧ (State.contextOnEntry p s).round = s.round ∧
    (State.contextOnEntry p s).plan = s.plan ∧ (State.contextOnEntry p s).store = s.store ∧
    (State.contextOnEntry p s).watch = s.watch ∧ (State.contextOnEntry p s).bypass = s.bypass ∧
    (State.contextOnEntry p s).pending = s.pending ∧ (State.contextOnEntry p s).port.lastMark = s.port.lastMark ∧
    (State.contextOnEntry p s).port.status = s.port.status ∧
    (State.contextOnEntry p s).port.faultCount = s.port.faultCount := by
  dsimp only [State.contextOnEntry]
  simp

@[simp] theorem State.blocksOnEntry_frame (p : Phase) (s : State) :
    (State.blocksOnEntry p s).now = s.now ∧ (State.blocksOnEntry p s).powered = s.powered ∧
    (State.blocksOnEntry p s).freeCount = s.freeCount ∧ (State.blocksOnEntry p s).scanner = s.scanner ∧
    (State.blocksOnEntry p s).store = s.store ∧ (State.blocksOnEntry p s).watch = s.watch ∧
    (State.blocksOnEntry p s).bypass = s.bypass ∧ (State.blocksOnEntry p s).pending = s.pending ∧
    (State.blocksOnEntry p s).bus.heard = s.bus.heard ∧ (State.blocksOnEntry p s).bus.nextTick = s.bus.nextTick ∧
    (State.blocksOnEntry p s).bus.resetAt = s.bus.resetAt ∧
    (State.blocksOnEntry p s).bus.duplicate = s.bus.duplicate ∧
    (State.blocksOnEntry p s).port.lastMark = s.port.lastMark ∧
    (State.blocksOnEntry p s).port.status = s.port.status ∧
    (State.blocksOnEntry p s).port.faultCount = s.port.faultCount ∧
    (State.blocksOnEntry p s).roster.entries.length = s.roster.entries.length := by
  dsimp only [State.blocksOnEntry]
  simp

@[simp] theorem State.framesOnEntry_frame (p0 p : Phase) (s : State) :
    (State.framesOnEntry p0 p s).now = s.now ∧ (State.framesOnEntry p0 p s).powered = s.powered ∧
    (State.framesOnEntry p0 p s).freeCount = s.freeCount ∧ (State.framesOnEntry p0 p s).round = s.round ∧
    (State.framesOnEntry p0 p s).plan = s.plan ∧ (State.framesOnEntry p0 p s).scanner = s.scanner ∧
    (State.framesOnEntry p0 p s).store = s.store ∧ (State.framesOnEntry p0 p s).watch = s.watch ∧
    (State.framesOnEntry p0 p s).bypass = s.bypass ∧ (State.framesOnEntry p0 p s).catcher = s.catcher ∧
    (State.framesOnEntry p0 p s).port = s.port ∧ (State.framesOnEntry p0 p s).pending = s.pending ∧
    (State.framesOnEntry p0 p s).bus.heard = s.bus.heard ∧
    (State.framesOnEntry p0 p s).bus.nextTick = s.bus.nextTick ∧
    (State.framesOnEntry p0 p s).bus.resetAt = s.bus.resetAt ∧
    (State.framesOnEntry p0 p s).bus.duplicate = s.bus.duplicate ∧
    (State.framesOnEntry p0 p s).roster.entries.length = s.roster.entries.length := by
  dsimp only [State.framesOnEntry]
  simp

@[simp] theorem State.enterBase_frame (p : Phase) (s : State) :
    (State.enterBase p s).now = s.now ∧ (State.enterBase p s).powered = s.powered ∧
    (State.enterBase p s).freeCount = s.freeCount ∧ (State.enterBase p s).store = s.store ∧
    (State.enterBase p s).bypass = s.bypass ∧ (State.enterBase p s).pending = s.pending ∧
    (State.enterBase p s).bus.heard = s.bus.heard ∧ (State.enterBase p s).bus.nextTick = s.bus.nextTick ∧
    (State.enterBase p s).bus.resetAt = s.bus.resetAt ∧ (State.enterBase p s).bus.duplicate = s.bus.duplicate ∧
    (State.enterBase p s).port.lastMark = s.port.lastMark ∧ (State.enterBase p s).port.status = s.port.status ∧
    (State.enterBase p s).port.faultCount = s.port.faultCount ∧
    (State.enterBase p s).roster.entries.length = s.roster.entries.length := by
  dsimp only [State.enterBase]
  simp

@[simp] theorem State.setEpoch_frame (e : Half) (s : State) :
    (State.setEpoch e s).now = s.now ∧ (State.setEpoch e s).powered = s.powered ∧
    (State.setEpoch e s).freeCount = s.freeCount ∧ (State.setEpoch e s).bus = s.bus ∧
    (State.setEpoch e s).roster = s.roster ∧ (State.setEpoch e s).scanner = s.scanner ∧
    (State.setEpoch e s).store = s.store ∧ (State.setEpoch e s).watch = s.watch ∧
    (State.setEpoch e s).bypass = s.bypass ∧ (State.setEpoch e s).port = s.port ∧
    (State.setEpoch e s).pending = s.pending := by
  dsimp only [State.setEpoch]; repeat' split
  all_goals simp

@[simp] theorem State.takeTrip_frame (s : State) :
    (State.takeTrip s).now = s.now ∧ (State.takeTrip s).powered = s.powered ∧
    (State.takeTrip s).freeCount = s.freeCount ∧ (State.takeTrip s).store = s.store ∧
    (State.takeTrip s).bypass = s.bypass ∧ (State.takeTrip s).pending = s.pending ∧
    (State.takeTrip s).bus.heard = s.bus.heard ∧ (State.takeTrip s).bus.nextTick = s.bus.nextTick ∧
    (State.takeTrip s).bus.resetAt = s.bus.resetAt ∧ (State.takeTrip s).bus.duplicate = s.bus.duplicate ∧
    (State.takeTrip s).port.lastMark = s.port.lastMark ∧ (State.takeTrip s).port.status = s.port.status ∧
    (State.takeTrip s).port.faultCount = s.port.faultCount ∧
    (State.takeTrip s).roster.entries.length = s.roster.entries.length := by
  dsimp only [State.takeTrip]; repeat' split
  all_goals simp

@[simp] theorem State.localAlarm_frame (cls : FaultClass) (s : State) :
    (State.localAlarm cls s).now = s.now ∧ (State.localAlarm cls s).powered = s.powered ∧
    (State.localAlarm cls s).freeCount = s.freeCount ∧ (State.localAlarm cls s).store = s.store ∧
    (State.localAlarm cls s).bypass = s.bypass ∧ (State.localAlarm cls s).pending = s.pending ∧
    (State.localAlarm cls s).bus.heard = s.bus.heard ∧ (State.localAlarm cls s).bus.nextTick = s.bus.nextTick ∧
    (State.localAlarm cls s).bus.resetAt = s.bus.resetAt ∧ (State.localAlarm cls s).bus.duplicate = s.bus.duplicate ∧
    (State.localAlarm cls s).port.lastMark = s.port.lastMark ∧ (State.localAlarm cls s).port.status = s.port.status ∧
    (State.localAlarm cls s).port.faultCount = s.port.faultCount ∧
    (State.localAlarm cls s).roster.entries.length = s.roster.entries.length := by
  dsimp only [State.localAlarm]; repeat' split
  all_goals simp

@[simp] theorem State.resettle_frame (s : State) :
    (State.resettle s).now = s.now ∧ (State.resettle s).powered = s.powered ∧
    (State.resettle s).freeCount = s.freeCount ∧ (State.resettle s).store = s.store ∧
    (State.resettle s).bypass = s.bypass ∧ (State.resettle s).pending = s.pending ∧
    (State.resettle s).bus.heard = s.bus.heard ∧ (State.resettle s).bus.nextTick = s.bus.nextTick ∧
    (State.resettle s).bus.resetAt = s.bus.resetAt ∧ (State.resettle s).bus.duplicate = s.bus.duplicate ∧
    (State.resettle s).port.lastMark = s.port.lastMark ∧ (State.resettle s).port.status = s.port.status ∧
    (State.resettle s).port.faultCount = s.port.faultCount ∧
    (State.resettle s).roster.entries.length = s.roster.entries.length := by
  dsimp only [State.resettle]; repeat' split
  all_goals simp

@[simp] theorem State.lineStationLost_frame (s : State) :
    (State.lineStationLost s).now = s.now ∧ (State.lineStationLost s).powered = s.powered ∧
    (State.lineStationLost s).freeCount = s.freeCount ∧ (State.lineStationLost s).store = s.store ∧
    (State.lineStationLost s).bypass = s.bypass ∧ (State.lineStationLost s).pending = s.pending ∧
    (State.lineStationLost s).bus.heard = s.bus.heard ∧ (State.lineStationLost s).bus.nextTick = s.bus.nextTick ∧
    (State.lineStationLost s).bus.resetAt = s.bus.resetAt ∧
    (State.lineStationLost s).bus.duplicate = s.bus.duplicate ∧
    (State.lineStationLost s).port.lastMark = s.port.lastMark ∧
    (State.lineStationLost s).port.status = s.port.status ∧
    (State.lineStationLost s).port.faultCount = s.port.faultCount ∧
    (State.lineStationLost s).roster.entries.length = s.roster.entries.length := by
  dsimp only [State.lineStationLost]; repeat' split
  all_goals simp

@[simp] theorem State.checkPresence_frame (s : State) :
    (State.checkPresence s).now = s.now ∧ (State.checkPresence s).powered = s.powered ∧
    (State.checkPresence s).freeCount = s.freeCount ∧ (State.checkPresence s).store = s.store ∧
    (State.checkPresence s).bypass = s.bypass ∧ (State.checkPresence s).pending = s.pending ∧
    (State.checkPresence s).bus.heard = s.bus.heard ∧ (State.checkPresence s).bus.nextTick = s.bus.nextTick ∧
    (State.checkPresence s).bus.resetAt = s.bus.resetAt ∧ (State.checkPresence s).bus.duplicate = s.bus.duplicate ∧
    (State.checkPresence s).port.lastMark = s.port.lastMark ∧ (State.checkPresence s).port.status = s.port.status ∧
    (State.checkPresence s).port.faultCount = s.port.faultCount ∧
    (State.checkPresence s).roster.entries.length = s.roster.entries.length := by
  dsimp only [State.checkPresence]; repeat' split
  all_goals simp

@[simp] theorem State.cancelSwitch_frame (s : State) :
    (State.cancelSwitch s).now = s.now ∧ (State.cancelSwitch s).powered = s.powered ∧
    (State.cancelSwitch s).freeCount = s.freeCount ∧ (State.cancelSwitch s).bus = s.bus ∧
    (State.cancelSwitch s).roster = s.roster ∧ (State.cancelSwitch s).round = s.round ∧
    (State.cancelSwitch s).plan = s.plan ∧ (State.cancelSwitch s).scanner = s.scanner ∧
    (State.cancelSwitch s).store = s.store ∧ (State.cancelSwitch s).watch = s.watch ∧
    (State.cancelSwitch s).bypass = s.bypass ∧ (State.cancelSwitch s).catcher = s.catcher ∧
    (State.cancelSwitch s).pending = s.pending ∧ (State.cancelSwitch s).port.lastMark = s.port.lastMark ∧
    (State.cancelSwitch s).port.status = s.port.status ∧ (State.cancelSwitch s).port.faultCount = s.port.faultCount := by
  dsimp only [State.cancelSwitch]
  simp

@[simp] theorem State.entryChange_frame (o : Origin) (s : State) :
    (State.entryChange o s).now = s.now ∧ (State.entryChange o s).powered = s.powered ∧
    (State.entryChange o s).freeCount = s.freeCount ∧ (State.entryChange o s).store = s.store ∧
    (State.entryChange o s).bypass = s.bypass ∧ (State.entryChange o s).pending = s.pending ∧
    (State.entryChange o s).bus.heard = s.bus.heard ∧ (State.entryChange o s).bus.nextTick = s.bus.nextTick ∧
    (State.entryChange o s).bus.resetAt = s.bus.resetAt ∧ (State.entryChange o s).bus.duplicate = s.bus.duplicate ∧
    (State.entryChange o s).port.lastMark = s.port.lastMark ∧ (State.entryChange o s).port.status = s.port.status ∧
    (State.entryChange o s).port.faultCount = s.port.faultCount ∧
    (State.entryChange o s).roster.entries.length = s.roster.entries.length := by
  dsimp only [State.entryChange]; repeat' split
  all_goals simp

@[simp] theorem State.handChange_frame (o : Origin) (i : Nat) (s : State) :
    (State.handChange o i s).now = s.now ∧ (State.handChange o i s).powered = s.powered ∧
    (State.handChange o i s).freeCount = s.freeCount ∧ (State.handChange o i s).store = s.store ∧
    (State.handChange o i s).bypass = s.bypass ∧ (State.handChange o i s).pending = s.pending ∧
    (State.handChange o i s).bus.heard = s.bus.heard ∧ (State.handChange o i s).bus.nextTick = s.bus.nextTick ∧
    (State.handChange o i s).bus.resetAt = s.bus.resetAt ∧ (State.handChange o i s).bus.duplicate = s.bus.duplicate ∧
    (State.handChange o i s).port.lastMark = s.port.lastMark ∧ (State.handChange o i s).port.status = s.port.status ∧
    (State.handChange o i s).port.faultCount = s.port.faultCount ∧
    (State.handChange o i s).roster.entries.length = s.roster.entries.length := by
  dsimp only [State.handChange]
  simp

@[simp] theorem State.timeRest_frame (c : Condition) (s : State) :
    (State.timeRest c s).now = s.now ∧ (State.timeRest c s).powered = s.powered ∧
    (State.timeRest c s).freeCount = s.freeCount ∧ (State.timeRest c s).bus = s.bus ∧
    (State.timeRest c s).roster = s.roster ∧ (State.timeRest c s).round = s.round ∧
    (State.timeRest c s).plan = s.plan ∧ (State.timeRest c s).scanner = s.scanner ∧
    (State.timeRest c s).store = s.store ∧ (State.timeRest c s).bypass = s.bypass ∧
    (State.timeRest c s).catcher = s.catcher ∧ (State.timeRest c s).port = s.port ∧
    (State.timeRest c s).pending = s.pending := ⟨rfl, rfl, rfl, rfl, rfl, rfl, rfl, rfl, rfl, rfl, rfl, rfl, rfl⟩

/-- R95: what the rest hold-off timer stands at. -/
@[simp] theorem State.timeRest_rest (c : Condition) (s : State) :
    (State.timeRest c s).watch.rest = restAfter s.now (sec s.params.rest) c := rfl

@[simp] theorem State.assertEntry_frame (i : Nat) (c : Condition) (k : FaultClass) (s : State) :
    (State.assertEntry i c k s).now = s.now ∧ (State.assertEntry i c k s).powered = s.powered ∧
    (State.assertEntry i c k s).freeCount = s.freeCount ∧ (State.assertEntry i c k s).store = s.store ∧
    (State.assertEntry i c k s).bypass = s.bypass ∧ (State.assertEntry i c k s).pending = s.pending ∧
    (State.assertEntry i c k s).bus.heard = s.bus.heard ∧ (State.assertEntry i c k s).bus.nextTick = s.bus.nextTick ∧
    (State.assertEntry i c k s).bus.resetAt = s.bus.resetAt ∧
    (State.assertEntry i c k s).bus.duplicate = s.bus.duplicate ∧
    (State.assertEntry i c k s).port.lastMark = s.port.lastMark ∧
    (State.assertEntry i c k s).port.status = s.port.status ∧
    (State.assertEntry i c k s).port.faultCount = s.port.faultCount ∧
    (State.assertEntry i c k s).roster.entries.length = s.roster.entries.length := by
  dsimp only [State.assertEntry]
  simp

@[simp] theorem State.requestWrite_frame (c : Condition) (k : FaultClass) (s : State) :
    (State.requestWrite c k s).now = s.now ∧ (State.requestWrite c k s).powered = s.powered ∧
    (State.requestWrite c k s).freeCount = s.freeCount ∧ (State.requestWrite c k s).store = s.store ∧
    (State.requestWrite c k s).bypass = s.bypass ∧ (State.requestWrite c k s).pending = s.pending ∧
    (State.requestWrite c k s).bus.heard = s.bus.heard ∧ (State.requestWrite c k s).bus.nextTick = s.bus.nextTick ∧
    (State.requestWrite c k s).bus.resetAt = s.bus.resetAt ∧
    (State.requestWrite c k s).bus.duplicate = s.bus.duplicate ∧
    (State.requestWrite c k s).port.lastMark = s.port.lastMark ∧
    (State.requestWrite c k s).port.status = s.port.status ∧
    (State.requestWrite c k s).port.faultCount = s.port.faultCount ∧
    (State.requestWrite c k s).roster.entries.length = s.roster.entries.length := by
  dsimp only [State.requestWrite]; repeat' split
  all_goals simp

@[simp] theorem State.followFaulted_frame (s : State) :
    (State.followFaulted s).now = s.now ∧ (State.followFaulted s).powered = s.powered ∧
    (State.followFaulted s).freeCount = s.freeCount ∧ (State.followFaulted s).store = s.store ∧
    (State.followFaulted s).bypass = s.bypass ∧ (State.followFaulted s).pending = s.pending ∧
    (State.followFaulted s).bus.heard = s.bus.heard ∧ (State.followFaulted s).bus.nextTick = s.bus.nextTick ∧
    (State.followFaulted s).bus.resetAt = s.bus.resetAt ∧ (State.followFaulted s).bus.duplicate = s.bus.duplicate ∧
    (State.followFaulted s).port.lastMark = s.port.lastMark ∧ (State.followFaulted s).port.status = s.port.status ∧
    (State.followFaulted s).port.faultCount = s.port.faultCount ∧
    (State.followFaulted s).roster.entries.length = s.roster.entries.length := by
  dsimp only [State.followFaulted]
  simp

@[simp] theorem State.ownerWrite_frame (c : Condition) (k : FaultClass) (s : State) :
    (State.ownerWrite c k s).now = s.now ∧ (State.ownerWrite c k s).powered = s.powered ∧
    (State.ownerWrite c k s).freeCount = s.freeCount ∧ (State.ownerWrite c k s).store = s.store ∧
    (State.ownerWrite c k s).bypass = s.bypass ∧ (State.ownerWrite c k s).pending = s.pending ∧
    (State.ownerWrite c k s).bus.heard = s.bus.heard ∧ (State.ownerWrite c k s).bus.nextTick = s.bus.nextTick ∧
    (State.ownerWrite c k s).bus.resetAt = s.bus.resetAt ∧ (State.ownerWrite c k s).bus.duplicate = s.bus.duplicate ∧
    (State.ownerWrite c k s).port.lastMark = s.port.lastMark ∧ (State.ownerWrite c k s).port.status = s.port.status ∧
    (State.ownerWrite c k s).port.faultCount = s.port.faultCount ∧
    (State.ownerWrite c k s).roster.entries.length = s.roster.entries.length := by
  dsimp only [State.ownerWrite]
  simp

@[simp] theorem State.markEntry_frame (i : Nat) (s : State) :
    (State.markEntry i s).now = s.now ∧ (State.markEntry i s).powered = s.powered ∧
    (State.markEntry i s).freeCount = s.freeCount ∧ (State.markEntry i s).store = s.store ∧
    (State.markEntry i s).bypass = s.bypass ∧ (State.markEntry i s).pending = s.pending ∧
    (State.markEntry i s).bus.heard = s.bus.heard ∧ (State.markEntry i s).bus.nextTick = s.bus.nextTick ∧
    (State.markEntry i s).bus.resetAt = s.bus.resetAt ∧ (State.markEntry i s).bus.duplicate = s.bus.duplicate ∧
    (State.markEntry i s).port.lastMark = s.port.lastMark ∧ (State.markEntry i s).port.status = s.port.status ∧
    (State.markEntry i s).port.faultCount = s.port.faultCount ∧
    (State.markEntry i s).roster.entries.length = s.roster.entries.length := by
  dsimp only [State.markEntry]
  simp

@[simp] theorem State.checkIndex_frame (i : Nat) (s : State) :
    (State.checkIndex i s).now = s.now ∧ (State.checkIndex i s).powered = s.powered ∧
    (State.checkIndex i s).freeCount = s.freeCount ∧ (State.checkIndex i s).store = s.store ∧
    (State.checkIndex i s).bypass = s.bypass ∧ (State.checkIndex i s).pending = s.pending ∧
    (State.checkIndex i s).bus.heard = s.bus.heard ∧ (State.checkIndex i s).bus.nextTick = s.bus.nextTick ∧
    (State.checkIndex i s).bus.resetAt = s.bus.resetAt ∧ (State.checkIndex i s).bus.duplicate = s.bus.duplicate ∧
    (State.checkIndex i s).port.lastMark = s.port.lastMark ∧ (State.checkIndex i s).port.status = s.port.status ∧
    (State.checkIndex i s).port.faultCount = s.port.faultCount ∧
    (State.checkIndex i s).roster.entries.length = s.roster.entries.length := by
  dsimp only [State.checkIndex]
  simp

@[simp] theorem State.checkIndices_frame (l : List Nat) (s : State) :
    (State.checkIndices l s).now = s.now ∧ (State.checkIndices l s).powered = s.powered ∧
    (State.checkIndices l s).freeCount = s.freeCount ∧ (State.checkIndices l s).store = s.store ∧
    (State.checkIndices l s).bypass = s.bypass ∧ (State.checkIndices l s).pending = s.pending ∧
    (State.checkIndices l s).bus.heard = s.bus.heard ∧ (State.checkIndices l s).bus.nextTick = s.bus.nextTick ∧
    (State.checkIndices l s).bus.resetAt = s.bus.resetAt ∧ (State.checkIndices l s).bus.duplicate = s.bus.duplicate ∧
    (State.checkIndices l s).port.lastMark = s.port.lastMark ∧ (State.checkIndices l s).port.status = s.port.status ∧
    (State.checkIndices l s).port.faultCount = s.port.faultCount ∧
    (State.checkIndices l s).roster.entries.length = s.roster.entries.length := by
  refine ⟨?_, ?_, ?_, ?_, ?_, ?_, ?_, ?_, ?_, ?_, ?_, ?_, ?_, ?_⟩
  · exact State.foldl_keeps s (fun s => s.now) _ (by simp) l
  · exact State.foldl_keeps s (fun s => s.powered) _ (by simp) l
  · exact State.foldl_keeps s (fun s => s.freeCount) _ (by simp) l
  · exact State.foldl_keeps s (fun s => s.store) _ (by simp) l
  · exact State.foldl_keeps s (fun s => s.bypass) _ (by simp) l
  · exact State.foldl_keeps s (fun s => s.pending) _ (by simp) l
  · exact State.foldl_keeps s (fun s => s.bus.heard) _ (by simp) l
  · exact State.foldl_keeps s (fun s => s.bus.nextTick) _ (by simp) l
  · exact State.foldl_keeps s (fun s => s.bus.resetAt) _ (by simp) l
  · exact State.foldl_keeps s (fun s => s.bus.duplicate) _ (by simp) l
  · exact State.foldl_keeps s (fun s => s.port.lastMark) _ (by simp) l
  · exact State.foldl_keeps s (fun s => s.port.status) _ (by simp) l
  · exact State.foldl_keeps s (fun s => s.port.faultCount) _ (by simp) l
  · exact State.foldl_keeps s (fun s => s.roster.entries.length) _ (by simp) l

@[simp] theorem State.silenceCheck_frame (s : State) :
    (State.silenceCheck s).now = s.now ∧ (State.silenceCheck s).powered = s.powered ∧
    (State.silenceCheck s).freeCount = s.freeCount ∧ (State.silenceCheck s).store = s.store ∧
    (State.silenceCheck s).bypass = s.bypass ∧ (State.silenceCheck s).pending = s.pending ∧
    (State.silenceCheck s).bus.heard = s.bus.heard ∧ (State.silenceCheck s).bus.nextTick = s.bus.nextTick ∧
    (State.silenceCheck s).bus.resetAt = s.bus.resetAt ∧ (State.silenceCheck s).bus.duplicate = s.bus.duplicate ∧
    (State.silenceCheck s).port.lastMark = s.port.lastMark ∧ (State.silenceCheck s).port.status = s.port.status ∧
    (State.silenceCheck s).port.faultCount = s.port.faultCount ∧
    (State.silenceCheck s).roster.entries.length = s.roster.entries.length := by
  dsimp only [State.silenceCheck]
  simp

@[simp] theorem State.silenceCheckOf_frame (n : Nat) (s : State) :
    (State.silenceCheckOf n s).now = s.now ∧ (State.silenceCheckOf n s).powered = s.powered ∧
    (State.silenceCheckOf n s).freeCount = s.freeCount ∧ (State.silenceCheckOf n s).store = s.store ∧
    (State.silenceCheckOf n s).bypass = s.bypass ∧ (State.silenceCheckOf n s).pending = s.pending ∧
    (State.silenceCheckOf n s).bus.heard = s.bus.heard ∧ (State.silenceCheckOf n s).bus.nextTick = s.bus.nextTick ∧
    (State.silenceCheckOf n s).bus.resetAt = s.bus.resetAt ∧
    (State.silenceCheckOf n s).bus.duplicate = s.bus.duplicate ∧
    (State.silenceCheckOf n s).port.lastMark = s.port.lastMark ∧
    (State.silenceCheckOf n s).port.status = s.port.status ∧
    (State.silenceCheckOf n s).port.faultCount = s.port.faultCount ∧
    (State.silenceCheckOf n s).roster.entries.length = s.roster.entries.length := by
  dsimp only [State.silenceCheckOf]
  simp

@[simp] theorem State.answer_frame (s : State) :
    (State.answer s).now = s.now ∧ (State.answer s).powered = s.powered ∧ (State.answer s).freeCount = s.freeCount ∧
    (State.answer s).round = s.round ∧ (State.answer s).plan = s.plan ∧ (State.answer s).scanner = s.scanner ∧
    (State.answer s).store = s.store ∧ (State.answer s).watch = s.watch ∧ (State.answer s).bypass = s.bypass ∧
    (State.answer s).catcher = s.catcher ∧ (State.answer s).port = s.port ∧ (State.answer s).pending = s.pending ∧
    (State.answer s).bus.heard = s.bus.heard ∧ (State.answer s).bus.nextTick = s.bus.nextTick ∧
    (State.answer s).bus.resetAt = s.bus.resetAt ∧ (State.answer s).bus.duplicate = s.bus.duplicate ∧
    (State.answer s).roster.entries.length = s.roster.entries.length := by
  dsimp only [State.answer]; repeat' split
  all_goals simp

@[simp] theorem State.answerTick_frame (s : State) :
    (State.answerTick s).now = s.now ∧ (State.answerTick s).powered = s.powered ∧
    (State.answerTick s).freeCount = s.freeCount ∧ (State.answerTick s).round = s.round ∧
    (State.answerTick s).plan = s.plan ∧ (State.answerTick s).scanner = s.scanner ∧
    (State.answerTick s).store = s.store ∧ (State.answerTick s).watch = s.watch ∧
    (State.answerTick s).bypass = s.bypass ∧ (State.answerTick s).catcher = s.catcher ∧
    (State.answerTick s).port = s.port ∧ (State.answerTick s).pending = s.pending ∧
    (State.answerTick s).bus.heard = s.bus.heard ∧ (State.answerTick s).bus.nextTick = s.bus.nextTick ∧
    (State.answerTick s).bus.resetAt = s.bus.resetAt ∧ (State.answerTick s).bus.duplicate = s.bus.duplicate ∧
    (State.answerTick s).roster.entries.length = s.roster.entries.length := by
  dsimp only [State.answerTick]; repeat' split
  all_goals simp

@[simp] theorem State.handMerge_frame (changed : List Nat) (s : State) :
    (State.handMerge changed s).now = s.now ∧ (State.handMerge changed s).powered = s.powered ∧
    (State.handMerge changed s).freeCount = s.freeCount ∧ (State.handMerge changed s).store = s.store ∧
    (State.handMerge changed s).bypass = s.bypass ∧ (State.handMerge changed s).pending = s.pending ∧
    (State.handMerge changed s).bus.heard = s.bus.heard ∧ (State.handMerge changed s).bus.nextTick = s.bus.nextTick ∧
    (State.handMerge changed s).bus.resetAt = s.bus.resetAt ∧
    (State.handMerge changed s).bus.duplicate = s.bus.duplicate ∧
    (State.handMerge changed s).port.lastMark = s.port.lastMark ∧
    (State.handMerge changed s).port.status = s.port.status ∧
    (State.handMerge changed s).port.faultCount = s.port.faultCount ∧
    (State.handMerge changed s).roster.entries.length = s.roster.entries.length := by
  dsimp only [State.handMerge]; repeat' split
  all_goals simp

@[simp] theorem State.mergeSummary_frame (items : List SummaryItem) (s : State) :
    (State.mergeSummary items s).now = s.now ∧ (State.mergeSummary items s).powered = s.powered ∧
    (State.mergeSummary items s).freeCount = s.freeCount ∧ (State.mergeSummary items s).store = s.store ∧
    (State.mergeSummary items s).bypass = s.bypass ∧ (State.mergeSummary items s).pending = s.pending ∧
    (State.mergeSummary items s).bus.heard = s.bus.heard ∧
    (State.mergeSummary items s).bus.nextTick = s.bus.nextTick ∧
    (State.mergeSummary items s).bus.resetAt = s.bus.resetAt ∧
    (State.mergeSummary items s).bus.duplicate = s.bus.duplicate ∧
    (State.mergeSummary items s).port.lastMark = s.port.lastMark ∧
    (State.mergeSummary items s).port.status = s.port.status ∧
    (State.mergeSummary items s).port.faultCount = s.port.faultCount ∧
    (State.mergeSummary items s).roster.entries.length = s.roster.entries.length := by
  dsimp only [State.mergeSummary]; repeat' split
  all_goals simp [Roster.withEntries, mergeFrom_length]

@[simp] theorem State.enqueueStep_frame (code reason : Byte) (s : State) :
    (State.enqueueStep code reason s).now = s.now ∧ (State.enqueueStep code reason s).powered = s.powered ∧
    (State.enqueueStep code reason s).freeCount = s.freeCount ∧ (State.enqueueStep code reason s).roster = s.roster ∧
    (State.enqueueStep code reason s).round = s.round ∧ (State.enqueueStep code reason s).plan = s.plan ∧
    (State.enqueueStep code reason s).scanner = s.scanner ∧ (State.enqueueStep code reason s).store = s.store ∧
    (State.enqueueStep code reason s).watch = s.watch ∧ (State.enqueueStep code reason s).bypass = s.bypass ∧
    (State.enqueueStep code reason s).catcher = s.catcher ∧ (State.enqueueStep code reason s).port = s.port ∧
    (State.enqueueStep code reason s).pending = s.pending ∧
    (State.enqueueStep code reason s).bus.heard = s.bus.heard ∧
    (State.enqueueStep code reason s).bus.nextTick = s.bus.nextTick ∧
    (State.enqueueStep code reason s).bus.resetAt = s.bus.resetAt ∧
    (State.enqueueStep code reason s).bus.duplicate = s.bus.duplicate := by
  dsimp only [State.enqueueStep]; repeat' split
  all_goals simp

@[simp] theorem State.checkArmed_frame (s : State) :
    (State.checkArmed s).now = s.now ∧ (State.checkArmed s).powered = s.powered ∧
    (State.checkArmed s).freeCount = s.freeCount ∧ (State.checkArmed s).roster = s.roster ∧
    (State.checkArmed s).round = s.round ∧ (State.checkArmed s).plan = s.plan ∧
    (State.checkArmed s).scanner = s.scanner ∧ (State.checkArmed s).store = s.store ∧
    (State.checkArmed s).bypass = s.bypass ∧ (State.checkArmed s).catcher = s.catcher ∧
    (State.checkArmed s).port = s.port ∧ (State.checkArmed s).pending = s.pending ∧
    (State.checkArmed s).bus.heard = s.bus.heard ∧ (State.checkArmed s).bus.nextTick = s.bus.nextTick ∧
    (State.checkArmed s).bus.resetAt = s.bus.resetAt ∧ (State.checkArmed s).bus.duplicate = s.bus.duplicate := by
  dsimp only [State.checkArmed]
  simp

@[simp] theorem State.checkRefused_frame (reason : Byte) (s : State) :
    (State.checkRefused reason s).now = s.now ∧ (State.checkRefused reason s).powered = s.powered ∧
    (State.checkRefused reason s).freeCount = s.freeCount ∧ (State.checkRefused reason s).roster = s.roster ∧
    (State.checkRefused reason s).round = s.round ∧ (State.checkRefused reason s).plan = s.plan ∧
    (State.checkRefused reason s).scanner = s.scanner ∧ (State.checkRefused reason s).store = s.store ∧
    (State.checkRefused reason s).bypass = s.bypass ∧ (State.checkRefused reason s).catcher = s.catcher ∧
    (State.checkRefused reason s).port = s.port ∧ (State.checkRefused reason s).pending = s.pending ∧
    (State.checkRefused reason s).bus.heard = s.bus.heard ∧
    (State.checkRefused reason s).bus.nextTick = s.bus.nextTick ∧
    (State.checkRefused reason s).bus.resetAt = s.bus.resetAt ∧
    (State.checkRefused reason s).bus.duplicate = s.bus.duplicate := by
  dsimp only [State.checkRefused]
  simp

@[simp] theorem State.senseStep_frame (s : State) :
    (State.senseStep s).now = s.now ∧ (State.senseStep s).powered = s.powered ∧
    (State.senseStep s).freeCount = s.freeCount ∧ (State.senseStep s).bus = s.bus ∧
    (State.senseStep s).roster = s.roster ∧ (State.senseStep s).round = s.round ∧ (State.senseStep s).plan = s.plan ∧
    (State.senseStep s).store = s.store ∧ (State.senseStep s).bypass = s.bypass ∧
    (State.senseStep s).catcher = s.catcher ∧ (State.senseStep s).port = s.port ∧
    (State.senseStep s).pending = s.pending := by
  dsimp only [State.senseStep]
  simp

@[simp] theorem State.confirmOpen_frame (s : State) :
    (State.confirmOpen s).now = s.now ∧ (State.confirmOpen s).powered = s.powered ∧
    (State.confirmOpen s).freeCount = s.freeCount ∧ (State.confirmOpen s).bus = s.bus ∧
    (State.confirmOpen s).roster = s.roster ∧ (State.confirmOpen s).round = s.round ∧
    (State.confirmOpen s).plan = s.plan ∧ (State.confirmOpen s).store = s.store ∧
    (State.confirmOpen s).bypass = s.bypass ∧ (State.confirmOpen s).catcher = s.catcher ∧
    (State.confirmOpen s).port = s.port ∧ (State.confirmOpen s).pending = s.pending := by
  dsimp only [State.confirmOpen]
  simp

@[simp] theorem State.confirmClosed_frame (s : State) :
    (State.confirmClosed s).now = s.now ∧ (State.confirmClosed s).powered = s.powered ∧
    (State.confirmClosed s).freeCount = s.freeCount ∧ (State.confirmClosed s).store = s.store ∧
    (State.confirmClosed s).bypass = s.bypass ∧ (State.confirmClosed s).pending = s.pending ∧
    (State.confirmClosed s).bus.heard = s.bus.heard ∧ (State.confirmClosed s).bus.nextTick = s.bus.nextTick ∧
    (State.confirmClosed s).bus.resetAt = s.bus.resetAt ∧ (State.confirmClosed s).bus.duplicate = s.bus.duplicate ∧
    (State.confirmClosed s).port.lastMark = s.port.lastMark ∧ (State.confirmClosed s).port.status = s.port.status ∧
    (State.confirmClosed s).port.faultCount = s.port.faultCount ∧
    (State.confirmClosed s).roster.entries.length = s.roster.entries.length := by
  dsimp only [State.confirmClosed]
  simp

@[simp] theorem State.reportStuckOpen_frame (s : State) :
    (State.reportStuckOpen s).now = s.now ∧ (State.reportStuckOpen s).powered = s.powered ∧
    (State.reportStuckOpen s).freeCount = s.freeCount ∧ (State.reportStuckOpen s).store = s.store ∧
    (State.reportStuckOpen s).bypass = s.bypass ∧ (State.reportStuckOpen s).pending = s.pending ∧
    (State.reportStuckOpen s).bus.heard = s.bus.heard ∧ (State.reportStuckOpen s).bus.nextTick = s.bus.nextTick ∧
    (State.reportStuckOpen s).bus.resetAt = s.bus.resetAt ∧
    (State.reportStuckOpen s).bus.duplicate = s.bus.duplicate ∧
    (State.reportStuckOpen s).port.lastMark = s.port.lastMark ∧
    (State.reportStuckOpen s).port.status = s.port.status ∧
    (State.reportStuckOpen s).port.faultCount = s.port.faultCount ∧
    (State.reportStuckOpen s).roster.entries.length = s.roster.entries.length := by
  dsimp only [State.reportStuckOpen]
  simp

@[simp] theorem State.reportClosedFault_frame (s : State) :
    (State.reportClosedFault s).now = s.now ∧ (State.reportClosedFault s).powered = s.powered ∧
    (State.reportClosedFault s).freeCount = s.freeCount ∧ (State.reportClosedFault s).store = s.store ∧
    (State.reportClosedFault s).bypass = s.bypass ∧ (State.reportClosedFault s).pending = s.pending ∧
    (State.reportClosedFault s).bus.heard = s.bus.heard ∧ (State.reportClosedFault s).bus.nextTick = s.bus.nextTick ∧
    (State.reportClosedFault s).bus.resetAt = s.bus.resetAt ∧
    (State.reportClosedFault s).bus.duplicate = s.bus.duplicate ∧
    (State.reportClosedFault s).port.lastMark = s.port.lastMark ∧
    (State.reportClosedFault s).port.status = s.port.status ∧
    (State.reportClosedFault s).port.faultCount = s.port.faultCount ∧
    (State.reportClosedFault s).roster.entries.length = s.roster.entries.length := by
  dsimp only [State.reportClosedFault]; repeat' split
  all_goals simp

@[simp] theorem State.openCmd_frame (p : Purpose) (s : State) :
    (State.openCmd p s).now = s.now ∧ (State.openCmd p s).powered = s.powered ∧
    (State.openCmd p s).freeCount = s.freeCount ∧ (State.openCmd p s).bus = s.bus ∧
    (State.openCmd p s).roster = s.roster ∧ (State.openCmd p s).round = s.round ∧ (State.openCmd p s).plan = s.plan ∧
    (State.openCmd p s).store = s.store ∧ (State.openCmd p s).catcher = s.catcher ∧
    (State.openCmd p s).port = s.port ∧ (State.openCmd p s).pending = s.pending := by
  dsimp only [State.openCmd]; repeat' split
  all_goals simp

@[simp] theorem State.closeCmd_frame (s : State) :
    (State.closeCmd s).now = s.now ∧ (State.closeCmd s).powered = s.powered ∧
    (State.closeCmd s).freeCount = s.freeCount ∧ (State.closeCmd s).store = s.store ∧
    (State.closeCmd s).pending = s.pending ∧ (State.closeCmd s).bus.heard = s.bus.heard ∧
    (State.closeCmd s).bus.nextTick = s.bus.nextTick ∧ (State.closeCmd s).bus.resetAt = s.bus.resetAt ∧
    (State.closeCmd s).bus.duplicate = s.bus.duplicate ∧ (State.closeCmd s).port.lastMark = s.port.lastMark ∧
    (State.closeCmd s).port.status = s.port.status ∧ (State.closeCmd s).port.faultCount = s.port.faultCount ∧
    (State.closeCmd s).roster.entries.length = s.roster.entries.length := by
  dsimp only [State.closeCmd]; repeat' split
  all_goals simp

@[simp] theorem State.refuseStuckClosed_frame (s : State) :
    (State.refuseStuckClosed s).now = s.now ∧ (State.refuseStuckClosed s).powered = s.powered ∧
    (State.refuseStuckClosed s).freeCount = s.freeCount ∧ (State.refuseStuckClosed s).store = s.store ∧
    (State.refuseStuckClosed s).pending = s.pending ∧
    (State.refuseStuckClosed s).bus.heard = s.bus.heard ∧ (State.refuseStuckClosed s).bus.nextTick = s.bus.nextTick ∧
    (State.refuseStuckClosed s).bus.resetAt = s.bus.resetAt ∧
    (State.refuseStuckClosed s).bus.duplicate = s.bus.duplicate ∧
    (State.refuseStuckClosed s).port.lastMark = s.port.lastMark ∧
    (State.refuseStuckClosed s).port.status = s.port.status ∧
    (State.refuseStuckClosed s).port.faultCount = s.port.faultCount ∧
    (State.refuseStuckClosed s).roster.entries.length = s.roster.entries.length := by
  dsimp only [State.refuseStuckClosed]
  simp

@[simp] theorem State.reportStuckClosed_frame (s : State) :
    (State.reportStuckClosed s).now = s.now ∧ (State.reportStuckClosed s).powered = s.powered ∧
    (State.reportStuckClosed s).freeCount = s.freeCount ∧ (State.reportStuckClosed s).store = s.store ∧
    (State.reportStuckClosed s).pending = s.pending ∧
    (State.reportStuckClosed s).bus.heard = s.bus.heard ∧ (State.reportStuckClosed s).bus.nextTick = s.bus.nextTick ∧
    (State.reportStuckClosed s).bus.resetAt = s.bus.resetAt ∧
    (State.reportStuckClosed s).bus.duplicate = s.bus.duplicate ∧
    (State.reportStuckClosed s).port.lastMark = s.port.lastMark ∧
    (State.reportStuckClosed s).port.status = s.port.status ∧
    (State.reportStuckClosed s).port.faultCount = s.port.faultCount ∧
    (State.reportStuckClosed s).roster.entries.length = s.roster.entries.length := by
  dsimp only [State.reportStuckClosed]; repeat' split
  all_goals simp

@[simp] theorem State.takePending_frame (s : State) :
    (State.takePending s).now = s.now ∧ (State.takePending s).powered = s.powered ∧
    (State.takePending s).freeCount = s.freeCount ∧ (State.takePending s).bus = s.bus ∧
    (State.takePending s).roster = s.roster ∧ (State.takePending s).round = s.round ∧
    (State.takePending s).plan = s.plan ∧ (State.takePending s).store = s.store ∧
    (State.takePending s).catcher = s.catcher ∧ (State.takePending s).port = s.port ∧
    (State.takePending s).pending = s.pending := by
  dsimp only [State.takePending]; repeat' split
  all_goals simp

@[simp] theorem State.feedbackOpen_frame (s : State) :
    (State.feedbackOpen s).now = s.now ∧ (State.feedbackOpen s).powered = s.powered ∧
    (State.feedbackOpen s).freeCount = s.freeCount ∧ (State.feedbackOpen s).bus = s.bus ∧
    (State.feedbackOpen s).roster = s.roster ∧ (State.feedbackOpen s).round = s.round ∧
    (State.feedbackOpen s).plan = s.plan ∧ (State.feedbackOpen s).store = s.store ∧
    (State.feedbackOpen s).catcher = s.catcher ∧ (State.feedbackOpen s).port = s.port ∧
    (State.feedbackOpen s).pending = s.pending := by
  dsimp only [State.feedbackOpen]; repeat' split
  all_goals simp

@[simp] theorem State.feedbackClosed_frame (s : State) :
    (State.feedbackClosed s).now = s.now ∧ (State.feedbackClosed s).powered = s.powered ∧
    (State.feedbackClosed s).freeCount = s.freeCount ∧ (State.feedbackClosed s).store = s.store ∧
    (State.feedbackClosed s).pending = s.pending ∧ (State.feedbackClosed s).bus.heard = s.bus.heard ∧
    (State.feedbackClosed s).bus.nextTick = s.bus.nextTick ∧ (State.feedbackClosed s).bus.resetAt = s.bus.resetAt ∧
    (State.feedbackClosed s).bus.duplicate = s.bus.duplicate ∧
    (State.feedbackClosed s).port.lastMark = s.port.lastMark ∧ (State.feedbackClosed s).port.status = s.port.status ∧
    (State.feedbackClosed s).port.faultCount = s.port.faultCount ∧
    (State.feedbackClosed s).roster.entries.length = s.roster.entries.length := by
  dsimp only [State.feedbackClosed]; repeat' split
  all_goals simp

@[simp] theorem State.feedbackChange_frame (closed : Bool) (s : State) :
    (State.feedbackChange closed s).now = s.now ∧ (State.feedbackChange closed s).powered = s.powered ∧
    (State.feedbackChange closed s).freeCount = s.freeCount ∧ (State.feedbackChange closed s).store = s.store ∧
    (State.feedbackChange closed s).pending = s.pending ∧ (State.feedbackChange closed s).bus.heard = s.bus.heard ∧
    (State.feedbackChange closed s).bus.nextTick = s.bus.nextTick ∧
    (State.feedbackChange closed s).bus.resetAt = s.bus.resetAt ∧
    (State.feedbackChange closed s).bus.duplicate = s.bus.duplicate ∧
    (State.feedbackChange closed s).port.lastMark = s.port.lastMark ∧
    (State.feedbackChange closed s).port.status = s.port.status ∧
    (State.feedbackChange closed s).port.faultCount = s.port.faultCount ∧
    (State.feedbackChange closed s).roster.entries.length = s.roster.entries.length := by
  dsimp only [State.feedbackChange]; repeat' split
  all_goals simp

@[simp] theorem State.contactExpires_frame (s : State) :
    (State.contactExpires s).now = s.now ∧ (State.contactExpires s).powered = s.powered ∧
    (State.contactExpires s).freeCount = s.freeCount ∧ (State.contactExpires s).store = s.store ∧
    (State.contactExpires s).pending = s.pending ∧ (State.contactExpires s).bus.heard = s.bus.heard ∧
    (State.contactExpires s).bus.nextTick = s.bus.nextTick ∧ (State.contactExpires s).bus.resetAt = s.bus.resetAt ∧
    (State.contactExpires s).bus.duplicate = s.bus.duplicate ∧
    (State.contactExpires s).port.lastMark = s.port.lastMark ∧ (State.contactExpires s).port.status = s.port.status ∧
    (State.contactExpires s).port.faultCount = s.port.faultCount ∧
    (State.contactExpires s).roster.entries.length = s.roster.entries.length := by
  dsimp only [State.contactExpires]; repeat' split
  all_goals simp

@[simp] theorem State.hardFault_frame (k : FaultClass) (s : State) :
    (State.hardFault k s).now = s.now ∧ (State.hardFault k s).powered = s.powered ∧
    (State.hardFault k s).freeCount = s.freeCount ∧ (State.hardFault k s).store = s.store ∧
    (State.hardFault k s).pending = s.pending ∧ (State.hardFault k s).bus.heard = s.bus.heard ∧
    (State.hardFault k s).bus.nextTick = s.bus.nextTick ∧ (State.hardFault k s).bus.resetAt = s.bus.resetAt ∧
    (State.hardFault k s).bus.duplicate = s.bus.duplicate ∧ (State.hardFault k s).port.lastMark = s.port.lastMark ∧
    (State.hardFault k s).port.status = s.port.status ∧ (State.hardFault k s).port.faultCount = s.port.faultCount ∧
    (State.hardFault k s).roster.entries.length = s.roster.entries.length := by
  dsimp only [State.hardFault]; repeat' split
  all_goals simp

@[simp] theorem State.faultInput_frame (i : FaultInput) (a : Bool) (s : State) :
    (State.faultInput i a s).now = s.now ∧ (State.faultInput i a s).powered = s.powered ∧
    (State.faultInput i a s).freeCount = s.freeCount ∧ (State.faultInput i a s).store = s.store ∧
    (State.faultInput i a s).pending = s.pending ∧ (State.faultInput i a s).bus.heard = s.bus.heard ∧
    (State.faultInput i a s).bus.nextTick = s.bus.nextTick ∧ (State.faultInput i a s).bus.resetAt = s.bus.resetAt ∧
    (State.faultInput i a s).bus.duplicate = s.bus.duplicate ∧
    (State.faultInput i a s).port.lastMark = s.port.lastMark ∧ (State.faultInput i a s).port.status = s.port.status ∧
    (State.faultInput i a s).port.faultCount = s.port.faultCount ∧
    (State.faultInput i a s).roster.entries.length = s.roster.entries.length := by
  dsimp only [State.faultInput]; repeat' split
  all_goals simp

@[simp] theorem State.closeUnlessClosed_frame (s : State) :
    (State.closeUnlessClosed s).now = s.now ∧ (State.closeUnlessClosed s).powered = s.powered ∧
    (State.closeUnlessClosed s).freeCount = s.freeCount ∧ (State.closeUnlessClosed s).store = s.store ∧
    (State.closeUnlessClosed s).pending = s.pending ∧ (State.closeUnlessClosed s).bus.heard = s.bus.heard ∧
    (State.closeUnlessClosed s).bus.nextTick = s.bus.nextTick ∧
    (State.closeUnlessClosed s).bus.resetAt = s.bus.resetAt ∧
    (State.closeUnlessClosed s).bus.duplicate = s.bus.duplicate ∧
    (State.closeUnlessClosed s).port.lastMark = s.port.lastMark ∧
    (State.closeUnlessClosed s).port.status = s.port.status ∧
    (State.closeUnlessClosed s).port.faultCount = s.port.faultCount ∧
    (State.closeUnlessClosed s).roster.entries.length = s.roster.entries.length := by
  dsimp only [State.closeUnlessClosed]
  simp

@[simp] theorem State.softEffect_frame (p : Phase) (role : CellRole) (k : FaultClass) (s : State) :
    (State.softEffect p role k s).now = s.now ∧ (State.softEffect p role k s).powered = s.powered ∧
    (State.softEffect p role k s).freeCount = s.freeCount ∧ (State.softEffect p role k s).store = s.store ∧
    (State.softEffect p role k s).pending = s.pending ∧ (State.softEffect p role k s).bus.heard = s.bus.heard ∧
    (State.softEffect p role k s).bus.nextTick = s.bus.nextTick ∧
    (State.softEffect p role k s).bus.resetAt = s.bus.resetAt ∧
    (State.softEffect p role k s).bus.duplicate = s.bus.duplicate ∧
    (State.softEffect p role k s).port.lastMark = s.port.lastMark ∧
    (State.softEffect p role k s).port.status = s.port.status ∧
    (State.softEffect p role k s).port.faultCount = s.port.faultCount ∧
    (State.softEffect p role k s).roster.entries.length = s.roster.entries.length := by
  dsimp only [State.softEffect]; repeat' split
  all_goals simp

@[simp] theorem State.softFault_frame (k : FaultClass) (s : State) :
    (State.softFault k s).now = s.now ∧ (State.softFault k s).powered = s.powered ∧
    (State.softFault k s).freeCount = s.freeCount ∧ (State.softFault k s).store = s.store ∧
    (State.softFault k s).pending = s.pending ∧ (State.softFault k s).bus.heard = s.bus.heard ∧
    (State.softFault k s).bus.nextTick = s.bus.nextTick ∧ (State.softFault k s).bus.resetAt = s.bus.resetAt ∧
    (State.softFault k s).bus.duplicate = s.bus.duplicate ∧ (State.softFault k s).port.lastMark = s.port.lastMark ∧
    (State.softFault k s).port.status = s.port.status ∧ (State.softFault k s).port.faultCount = s.port.faultCount ∧
    (State.softFault k s).roster.entries.length = s.roster.entries.length := by
  dsimp only [State.softFault]
  simp

@[simp] theorem State.testReadmission_frame (s : State) :
    (State.testReadmission s).now = s.now ∧ (State.testReadmission s).powered = s.powered ∧
    (State.testReadmission s).freeCount = s.freeCount ∧ (State.testReadmission s).store = s.store ∧
    (State.testReadmission s).bypass = s.bypass ∧ (State.testReadmission s).pending = s.pending ∧
    (State.testReadmission s).bus.heard = s.bus.heard ∧ (State.testReadmission s).bus.nextTick = s.bus.nextTick ∧
    (State.testReadmission s).bus.resetAt = s.bus.resetAt ∧
    (State.testReadmission s).bus.duplicate = s.bus.duplicate ∧
    (State.testReadmission s).port.lastMark = s.port.lastMark ∧
    (State.testReadmission s).port.status = s.port.status ∧
    (State.testReadmission s).port.faultCount = s.port.faultCount ∧
    (State.testReadmission s).roster.entries.length = s.roster.entries.length := by
  dsimp only [State.testReadmission]
  simp

@[simp] theorem State.evaluateCheck_frame (v : PassValues) (s : State) :
    (State.evaluateCheck v s).now = s.now ∧ (State.evaluateCheck v s).powered = s.powered ∧
    (State.evaluateCheck v s).freeCount = s.freeCount ∧ (State.evaluateCheck v s).store = s.store ∧
    (State.evaluateCheck v s).pending = s.pending ∧ (State.evaluateCheck v s).bus.heard = s.bus.heard ∧
    (State.evaluateCheck v s).bus.nextTick = s.bus.nextTick ∧ (State.evaluateCheck v s).bus.resetAt = s.bus.resetAt ∧
    (State.evaluateCheck v s).bus.duplicate = s.bus.duplicate ∧
    (State.evaluateCheck v s).port.lastMark = s.port.lastMark ∧
    (State.evaluateCheck v s).port.status = s.port.status ∧
    (State.evaluateCheck v s).port.faultCount = s.port.faultCount ∧
    (State.evaluateCheck v s).roster.entries.length = s.roster.entries.length := by
  dsimp only [State.evaluateCheck]; repeat' split
  all_goals simp

@[simp] theorem State.beginActive_frame (s : State) :
    (State.beginActive s).now = s.now ∧ (State.beginActive s).powered = s.powered ∧
    (State.beginActive s).freeCount = s.freeCount ∧ (State.beginActive s).bus = s.bus ∧
    (State.beginActive s).roster = s.roster ∧ (State.beginActive s).round = s.round ∧
    (State.beginActive s).plan = s.plan ∧ (State.beginActive s).store = s.store ∧
    (State.beginActive s).catcher = s.catcher ∧ (State.beginActive s).port = s.port ∧
    (State.beginActive s).pending = s.pending := by
  dsimp only [State.beginActive]; repeat' split
  all_goals simp

@[simp] theorem State.beginSpare_frame (s : State) :
    (State.beginSpare s).now = s.now ∧ (State.beginSpare s).powered = s.powered ∧
    (State.beginSpare s).freeCount = s.freeCount ∧ (State.beginSpare s).store = s.store ∧
    (State.beginSpare s).pending = s.pending ∧ (State.beginSpare s).bus.heard = s.bus.heard ∧
    (State.beginSpare s).bus.nextTick = s.bus.nextTick ∧ (State.beginSpare s).bus.resetAt = s.bus.resetAt ∧
    (State.beginSpare s).bus.duplicate = s.bus.duplicate ∧ (State.beginSpare s).port.lastMark = s.port.lastMark ∧
    (State.beginSpare s).port.status = s.port.status ∧ (State.beginSpare s).port.faultCount = s.port.faultCount ∧
    (State.beginSpare s).roster.entries.length = s.roster.entries.length := by
  dsimp only [State.beginSpare]; repeat' split
  all_goals simp

@[simp] theorem State.startCheck_frame (s : State) :
    (State.startCheck s).now = s.now ∧ (State.startCheck s).powered = s.powered ∧
    (State.startCheck s).freeCount = s.freeCount ∧ (State.startCheck s).store = s.store ∧
    (State.startCheck s).pending = s.pending ∧ (State.startCheck s).bus.heard = s.bus.heard ∧
    (State.startCheck s).bus.nextTick = s.bus.nextTick ∧ (State.startCheck s).bus.resetAt = s.bus.resetAt ∧
    (State.startCheck s).bus.duplicate = s.bus.duplicate ∧ (State.startCheck s).port.lastMark = s.port.lastMark ∧
    (State.startCheck s).port.status = s.port.status ∧ (State.startCheck s).port.faultCount = s.port.faultCount ∧
    (State.startCheck s).roster.entries.length = s.roster.entries.length := by
  dsimp only [State.startCheck, State.beginCheck]; repeat' split
  all_goals simp

@[simp] theorem State.handleAssertions_frame (w : Watch) (v : PassValues) (s : State) :
    (State.handleAssertions w v s).now = s.now ∧ (State.handleAssertions w v s).powered = s.powered ∧
    (State.handleAssertions w v s).freeCount = s.freeCount ∧ (State.handleAssertions w v s).store = s.store ∧
    (State.handleAssertions w v s).pending = s.pending ∧ (State.handleAssertions w v s).bus.heard = s.bus.heard ∧
    (State.handleAssertions w v s).bus.nextTick = s.bus.nextTick ∧
    (State.handleAssertions w v s).bus.resetAt = s.bus.resetAt ∧
    (State.handleAssertions w v s).bus.duplicate = s.bus.duplicate ∧
    (State.handleAssertions w v s).port.lastMark = s.port.lastMark ∧
    (State.handleAssertions w v s).port.status = s.port.status ∧
    (State.handleAssertions w v s).port.faultCount = s.port.faultCount ∧
    (State.handleAssertions w v s).roster.entries.length = s.roster.entries.length := by
  dsimp only [State.handleAssertions]; repeat' split
  all_goals simp

@[simp] theorem State.classifyPass_frame (start : Time) (v : PassValues) (s : State) :
    (State.classifyPass start v s).now = s.now ∧ (State.classifyPass start v s).powered = s.powered ∧
    (State.classifyPass start v s).freeCount = s.freeCount ∧ (State.classifyPass start v s).store = s.store ∧
    (State.classifyPass start v s).pending = s.pending ∧ (State.classifyPass start v s).bus.heard = s.bus.heard ∧
    (State.classifyPass start v s).bus.nextTick = s.bus.nextTick ∧
    (State.classifyPass start v s).bus.resetAt = s.bus.resetAt ∧
    (State.classifyPass start v s).bus.duplicate = s.bus.duplicate ∧
    (State.classifyPass start v s).port.lastMark = s.port.lastMark ∧
    (State.classifyPass start v s).port.status = s.port.status ∧
    (State.classifyPass start v s).port.faultCount = s.port.faultCount ∧
    (State.classifyPass start v s).roster.entries.length = s.roster.entries.length := by
  dsimp only [State.classifyPass]
  simp

@[simp] theorem State.passEnd_frame (start : Time) (s : State) :
    (State.passEnd start s).now = s.now ∧ (State.passEnd start s).powered = s.powered ∧
    (State.passEnd start s).freeCount = s.freeCount ∧ (State.passEnd start s).store = s.store ∧
    (State.passEnd start s).pending = s.pending ∧ (State.passEnd start s).bus.heard = s.bus.heard ∧
    (State.passEnd start s).bus.nextTick = s.bus.nextTick ∧ (State.passEnd start s).bus.resetAt = s.bus.resetAt ∧
    (State.passEnd start s).bus.duplicate = s.bus.duplicate ∧
    (State.passEnd start s).port.lastMark = s.port.lastMark ∧ (State.passEnd start s).port.status = s.port.status ∧
    (State.passEnd start s).port.faultCount = s.port.faultCount ∧
    (State.passEnd start s).roster.entries.length = s.roster.entries.length := by
  dsimp only [State.passEnd]
  simp

@[simp] theorem State.joinAssertion_frame (s : State) :
    (State.joinAssertion s).now = s.now ∧ (State.joinAssertion s).powered = s.powered ∧
    (State.joinAssertion s).freeCount = s.freeCount ∧ (State.joinAssertion s).store = s.store ∧
    (State.joinAssertion s).bypass = s.bypass ∧ (State.joinAssertion s).pending = s.pending ∧
    (State.joinAssertion s).bus.heard = s.bus.heard ∧ (State.joinAssertion s).bus.nextTick = s.bus.nextTick ∧
    (State.joinAssertion s).bus.resetAt = s.bus.resetAt ∧ (State.joinAssertion s).bus.duplicate = s.bus.duplicate ∧
    (State.joinAssertion s).port.lastMark = s.port.lastMark ∧ (State.joinAssertion s).port.status = s.port.status ∧
    (State.joinAssertion s).port.faultCount = s.port.faultCount ∧
    (State.joinAssertion s).roster.entries.length = s.roster.entries.length := by
  dsimp only [State.joinAssertion]; repeat' split
  all_goals simp

@[simp] theorem State.escalate_frame (s : State) :
    (State.escalate s).now = s.now ∧ (State.escalate s).powered = s.powered ∧
    (State.escalate s).freeCount = s.freeCount ∧ (State.escalate s).store = s.store ∧
    (State.escalate s).bypass = s.bypass ∧ (State.escalate s).pending = s.pending ∧
    (State.escalate s).bus.heard = s.bus.heard ∧ (State.escalate s).bus.nextTick = s.bus.nextTick ∧
    (State.escalate s).bus.resetAt = s.bus.resetAt ∧ (State.escalate s).bus.duplicate = s.bus.duplicate ∧
    (State.escalate s).port.lastMark = s.port.lastMark ∧ (State.escalate s).port.status = s.port.status ∧
    (State.escalate s).port.faultCount = s.port.faultCount ∧
    (State.escalate s).roster.entries.length = s.roster.entries.length := by
  dsimp only [State.escalate]; repeat' split
  all_goals simp

@[simp] theorem State.resetBypassed_frame (s : State) :
    (State.resetBypassed s).now = s.now ∧ (State.resetBypassed s).powered = s.powered ∧
    (State.resetBypassed s).freeCount = s.freeCount ∧ (State.resetBypassed s).store = s.store ∧
    (State.resetBypassed s).bypass = s.bypass ∧ (State.resetBypassed s).pending = s.pending ∧
    (State.resetBypassed s).bus.heard = s.bus.heard ∧ (State.resetBypassed s).bus.nextTick = s.bus.nextTick ∧
    (State.resetBypassed s).bus.resetAt = s.bus.resetAt ∧ (State.resetBypassed s).bus.duplicate = s.bus.duplicate ∧
    (State.resetBypassed s).port.lastMark = s.port.lastMark ∧ (State.resetBypassed s).port.status = s.port.status ∧
    (State.resetBypassed s).port.faultCount = s.port.faultCount ∧
    (State.resetBypassed s).roster.entries.length = s.roster.entries.length := by
  dsimp only [State.resetBypassed]; repeat' split
  all_goals simp

@[simp] theorem State.faultReset_frame (s : State) :
    (State.faultReset s).now = s.now ∧ (State.faultReset s).powered = s.powered ∧
    (State.faultReset s).freeCount = s.freeCount ∧ (State.faultReset s).store = s.store ∧
    (State.faultReset s).bypass = s.bypass ∧ (State.faultReset s).pending = s.pending ∧
    (State.faultReset s).bus.heard = s.bus.heard ∧ (State.faultReset s).bus.nextTick = s.bus.nextTick ∧
    (State.faultReset s).bus.resetAt = s.bus.resetAt ∧ (State.faultReset s).bus.duplicate = s.bus.duplicate ∧
    (State.faultReset s).port.lastMark = s.port.lastMark ∧ (State.faultReset s).port.status = s.port.status ∧
    (State.faultReset s).port.faultCount = s.port.faultCount ∧
    (State.faultReset s).roster.entries.length = s.roster.entries.length := by
  dsimp only [State.faultReset]
  simp

@[simp] theorem State.decideStep_frame (s : State) :
    (State.decideStep s).now = s.now ∧ (State.decideStep s).powered = s.powered ∧
    (State.decideStep s).freeCount = s.freeCount ∧ (State.decideStep s).roster = s.roster ∧
    (State.decideStep s).round = s.round ∧ (State.decideStep s).plan = s.plan ∧
    (State.decideStep s).scanner = s.scanner ∧ (State.decideStep s).store = s.store ∧
    (State.decideStep s).watch = s.watch ∧ (State.decideStep s).bypass = s.bypass ∧
    (State.decideStep s).catcher = s.catcher ∧ (State.decideStep s).pending = s.pending ∧
    (State.decideStep s).bus.heard = s.bus.heard ∧ (State.decideStep s).bus.nextTick = s.bus.nextTick ∧
    (State.decideStep s).bus.resetAt = s.bus.resetAt ∧ (State.decideStep s).bus.duplicate = s.bus.duplicate ∧
    (State.decideStep s).port.lastMark = s.port.lastMark ∧ (State.decideStep s).port.status = s.port.status ∧
    (State.decideStep s).port.faultCount = s.port.faultCount := by
  dsimp only [State.decideStep]; repeat' split
  all_goals simp

@[simp] theorem State.isolationWrite_frame (s : State) :
    (State.isolationWrite s).now = s.now ∧ (State.isolationWrite s).powered = s.powered ∧
    (State.isolationWrite s).freeCount = s.freeCount ∧ (State.isolationWrite s).store = s.store ∧
    (State.isolationWrite s).bypass = s.bypass ∧ (State.isolationWrite s).pending = s.pending ∧
    (State.isolationWrite s).bus.heard = s.bus.heard ∧ (State.isolationWrite s).bus.nextTick = s.bus.nextTick ∧
    (State.isolationWrite s).bus.resetAt = s.bus.resetAt ∧ (State.isolationWrite s).bus.duplicate = s.bus.duplicate ∧
    (State.isolationWrite s).port.lastMark = s.port.lastMark ∧ (State.isolationWrite s).port.status = s.port.status ∧
    (State.isolationWrite s).port.faultCount = s.port.faultCount ∧
    (State.isolationWrite s).roster.entries.length = s.roster.entries.length := by
  dsimp only [State.isolationWrite]
  simp

@[simp] theorem State.commandsOnEntry_frame (p0 p : Phase) (s : State) :
    (State.commandsOnEntry p0 p s).now = s.now ∧ (State.commandsOnEntry p0 p s).powered = s.powered ∧
    (State.commandsOnEntry p0 p s).freeCount = s.freeCount ∧ (State.commandsOnEntry p0 p s).store = s.store ∧
    (State.commandsOnEntry p0 p s).pending = s.pending ∧ (State.commandsOnEntry p0 p s).bus.heard = s.bus.heard ∧
    (State.commandsOnEntry p0 p s).bus.nextTick = s.bus.nextTick ∧
    (State.commandsOnEntry p0 p s).bus.resetAt = s.bus.resetAt ∧
    (State.commandsOnEntry p0 p s).bus.duplicate = s.bus.duplicate ∧
    (State.commandsOnEntry p0 p s).port.lastMark = s.port.lastMark ∧
    (State.commandsOnEntry p0 p s).port.status = s.port.status ∧
    (State.commandsOnEntry p0 p s).port.faultCount = s.port.faultCount ∧
    (State.commandsOnEntry p0 p s).roster.entries.length = s.roster.entries.length := by
  dsimp only [State.commandsOnEntry]; repeat' split
  all_goals simp

@[simp] theorem State.enterPhase_frame (p : Phase) (s : State) :
    (State.enterPhase p s).now = s.now ∧ (State.enterPhase p s).powered = s.powered ∧
    (State.enterPhase p s).freeCount = s.freeCount ∧ (State.enterPhase p s).store = s.store ∧
    (State.enterPhase p s).pending = s.pending ∧ (State.enterPhase p s).bus.heard = s.bus.heard ∧
    (State.enterPhase p s).bus.nextTick = s.bus.nextTick ∧ (State.enterPhase p s).bus.resetAt = s.bus.resetAt ∧
    (State.enterPhase p s).bus.duplicate = s.bus.duplicate ∧ (State.enterPhase p s).port.lastMark = s.port.lastMark ∧
    (State.enterPhase p s).port.status = s.port.status ∧ (State.enterPhase p s).port.faultCount = s.port.faultCount ∧
    (State.enterPhase p s).roster.entries.length = s.roster.entries.length := by
  dsimp only [State.enterPhase]
  simp

@[simp] theorem State.afterRemoval_frame (before : List Nat) (s : State) :
    (State.afterRemoval before s).now = s.now ∧ (State.afterRemoval before s).powered = s.powered ∧
    (State.afterRemoval before s).freeCount = s.freeCount ∧ (State.afterRemoval before s).bus = s.bus ∧
    (State.afterRemoval before s).roster = s.roster ∧ (State.afterRemoval before s).round = s.round ∧
    (State.afterRemoval before s).plan = s.plan ∧ (State.afterRemoval before s).store = s.store ∧
    (State.afterRemoval before s).watch = s.watch ∧ (State.afterRemoval before s).bypass = s.bypass ∧
    (State.afterRemoval before s).port = s.port ∧ (State.afterRemoval before s).pending = s.pending := by
  dsimp only [State.afterRemoval]
  simp

@[simp] theorem State.recordStep_frame (station : Nat) (armed : Bool) (s : State) :
    (State.recordStep station armed s).now = s.now ∧ (State.recordStep station armed s).powered = s.powered ∧
    (State.recordStep station armed s).freeCount = s.freeCount ∧ (State.recordStep station armed s).bus = s.bus ∧
    (State.recordStep station armed s).roster = s.roster ∧ (State.recordStep station armed s).plan = s.plan ∧
    (State.recordStep station armed s).store = s.store ∧ (State.recordStep station armed s).watch = s.watch ∧
    (State.recordStep station armed s).bypass = s.bypass ∧ (State.recordStep station armed s).port = s.port ∧
    (State.recordStep station armed s).pending = s.pending := by
  dsimp only [State.recordStep]
  simp

@[simp] theorem State.recordEarly_frame (digest : Half) (s : State) :
    (State.recordEarly digest s).now = s.now ∧ (State.recordEarly digest s).powered = s.powered ∧
    (State.recordEarly digest s).freeCount = s.freeCount ∧ (State.recordEarly digest s).bus = s.bus ∧
    (State.recordEarly digest s).roster = s.roster ∧ (State.recordEarly digest s).plan = s.plan ∧
    (State.recordEarly digest s).store = s.store ∧ (State.recordEarly digest s).watch = s.watch ∧
    (State.recordEarly digest s).bypass = s.bypass ∧ (State.recordEarly digest s).port = s.port ∧
    (State.recordEarly digest s).pending = s.pending := by
  refine ⟨?_, ?_, ?_, ?_, ?_, ?_, ?_, ?_, ?_, ?_, ?_⟩
  · exact State.foldl_keeps s (fun s => s.now) _ (by simp) _
  · exact State.foldl_keeps s (fun s => s.powered) _ (by simp) _
  · exact State.foldl_keeps s (fun s => s.freeCount) _ (by simp) _
  · exact State.foldl_keeps s (fun s => s.bus) _ (by simp) _
  · exact State.foldl_keeps s (fun s => s.roster) _ (by simp) _
  · exact State.foldl_keeps s (fun s => s.plan) _ (by simp) _
  · exact State.foldl_keeps s (fun s => s.store) _ (by simp) _
  · exact State.foldl_keeps s (fun s => s.watch) _ (by simp) _
  · exact State.foldl_keeps s (fun s => s.bypass) _ (by simp) _
  · exact State.foldl_keeps s (fun s => s.port) _ (by simp) _
  · exact State.foldl_keeps s (fun s => s.pending) _ (by simp) _

@[simp] theorem State.clearArmed_frame (digest : Half) (s : State) :
    (State.clearArmed digest s).now = s.now ∧ (State.clearArmed digest s).powered = s.powered ∧
    (State.clearArmed digest s).freeCount = s.freeCount ∧ (State.clearArmed digest s).bus = s.bus ∧
    (State.clearArmed digest s).roster = s.roster ∧ (State.clearArmed digest s).plan = s.plan ∧
    (State.clearArmed digest s).store = s.store ∧ (State.clearArmed digest s).watch = s.watch ∧
    (State.clearArmed digest s).bypass = s.bypass ∧ (State.clearArmed digest s).port = s.port ∧
    (State.clearArmed digest s).pending = s.pending := by
  dsimp only [State.clearArmed]
  simp

@[simp] theorem State.closeIfOut_frame (s : State) :
    (State.closeIfOut s).now = s.now ∧ (State.closeIfOut s).powered = s.powered ∧
    (State.closeIfOut s).freeCount = s.freeCount ∧ (State.closeIfOut s).store = s.store ∧
    (State.closeIfOut s).pending = s.pending ∧ (State.closeIfOut s).bus.heard = s.bus.heard ∧
    (State.closeIfOut s).bus.nextTick = s.bus.nextTick ∧ (State.closeIfOut s).bus.resetAt = s.bus.resetAt ∧
    (State.closeIfOut s).bus.duplicate = s.bus.duplicate ∧ (State.closeIfOut s).port.lastMark = s.port.lastMark ∧
    (State.closeIfOut s).port.status = s.port.status ∧ (State.closeIfOut s).port.faultCount = s.port.faultCount ∧
    (State.closeIfOut s).roster.entries.length = s.roster.entries.length := by
  dsimp only [State.closeIfOut]
  simp

@[simp] theorem State.adoptCandidate_frame (c : Plan) (digest : Half) (s : State) :
    (State.adoptCandidate c digest s).now = s.now ∧ (State.adoptCandidate c digest s).powered = s.powered ∧
    (State.adoptCandidate c digest s).freeCount = s.freeCount ∧ (State.adoptCandidate c digest s).store = s.store ∧
    (State.adoptCandidate c digest s).pending = s.pending ∧
    (State.adoptCandidate c digest s).bus.heard = s.bus.heard ∧
    (State.adoptCandidate c digest s).bus.nextTick = s.bus.nextTick ∧
    (State.adoptCandidate c digest s).bus.resetAt = s.bus.resetAt ∧
    (State.adoptCandidate c digest s).bus.duplicate = s.bus.duplicate ∧
    (State.adoptCandidate c digest s).port.lastMark = s.port.lastMark ∧
    (State.adoptCandidate c digest s).port.status = s.port.status ∧
    (State.adoptCandidate c digest s).port.faultCount = s.port.faultCount ∧
    (State.adoptCandidate c digest s).roster.entries.length = s.roster.entries.length := by
  dsimp only [State.adoptCandidate]
  simp

@[simp] theorem State.cellRefusal_frame (s : State) :
    (State.cellRefusal s).now = s.now ∧ (State.cellRefusal s).powered = s.powered ∧
    (State.cellRefusal s).freeCount = s.freeCount ∧ (State.cellRefusal s).store = s.store ∧
    (State.cellRefusal s).bypass = s.bypass ∧ (State.cellRefusal s).pending = s.pending ∧
    (State.cellRefusal s).bus.heard = s.bus.heard ∧ (State.cellRefusal s).bus.nextTick = s.bus.nextTick ∧
    (State.cellRefusal s).bus.resetAt = s.bus.resetAt ∧ (State.cellRefusal s).bus.duplicate = s.bus.duplicate ∧
    (State.cellRefusal s).port.lastMark = s.port.lastMark ∧ (State.cellRefusal s).port.status = s.port.status ∧
    (State.cellRefusal s).port.faultCount = s.port.faultCount ∧
    (State.cellRefusal s).roster.entries.length = s.roster.entries.length := by
  dsimp only [State.cellRefusal]
  simp

/-- What the transition a phase makes at once leaves. -/
theorem State.entryTransition_frame {s s1 : State} {p : Phase} (h : s.entryTransition = some (s1, p)) :
    s1.now = s.now ∧
    s1.powered = s.powered ∧
    s1.freeCount = s.freeCount ∧
    s1.store = s.store ∧
    s1.pending = s.pending ∧
    s1.bus.heard = s.bus.heard ∧
    s1.bus.nextTick = s.bus.nextTick ∧
    s1.bus.resetAt = s.bus.resetAt ∧
    s1.bus.duplicate = s.bus.duplicate ∧
    s1.port.lastMark = s.port.lastMark ∧
    s1.port.status = s.port.status ∧
    s1.port.faultCount = s.port.faultCount ∧
    s1.roster.entries.length = s.roster.entries.length := by
  dsimp only [State.entryTransition] at h
  repeat' split at h
  all_goals simp_all <;> (obtain ⟨rfl, -⟩ := h; simp)

@[simp] theorem State.settleEntry_frame (fuel : Nat) (s : State) :
    (State.settleEntry fuel s).now = s.now ∧ (State.settleEntry fuel s).powered = s.powered ∧
    (State.settleEntry fuel s).freeCount = s.freeCount ∧ (State.settleEntry fuel s).store = s.store ∧
    (State.settleEntry fuel s).pending = s.pending ∧ (State.settleEntry fuel s).bus.heard = s.bus.heard ∧
    (State.settleEntry fuel s).bus.nextTick = s.bus.nextTick ∧
    (State.settleEntry fuel s).bus.resetAt = s.bus.resetAt ∧
    (State.settleEntry fuel s).bus.duplicate = s.bus.duplicate ∧
    (State.settleEntry fuel s).port.lastMark = s.port.lastMark ∧
    (State.settleEntry fuel s).port.status = s.port.status ∧
    (State.settleEntry fuel s).port.faultCount = s.port.faultCount ∧
    (State.settleEntry fuel s).roster.entries.length = s.roster.entries.length := by
  induction fuel generalizing s with
  | zero => simp [State.settleEntry]
  | succ n ih =>
    simp only [State.settleEntry]
    split
    · rename_i h
      have e := State.entryTransition_frame h
      simp [ih, e]
    · simp

@[simp] theorem State.enter_frame (p : Phase) (s : State) :
    (State.enter p s).now = s.now ∧ (State.enter p s).powered = s.powered ∧
    (State.enter p s).freeCount = s.freeCount ∧ (State.enter p s).store = s.store ∧
    (State.enter p s).pending = s.pending ∧ (State.enter p s).bus.heard = s.bus.heard ∧
    (State.enter p s).bus.nextTick = s.bus.nextTick ∧ (State.enter p s).bus.resetAt = s.bus.resetAt ∧
    (State.enter p s).bus.duplicate = s.bus.duplicate ∧ (State.enter p s).port.lastMark = s.port.lastMark ∧
    (State.enter p s).port.status = s.port.status ∧ (State.enter p s).port.faultCount = s.port.faultCount ∧
    (State.enter p s).roster.entries.length = s.roster.entries.length := by
  dsimp only [State.enter]
  simp

@[simp] theorem State.announce_frame (c : Plan) (digest : Half) (s : State) :
    (State.announce c digest s).now = s.now ∧ (State.announce c digest s).powered = s.powered ∧
    (State.announce c digest s).freeCount = s.freeCount ∧ (State.announce c digest s).bus = s.bus ∧
    (State.announce c digest s).roster = s.roster ∧ (State.announce c digest s).round = s.round ∧
    (State.announce c digest s).plan = s.plan ∧ (State.announce c digest s).scanner = s.scanner ∧
    (State.announce c digest s).store = s.store ∧ (State.announce c digest s).watch = s.watch ∧
    (State.announce c digest s).bypass = s.bypass ∧ (State.announce c digest s).catcher = s.catcher ∧
    (State.announce c digest s).pending = s.pending ∧ (State.announce c digest s).port.lastMark = s.port.lastMark ∧
    (State.announce c digest s).port.status = s.port.status ∧
    (State.announce c digest s).port.faultCount = s.port.faultCount := by
  dsimp only [State.announce]
  simp

@[simp] theorem State.testRevision_frame (s : State) :
    (State.testRevision s).now = s.now ∧ (State.testRevision s).powered = s.powered ∧
    (State.testRevision s).freeCount = s.freeCount ∧ (State.testRevision s).bus = s.bus ∧
    (State.testRevision s).roster = s.roster ∧ (State.testRevision s).round = s.round ∧
    (State.testRevision s).plan = s.plan ∧ (State.testRevision s).scanner = s.scanner ∧
    (State.testRevision s).store = s.store ∧ (State.testRevision s).watch = s.watch ∧
    (State.testRevision s).bypass = s.bypass ∧ (State.testRevision s).catcher = s.catcher ∧
    (State.testRevision s).pending = s.pending ∧ (State.testRevision s).port.lastMark = s.port.lastMark ∧
    (State.testRevision s).port.status = s.port.status ∧ (State.testRevision s).port.faultCount = s.port.faultCount := by
  dsimp only [State.testRevision]; repeat' split
  all_goals simp

@[simp] theorem State.enterIf_frame (c : Bool) (p : Phase) (s : State) :
    (State.enterIf c p s).now = s.now ∧ (State.enterIf c p s).powered = s.powered ∧
    (State.enterIf c p s).freeCount = s.freeCount ∧ (State.enterIf c p s).store = s.store ∧
    (State.enterIf c p s).pending = s.pending ∧ (State.enterIf c p s).bus.heard = s.bus.heard ∧
    (State.enterIf c p s).bus.nextTick = s.bus.nextTick ∧ (State.enterIf c p s).bus.resetAt = s.bus.resetAt ∧
    (State.enterIf c p s).bus.duplicate = s.bus.duplicate ∧ (State.enterIf c p s).port.lastMark = s.port.lastMark ∧
    (State.enterIf c p s).port.status = s.port.status ∧ (State.enterIf c p s).port.faultCount = s.port.faultCount ∧
    (State.enterIf c p s).roster.entries.length = s.roster.entries.length := by
  dsimp only [State.enterIf]
  simp

@[simp] theorem State.testTransition_frame (s : State) :
    (State.testTransition s).now = s.now ∧ (State.testTransition s).powered = s.powered ∧
    (State.testTransition s).freeCount = s.freeCount ∧ (State.testTransition s).store = s.store ∧
    (State.testTransition s).pending = s.pending ∧ (State.testTransition s).bus.heard = s.bus.heard ∧
    (State.testTransition s).bus.nextTick = s.bus.nextTick ∧ (State.testTransition s).bus.resetAt = s.bus.resetAt ∧
    (State.testTransition s).bus.duplicate = s.bus.duplicate ∧
    (State.testTransition s).port.lastMark = s.port.lastMark ∧ (State.testTransition s).port.status = s.port.status ∧
    (State.testTransition s).port.faultCount = s.port.faultCount ∧
    (State.testTransition s).roster.entries.length = s.roster.entries.length := by
  dsimp only [State.testTransition]
  simp

@[simp] theorem State.testAgreement_frame (s : State) :
    (State.testAgreement s).now = s.now ∧ (State.testAgreement s).powered = s.powered ∧
    (State.testAgreement s).freeCount = s.freeCount ∧ (State.testAgreement s).store = s.store ∧
    (State.testAgreement s).pending = s.pending ∧ (State.testAgreement s).bus.heard = s.bus.heard ∧
    (State.testAgreement s).bus.nextTick = s.bus.nextTick ∧ (State.testAgreement s).bus.resetAt = s.bus.resetAt ∧
    (State.testAgreement s).bus.duplicate = s.bus.duplicate ∧
    (State.testAgreement s).port.lastMark = s.port.lastMark ∧ (State.testAgreement s).port.status = s.port.status ∧
    (State.testAgreement s).port.faultCount = s.port.faultCount ∧
    (State.testAgreement s).roster.entries.length = s.roster.entries.length := by
  dsimp only [State.testAgreement]; repeat' split
  all_goals simp

@[simp] theorem State.handVerdict_frame (s : State) :
    (State.handVerdict s).now = s.now ∧ (State.handVerdict s).powered = s.powered ∧
    (State.handVerdict s).freeCount = s.freeCount ∧ (State.handVerdict s).store = s.store ∧
    (State.handVerdict s).pending = s.pending ∧ (State.handVerdict s).bus.heard = s.bus.heard ∧
    (State.handVerdict s).bus.nextTick = s.bus.nextTick ∧ (State.handVerdict s).bus.resetAt = s.bus.resetAt ∧
    (State.handVerdict s).bus.duplicate = s.bus.duplicate ∧ (State.handVerdict s).port.lastMark = s.port.lastMark ∧
    (State.handVerdict s).port.status = s.port.status ∧ (State.handVerdict s).port.faultCount = s.port.faultCount ∧
    (State.handVerdict s).roster.entries.length = s.roster.entries.length := by
  dsimp only [State.handVerdict]; repeat' split
  all_goals simp

@[simp] theorem State.roleAction_frame (old : CellRole) (s : State) :
    (State.roleAction old s).now = s.now ∧ (State.roleAction old s).powered = s.powered ∧
    (State.roleAction old s).freeCount = s.freeCount ∧ (State.roleAction old s).store = s.store ∧
    (State.roleAction old s).pending = s.pending ∧ (State.roleAction old s).bus.heard = s.bus.heard ∧
    (State.roleAction old s).bus.nextTick = s.bus.nextTick ∧ (State.roleAction old s).bus.resetAt = s.bus.resetAt ∧
    (State.roleAction old s).bus.duplicate = s.bus.duplicate ∧
    (State.roleAction old s).port.lastMark = s.port.lastMark ∧ (State.roleAction old s).port.status = s.port.status ∧
    (State.roleAction old s).port.faultCount = s.port.faultCount ∧
    (State.roleAction old s).roster.entries.length = s.roster.entries.length := by
  dsimp only [State.roleAction]; repeat' split
  all_goals simp

@[simp] theorem State.adoptSwitch_frame (c : Plan) (digest : Half) (s : State) :
    (State.adoptSwitch c digest s).now = s.now ∧ (State.adoptSwitch c digest s).powered = s.powered ∧
    (State.adoptSwitch c digest s).freeCount = s.freeCount ∧ (State.adoptSwitch c digest s).store = s.store ∧
    (State.adoptSwitch c digest s).pending = s.pending ∧ (State.adoptSwitch c digest s).bus.heard = s.bus.heard ∧
    (State.adoptSwitch c digest s).bus.nextTick = s.bus.nextTick ∧
    (State.adoptSwitch c digest s).bus.resetAt = s.bus.resetAt ∧
    (State.adoptSwitch c digest s).bus.duplicate = s.bus.duplicate ∧
    (State.adoptSwitch c digest s).port.lastMark = s.port.lastMark ∧
    (State.adoptSwitch c digest s).port.status = s.port.status ∧
    (State.adoptSwitch c digest s).port.faultCount = s.port.faultCount ∧
    (State.adoptSwitch c digest s).roster.entries.length = s.roster.entries.length := by
  dsimp only [State.adoptSwitch]
  simp

@[simp] theorem State.hear_frame (f : Frame) (s : State) :
    (State.hear f s).now = s.now ∧ (State.hear f s).powered = s.powered ∧ (State.hear f s).freeCount = s.freeCount ∧
    (State.hear f s).roster = s.roster ∧ (State.hear f s).round = s.round ∧ (State.hear f s).plan = s.plan ∧
    (State.hear f s).scanner = s.scanner ∧ (State.hear f s).store = s.store ∧ (State.hear f s).watch = s.watch ∧
    (State.hear f s).bypass = s.bypass ∧ (State.hear f s).catcher = s.catcher ∧ (State.hear f s).port = s.port ∧
    (State.hear f s).pending = s.pending ∧ (State.hear f s).bus.nextTick = s.bus.nextTick ∧
    (State.hear f s).bus.resetAt = s.bus.resetAt ∧ (State.hear f s).bus.duplicate = s.bus.duplicate := by
  dsimp only [State.hear]
  simp

@[simp] theorem State.endIsolation_frame (s : State) :
    (State.endIsolation s).now = s.now ∧ (State.endIsolation s).powered = s.powered ∧
    (State.endIsolation s).freeCount = s.freeCount ∧ (State.endIsolation s).store = s.store ∧
    (State.endIsolation s).pending = s.pending ∧ (State.endIsolation s).bus.heard = s.bus.heard ∧
    (State.endIsolation s).bus.nextTick = s.bus.nextTick ∧ (State.endIsolation s).bus.resetAt = s.bus.resetAt ∧
    (State.endIsolation s).bus.duplicate = s.bus.duplicate ∧ (State.endIsolation s).port.lastMark = s.port.lastMark ∧
    (State.endIsolation s).port.status = s.port.status ∧ (State.endIsolation s).port.faultCount = s.port.faultCount ∧
    (State.endIsolation s).roster.entries.length = s.roster.entries.length := by
  dsimp only [State.endIsolation]
  simp

@[simp] theorem State.adoptEpoch_frame (f : Frame) (s : State) :
    (State.adoptEpoch f s).now = s.now ∧ (State.adoptEpoch f s).powered = s.powered ∧
    (State.adoptEpoch f s).freeCount = s.freeCount ∧ (State.adoptEpoch f s).store = s.store ∧
    (State.adoptEpoch f s).bypass = s.bypass ∧ (State.adoptEpoch f s).pending = s.pending ∧
    (State.adoptEpoch f s).bus.heard = s.bus.heard ∧ (State.adoptEpoch f s).bus.nextTick = s.bus.nextTick ∧
    (State.adoptEpoch f s).bus.resetAt = s.bus.resetAt ∧ (State.adoptEpoch f s).bus.duplicate = s.bus.duplicate ∧
    (State.adoptEpoch f s).port.lastMark = s.port.lastMark ∧ (State.adoptEpoch f s).port.status = s.port.status ∧
    (State.adoptEpoch f s).port.faultCount = s.port.faultCount ∧
    (State.adoptEpoch f s).roster.entries.length = s.roster.entries.length := by
  dsimp only [State.adoptEpoch]; repeat' split
  all_goals simp

@[simp] theorem State.takeEpoch_frame (f : Frame) (s : State) :
    (State.takeEpoch f s).now = s.now ∧ (State.takeEpoch f s).powered = s.powered ∧
    (State.takeEpoch f s).freeCount = s.freeCount ∧ (State.takeEpoch f s).store = s.store ∧
    (State.takeEpoch f s).bypass = s.bypass ∧ (State.takeEpoch f s).pending = s.pending ∧
    (State.takeEpoch f s).bus.heard = s.bus.heard ∧ (State.takeEpoch f s).bus.nextTick = s.bus.nextTick ∧
    (State.takeEpoch f s).bus.resetAt = s.bus.resetAt ∧ (State.takeEpoch f s).bus.duplicate = s.bus.duplicate ∧
    (State.takeEpoch f s).port.lastMark = s.port.lastMark ∧ (State.takeEpoch f s).port.status = s.port.status ∧
    (State.takeEpoch f s).port.faultCount = s.port.faultCount ∧
    (State.takeEpoch f s).roster.entries.length = s.roster.entries.length := by
  dsimp only [State.takeEpoch]; repeat' split
  all_goals simp

@[simp] theorem State.takeFrame_frame (f : Frame) (s : State) :
    (State.takeFrame f s).now = s.now ∧ (State.takeFrame f s).powered = s.powered ∧
    (State.takeFrame f s).freeCount = s.freeCount ∧ (State.takeFrame f s).store = s.store ∧
    (State.takeFrame f s).pending = s.pending ∧ (State.takeFrame f s).bus.nextTick = s.bus.nextTick ∧
    (State.takeFrame f s).bus.resetAt = s.bus.resetAt ∧ (State.takeFrame f s).bus.duplicate = s.bus.duplicate ∧
    (State.takeFrame f s).port.lastMark = s.port.lastMark ∧ (State.takeFrame f s).port.status = s.port.status ∧
    (State.takeFrame f s).port.faultCount = s.port.faultCount ∧
    (State.takeFrame f s).roster.entries.length = s.roster.entries.length := by
  dsimp only [State.takeFrame]
  simp

@[simp] theorem State.equalAlarm_frame (s : State) :
    (State.equalAlarm s).now = s.now ∧ (State.equalAlarm s).powered = s.powered ∧
    (State.equalAlarm s).freeCount = s.freeCount ∧ (State.equalAlarm s).store = s.store ∧
    (State.equalAlarm s).bypass = s.bypass ∧ (State.equalAlarm s).pending = s.pending ∧
    (State.equalAlarm s).bus.heard = s.bus.heard ∧ (State.equalAlarm s).bus.nextTick = s.bus.nextTick ∧
    (State.equalAlarm s).bus.resetAt = s.bus.resetAt ∧ (State.equalAlarm s).bus.duplicate = s.bus.duplicate ∧
    (State.equalAlarm s).port.lastMark = s.port.lastMark ∧ (State.equalAlarm s).port.status = s.port.status ∧
    (State.equalAlarm s).port.faultCount = s.port.faultCount ∧
    (State.equalAlarm s).roster.entries.length = s.roster.entries.length := by
  dsimp only [State.equalAlarm]
  simp

@[simp] theorem State.takeAlarm_frame (f : Frame) (s : State) :
    (State.takeAlarm f s).now = s.now ∧ (State.takeAlarm f s).powered = s.powered ∧
    (State.takeAlarm f s).freeCount = s.freeCount ∧ (State.takeAlarm f s).store = s.store ∧
    (State.takeAlarm f s).pending = s.pending ∧ (State.takeAlarm f s).bus.nextTick = s.bus.nextTick ∧
    (State.takeAlarm f s).bus.resetAt = s.bus.resetAt ∧ (State.takeAlarm f s).bus.duplicate = s.bus.duplicate ∧
    (State.takeAlarm f s).port.lastMark = s.port.lastMark ∧ (State.takeAlarm f s).port.status = s.port.status ∧
    (State.takeAlarm f s).port.faultCount = s.port.faultCount ∧
    (State.takeAlarm f s).roster.entries.length = s.roster.entries.length := by
  dsimp only [State.takeAlarm]
  simp

@[simp] theorem State.clearDiff_frame (s : State) :
    (State.clearDiff s).now = s.now ∧ (State.clearDiff s).powered = s.powered ∧
    (State.clearDiff s).freeCount = s.freeCount ∧ (State.clearDiff s).bus = s.bus ∧
    (State.clearDiff s).round = s.round ∧ (State.clearDiff s).plan = s.plan ∧
    (State.clearDiff s).scanner = s.scanner ∧ (State.clearDiff s).store = s.store ∧
    (State.clearDiff s).watch = s.watch ∧ (State.clearDiff s).bypass = s.bypass ∧
    (State.clearDiff s).catcher = s.catcher ∧ (State.clearDiff s).port = s.port ∧
    (State.clearDiff s).pending = s.pending ∧ (State.clearDiff s).roster.entries.length = s.roster.entries.length := by
  dsimp only [State.clearDiff]
  simp

@[simp] theorem State.takeSummary_frame (f : Frame) (s : State) :
    (State.takeSummary f s).now = s.now ∧ (State.takeSummary f s).powered = s.powered ∧
    (State.takeSummary f s).freeCount = s.freeCount ∧ (State.takeSummary f s).store = s.store ∧
    (State.takeSummary f s).pending = s.pending ∧ (State.takeSummary f s).bus.nextTick = s.bus.nextTick ∧
    (State.takeSummary f s).bus.resetAt = s.bus.resetAt ∧ (State.takeSummary f s).bus.duplicate = s.bus.duplicate ∧
    (State.takeSummary f s).port.lastMark = s.port.lastMark ∧ (State.takeSummary f s).port.status = s.port.status ∧
    (State.takeSummary f s).port.faultCount = s.port.faultCount ∧
    (State.takeSummary f s).roster.entries.length = s.roster.entries.length := by
  dsimp only [State.takeSummary]; repeat' split
  all_goals simp

@[simp] theorem State.noteStep_frame (station : Nat) (code : Byte) (digest : Half) (s : State) :
    (State.noteStep station code digest s).now = s.now ∧ (State.noteStep station code digest s).powered = s.powered ∧
    (State.noteStep station code digest s).freeCount = s.freeCount ∧
    (State.noteStep station code digest s).bus = s.bus ∧ (State.noteStep station code digest s).roster = s.roster ∧
    (State.noteStep station code digest s).plan = s.plan ∧ (State.noteStep station code digest s).store = s.store ∧
    (State.noteStep station code digest s).watch = s.watch ∧
    (State.noteStep station code digest s).bypass = s.bypass ∧ (State.noteStep station code digest s).port = s.port ∧
    (State.noteStep station code digest s).pending = s.pending := by
  dsimp only [State.noteStep]; repeat' split
  all_goals simp

@[simp] theorem State.testArming_frame (s : State) :
    (State.testArming s).now = s.now ∧ (State.testArming s).powered = s.powered ∧
    (State.testArming s).freeCount = s.freeCount ∧ (State.testArming s).store = s.store ∧
    (State.testArming s).pending = s.pending ∧ (State.testArming s).bus.heard = s.bus.heard ∧
    (State.testArming s).bus.nextTick = s.bus.nextTick ∧ (State.testArming s).bus.resetAt = s.bus.resetAt ∧
    (State.testArming s).bus.duplicate = s.bus.duplicate ∧ (State.testArming s).port.lastMark = s.port.lastMark ∧
    (State.testArming s).port.status = s.port.status ∧ (State.testArming s).port.faultCount = s.port.faultCount ∧
    (State.testArming s).roster.entries.length = s.roster.entries.length := by
  dsimp only [State.testArming]
  simp

@[simp] theorem State.stepTaken_frame (f : Frame) (s : State) :
    (State.stepTaken f s).now = s.now ∧ (State.stepTaken f s).powered = s.powered ∧
    (State.stepTaken f s).freeCount = s.freeCount ∧ (State.stepTaken f s).store = s.store ∧
    (State.stepTaken f s).pending = s.pending ∧ (State.stepTaken f s).bus.heard = s.bus.heard ∧
    (State.stepTaken f s).bus.nextTick = s.bus.nextTick ∧ (State.stepTaken f s).bus.resetAt = s.bus.resetAt ∧
    (State.stepTaken f s).bus.duplicate = s.bus.duplicate ∧ (State.stepTaken f s).port.lastMark = s.port.lastMark ∧
    (State.stepTaken f s).port.status = s.port.status ∧ (State.stepTaken f s).port.faultCount = s.port.faultCount ∧
    (State.stepTaken f s).roster.entries.length = s.roster.entries.length := by
  dsimp only [State.stepTaken]; repeat' split
  all_goals simp

@[simp] theorem State.takeStep_frame (f : Frame) (s : State) :
    (State.takeStep f s).now = s.now ∧ (State.takeStep f s).powered = s.powered ∧
    (State.takeStep f s).freeCount = s.freeCount ∧ (State.takeStep f s).store = s.store ∧
    (State.takeStep f s).pending = s.pending ∧ (State.takeStep f s).bus.nextTick = s.bus.nextTick ∧
    (State.takeStep f s).bus.resetAt = s.bus.resetAt ∧ (State.takeStep f s).bus.duplicate = s.bus.duplicate ∧
    (State.takeStep f s).port.lastMark = s.port.lastMark ∧ (State.takeStep f s).port.status = s.port.status ∧
    (State.takeStep f s).port.faultCount = s.port.faultCount ∧
    (State.takeStep f s).roster.entries.length = s.roster.entries.length := by
  dsimp only [State.takeStep]
  simp

@[simp] theorem State.spreadLockout_frame (h : HeardState) (s : State) :
    (State.spreadLockout h s).now = s.now ∧ (State.spreadLockout h s).powered = s.powered ∧
    (State.spreadLockout h s).freeCount = s.freeCount ∧ (State.spreadLockout h s).store = s.store ∧
    (State.spreadLockout h s).bypass = s.bypass ∧ (State.spreadLockout h s).pending = s.pending ∧
    (State.spreadLockout h s).bus.heard = s.bus.heard ∧ (State.spreadLockout h s).bus.nextTick = s.bus.nextTick ∧
    (State.spreadLockout h s).bus.resetAt = s.bus.resetAt ∧
    (State.spreadLockout h s).bus.duplicate = s.bus.duplicate ∧
    (State.spreadLockout h s).port.lastMark = s.port.lastMark ∧
    (State.spreadLockout h s).port.status = s.port.status ∧
    (State.spreadLockout h s).port.faultCount = s.port.faultCount ∧
    (State.spreadLockout h s).roster.entries.length = s.roster.entries.length := by
  dsimp only [State.spreadLockout]; repeat' split
  all_goals simp

@[simp] theorem State.countDifference_frame (n : Nat) (h : HeardState) (s : State) :
    (State.countDifference n h s).now = s.now ∧ (State.countDifference n h s).powered = s.powered ∧
    (State.countDifference n h s).freeCount = s.freeCount ∧ (State.countDifference n h s).round = s.round ∧
    (State.countDifference n h s).plan = s.plan ∧ (State.countDifference n h s).scanner = s.scanner ∧
    (State.countDifference n h s).store = s.store ∧ (State.countDifference n h s).watch = s.watch ∧
    (State.countDifference n h s).bypass = s.bypass ∧ (State.countDifference n h s).catcher = s.catcher ∧
    (State.countDifference n h s).port = s.port ∧ (State.countDifference n h s).pending = s.pending ∧
    (State.countDifference n h s).bus.heard = s.bus.heard ∧
    (State.countDifference n h s).bus.nextTick = s.bus.nextTick ∧
    (State.countDifference n h s).bus.resetAt = s.bus.resetAt ∧
    (State.countDifference n h s).bus.duplicate = s.bus.duplicate ∧
    (State.countDifference n h s).roster.entries.length = s.roster.entries.length := by
  dsimp only [State.countDifference]; repeat' split
  all_goals simp

@[simp] theorem State.testCatching_frame (s : State) :
    (State.testCatching s).now = s.now ∧ (State.testCatching s).powered = s.powered ∧
    (State.testCatching s).freeCount = s.freeCount ∧ (State.testCatching s).store = s.store ∧
    (State.testCatching s).pending = s.pending ∧ (State.testCatching s).bus.heard = s.bus.heard ∧
    (State.testCatching s).bus.nextTick = s.bus.nextTick ∧ (State.testCatching s).bus.resetAt = s.bus.resetAt ∧
    (State.testCatching s).bus.duplicate = s.bus.duplicate ∧ (State.testCatching s).port.lastMark = s.port.lastMark ∧
    (State.testCatching s).port.status = s.port.status ∧ (State.testCatching s).port.faultCount = s.port.faultCount ∧
    (State.testCatching s).roster.entries.length = s.roster.entries.length := by
  dsimp only [State.testCatching]
  simp

@[simp] theorem State.answerLineLost_frame (h : HeardState) (s : State) :
    (State.answerLineLost h s).now = s.now ∧ (State.answerLineLost h s).powered = s.powered ∧
    (State.answerLineLost h s).freeCount = s.freeCount ∧ (State.answerLineLost h s).roster = s.roster ∧
    (State.answerLineLost h s).round = s.round ∧ (State.answerLineLost h s).plan = s.plan ∧
    (State.answerLineLost h s).scanner = s.scanner ∧ (State.answerLineLost h s).store = s.store ∧
    (State.answerLineLost h s).watch = s.watch ∧ (State.answerLineLost h s).bypass = s.bypass ∧
    (State.answerLineLost h s).catcher = s.catcher ∧ (State.answerLineLost h s).port = s.port ∧
    (State.answerLineLost h s).pending = s.pending ∧ (State.answerLineLost h s).bus.heard = s.bus.heard ∧
    (State.answerLineLost h s).bus.nextTick = s.bus.nextTick ∧
    (State.answerLineLost h s).bus.resetAt = s.bus.resetAt ∧
    (State.answerLineLost h s).bus.duplicate = s.bus.duplicate := by
  dsimp only [State.answerLineLost]
  simp

@[simp] theorem State.stateTaken_frame (n : Nat) (h : HeardState) (s : State) :
    (State.stateTaken n h s).now = s.now ∧ (State.stateTaken n h s).powered = s.powered ∧
    (State.stateTaken n h s).freeCount = s.freeCount ∧ (State.stateTaken n h s).store = s.store ∧
    (State.stateTaken n h s).pending = s.pending ∧ (State.stateTaken n h s).bus.heard = s.bus.heard ∧
    (State.stateTaken n h s).bus.nextTick = s.bus.nextTick ∧ (State.stateTaken n h s).bus.resetAt = s.bus.resetAt ∧
    (State.stateTaken n h s).bus.duplicate = s.bus.duplicate ∧
    (State.stateTaken n h s).port.lastMark = s.port.lastMark ∧ (State.stateTaken n h s).port.status = s.port.status ∧
    (State.stateTaken n h s).port.faultCount = s.port.faultCount ∧
    (State.stateTaken n h s).roster.entries.length = s.roster.entries.length := by
  dsimp only [State.stateTaken]
  simp

@[simp] theorem State.takeState_frame (f : Frame) (s : State) :
    (State.takeState f s).now = s.now ∧ (State.takeState f s).powered = s.powered ∧
    (State.takeState f s).freeCount = s.freeCount ∧ (State.takeState f s).store = s.store ∧
    (State.takeState f s).pending = s.pending ∧ (State.takeState f s).bus.nextTick = s.bus.nextTick ∧
    (State.takeState f s).bus.resetAt = s.bus.resetAt ∧ (State.takeState f s).bus.duplicate = s.bus.duplicate ∧
    (State.takeState f s).port.lastMark = s.port.lastMark ∧ (State.takeState f s).port.status = s.port.status ∧
    (State.takeState f s).port.faultCount = s.port.faultCount ∧
    (State.takeState f s).roster.entries.length = s.roster.entries.length := by
  dsimp only [State.takeState]; repeat' split
  all_goals simp

@[simp] theorem State.clearLockout_frame (s : State) :
    (State.clearLockout s).now = s.now ∧ (State.clearLockout s).powered = s.powered ∧
    (State.clearLockout s).freeCount = s.freeCount ∧ (State.clearLockout s).store = s.store ∧
    (State.clearLockout s).pending = s.pending ∧ (State.clearLockout s).bus.heard = s.bus.heard ∧
    (State.clearLockout s).bus.nextTick = s.bus.nextTick ∧ (State.clearLockout s).bus.resetAt = s.bus.resetAt ∧
    (State.clearLockout s).bus.duplicate = s.bus.duplicate ∧ (State.clearLockout s).port.lastMark = s.port.lastMark ∧
    (State.clearLockout s).port.status = s.port.status ∧ (State.clearLockout s).port.faultCount = s.port.faultCount ∧
    (State.clearLockout s).roster.entries.length = s.roster.entries.length := by
  dsimp only [State.clearLockout]
  simp

@[simp] theorem State.countAction_frame (s : State) :
    (State.countAction s).now = s.now ∧ (State.countAction s).powered = s.powered ∧
    (State.countAction s).freeCount = s.freeCount ∧ (State.countAction s).store = s.store ∧
    (State.countAction s).pending = s.pending ∧ (State.countAction s).bus.heard = s.bus.heard ∧
    (State.countAction s).bus.nextTick = s.bus.nextTick ∧ (State.countAction s).bus.resetAt = s.bus.resetAt ∧
    (State.countAction s).bus.duplicate = s.bus.duplicate ∧ (State.countAction s).port.lastMark = s.port.lastMark ∧
    (State.countAction s).port.status = s.port.status ∧ (State.countAction s).port.faultCount = s.port.faultCount ∧
    (State.countAction s).roster.entries.length = s.roster.entries.length := by
  dsimp only [State.countAction]; repeat' split
  all_goals simp

@[simp] theorem State.testSwitch_frame (epoch : Half) (l : LinePayload) (s : State) :
    (State.testSwitch epoch l s).now = s.now ∧ (State.testSwitch epoch l s).powered = s.powered ∧
    (State.testSwitch epoch l s).freeCount = s.freeCount ∧ (State.testSwitch epoch l s).store = s.store ∧
    (State.testSwitch epoch l s).pending = s.pending ∧ (State.testSwitch epoch l s).bus.heard = s.bus.heard ∧
    (State.testSwitch epoch l s).bus.nextTick = s.bus.nextTick ∧
    (State.testSwitch epoch l s).bus.resetAt = s.bus.resetAt ∧
    (State.testSwitch epoch l s).bus.duplicate = s.bus.duplicate ∧
    (State.testSwitch epoch l s).port.lastMark = s.port.lastMark ∧
    (State.testSwitch epoch l s).port.status = s.port.status ∧
    (State.testSwitch epoch l s).port.faultCount = s.port.faultCount ∧
    (State.testSwitch epoch l s).roster.entries.length = s.roster.entries.length := by
  dsimp only [State.testSwitch]; repeat' split
  all_goals simp

@[simp] theorem State.followSwitch_frame (epoch : Half) (l : LinePayload) (s : State) :
    (State.followSwitch epoch l s).now = s.now ∧ (State.followSwitch epoch l s).powered = s.powered ∧
    (State.followSwitch epoch l s).freeCount = s.freeCount ∧ (State.followSwitch epoch l s).store = s.store ∧
    (State.followSwitch epoch l s).bypass = s.bypass ∧ (State.followSwitch epoch l s).pending = s.pending ∧
    (State.followSwitch epoch l s).bus.heard = s.bus.heard ∧
    (State.followSwitch epoch l s).bus.nextTick = s.bus.nextTick ∧
    (State.followSwitch epoch l s).bus.resetAt = s.bus.resetAt ∧
    (State.followSwitch epoch l s).bus.duplicate = s.bus.duplicate ∧
    (State.followSwitch epoch l s).port.lastMark = s.port.lastMark ∧
    (State.followSwitch epoch l s).port.status = s.port.status ∧
    (State.followSwitch epoch l s).port.faultCount = s.port.faultCount ∧
    (State.followSwitch epoch l s).roster.entries.length = s.roster.entries.length := by
  dsimp only [State.followSwitch]
  simp

@[simp] theorem State.takeSwitch_frame (epoch : Half) (l : LinePayload) (s : State) :
    (State.takeSwitch epoch l s).now = s.now ∧ (State.takeSwitch epoch l s).powered = s.powered ∧
    (State.takeSwitch epoch l s).freeCount = s.freeCount ∧ (State.takeSwitch epoch l s).store = s.store ∧
    (State.takeSwitch epoch l s).pending = s.pending ∧ (State.takeSwitch epoch l s).bus.heard = s.bus.heard ∧
    (State.takeSwitch epoch l s).bus.nextTick = s.bus.nextTick ∧
    (State.takeSwitch epoch l s).bus.resetAt = s.bus.resetAt ∧
    (State.takeSwitch epoch l s).bus.duplicate = s.bus.duplicate ∧
    (State.takeSwitch epoch l s).port.lastMark = s.port.lastMark ∧
    (State.takeSwitch epoch l s).port.status = s.port.status ∧
    (State.takeSwitch epoch l s).port.faultCount = s.port.faultCount ∧
    (State.takeSwitch epoch l s).roster.entries.length = s.roster.entries.length := by
  dsimp only [State.takeSwitch]
  simp

@[simp] theorem State.actOnFacts_frame (fresh : Bool) (s : State) :
    (State.actOnFacts fresh s).now = s.now ∧ (State.actOnFacts fresh s).powered = s.powered ∧
    (State.actOnFacts fresh s).freeCount = s.freeCount ∧ (State.actOnFacts fresh s).store = s.store ∧
    (State.actOnFacts fresh s).pending = s.pending ∧ (State.actOnFacts fresh s).bus.heard = s.bus.heard ∧
    (State.actOnFacts fresh s).bus.nextTick = s.bus.nextTick ∧
    (State.actOnFacts fresh s).bus.resetAt = s.bus.resetAt ∧
    (State.actOnFacts fresh s).bus.duplicate = s.bus.duplicate ∧
    (State.actOnFacts fresh s).port.lastMark = s.port.lastMark ∧
    (State.actOnFacts fresh s).port.status = s.port.status ∧
    (State.actOnFacts fresh s).port.faultCount = s.port.faultCount ∧
    (State.actOnFacts fresh s).roster.entries.length = s.roster.entries.length := by
  dsimp only [State.actOnFacts]; repeat' split
  all_goals simp

@[simp] theorem State.lineTaken_frame (epoch : Half) (l : LinePayload) (s : State) :
    (State.lineTaken epoch l s).now = s.now ∧ (State.lineTaken epoch l s).powered = s.powered ∧
    (State.lineTaken epoch l s).freeCount = s.freeCount ∧ (State.lineTaken epoch l s).store = s.store ∧
    (State.lineTaken epoch l s).pending = s.pending ∧ (State.lineTaken epoch l s).bus.heard = s.bus.heard ∧
    (State.lineTaken epoch l s).bus.nextTick = s.bus.nextTick ∧
    (State.lineTaken epoch l s).bus.resetAt = s.bus.resetAt ∧
    (State.lineTaken epoch l s).bus.duplicate = s.bus.duplicate ∧
    (State.lineTaken epoch l s).port.lastMark = s.port.lastMark ∧
    (State.lineTaken epoch l s).port.status = s.port.status ∧
    (State.lineTaken epoch l s).port.faultCount = s.port.faultCount ∧
    (State.lineTaken epoch l s).roster.entries.length = s.roster.entries.length := by
  dsimp only [State.lineTaken]
  simp

@[simp] theorem State.takeLine_frame (f : Frame) (s : State) :
    (State.takeLine f s).now = s.now ∧ (State.takeLine f s).powered = s.powered ∧
    (State.takeLine f s).freeCount = s.freeCount ∧ (State.takeLine f s).store = s.store ∧
    (State.takeLine f s).pending = s.pending ∧ (State.takeLine f s).bus.nextTick = s.bus.nextTick ∧
    (State.takeLine f s).bus.resetAt = s.bus.resetAt ∧ (State.takeLine f s).bus.duplicate = s.bus.duplicate ∧
    (State.takeLine f s).port.lastMark = s.port.lastMark ∧ (State.takeLine f s).port.status = s.port.status ∧
    (State.takeLine f s).port.faultCount = s.port.faultCount ∧
    (State.takeLine f s).roster.entries.length = s.roster.entries.length := by
  dsimp only [State.takeLine]; repeat' split
  all_goals simp

@[simp] theorem State.testMismatch_frame (s : State) :
    (State.testMismatch s).now = s.now ∧ (State.testMismatch s).powered = s.powered ∧
    (State.testMismatch s).freeCount = s.freeCount ∧ (State.testMismatch s).bus = s.bus ∧
    (State.testMismatch s).roster = s.roster ∧ (State.testMismatch s).plan = s.plan ∧
    (State.testMismatch s).scanner = s.scanner ∧ (State.testMismatch s).store = s.store ∧
    (State.testMismatch s).watch = s.watch ∧ (State.testMismatch s).bypass = s.bypass ∧
    (State.testMismatch s).catcher = s.catcher ∧ (State.testMismatch s).port = s.port ∧
    (State.testMismatch s).pending = s.pending := by
  dsimp only [State.testMismatch]
  simp

@[simp] theorem State.prepareExit_frame (p : Phase) (s : State) :
    (State.prepareExit p s).now = s.now ∧ (State.prepareExit p s).powered = s.powered ∧
    (State.prepareExit p s).freeCount = s.freeCount ∧ (State.prepareExit p s).bus = s.bus ∧
    (State.prepareExit p s).roster = s.roster ∧ (State.prepareExit p s).plan = s.plan ∧
    (State.prepareExit p s).scanner = s.scanner ∧ (State.prepareExit p s).store = s.store ∧
    (State.prepareExit p s).watch = s.watch ∧ (State.prepareExit p s).bypass = s.bypass ∧
    (State.prepareExit p s).catcher = s.catcher ∧ (State.prepareExit p s).port = s.port ∧
    (State.prepareExit p s).pending = s.pending := by
  dsimp only [State.prepareExit]
  simp

@[simp] theorem State.leaveJoining_frame (p : Phase) (s : State) :
    (State.leaveJoining p s).now = s.now ∧ (State.leaveJoining p s).powered = s.powered ∧
    (State.leaveJoining p s).freeCount = s.freeCount ∧ (State.leaveJoining p s).store = s.store ∧
    (State.leaveJoining p s).pending = s.pending ∧ (State.leaveJoining p s).bus.heard = s.bus.heard ∧
    (State.leaveJoining p s).bus.nextTick = s.bus.nextTick ∧ (State.leaveJoining p s).bus.resetAt = s.bus.resetAt ∧
    (State.leaveJoining p s).bus.duplicate = s.bus.duplicate ∧
    (State.leaveJoining p s).port.lastMark = s.port.lastMark ∧ (State.leaveJoining p s).port.status = s.port.status ∧
    (State.leaveJoining p s).port.faultCount = s.port.faultCount ∧
    (State.leaveJoining p s).roster.entries.length = s.roster.entries.length := by
  dsimp only [State.leaveJoining]
  simp

@[simp] theorem State.testJoin_frame (s : State) :
    (State.testJoin s).now = s.now ∧ (State.testJoin s).powered = s.powered ∧
    (State.testJoin s).freeCount = s.freeCount ∧ (State.testJoin s).store = s.store ∧
    (State.testJoin s).pending = s.pending ∧ (State.testJoin s).bus.heard = s.bus.heard ∧
    (State.testJoin s).bus.nextTick = s.bus.nextTick ∧ (State.testJoin s).bus.resetAt = s.bus.resetAt ∧
    (State.testJoin s).bus.duplicate = s.bus.duplicate ∧ (State.testJoin s).port.lastMark = s.port.lastMark ∧
    (State.testJoin s).port.status = s.port.status ∧ (State.testJoin s).port.faultCount = s.port.faultCount ∧
    (State.testJoin s).roster.entries.length = s.roster.entries.length := by
  dsimp only [State.testJoin]; repeat' split
  all_goals simp

@[simp] theorem State.countTick_frame (s : State) :
    (State.countTick s).now = s.now ∧ (State.countTick s).powered = s.powered ∧
    (State.countTick s).freeCount = s.freeCount ∧ (State.countTick s).roster = s.roster ∧
    (State.countTick s).plan = s.plan ∧ (State.countTick s).scanner = s.scanner ∧
    (State.countTick s).store = s.store ∧ (State.countTick s).watch = s.watch ∧
    (State.countTick s).bypass = s.bypass ∧ (State.countTick s).catcher = s.catcher ∧
    (State.countTick s).port = s.port ∧ (State.countTick s).pending = s.pending ∧
    (State.countTick s).bus.heard = s.bus.heard ∧ (State.countTick s).bus.resetAt = s.bus.resetAt ∧
    (State.countTick s).bus.duplicate = s.bus.duplicate := by
  dsimp only [State.countTick]
  simp

@[simp] theorem State.queueLine_frame (s : State) :
    (State.queueLine s).now = s.now ∧ (State.queueLine s).powered = s.powered ∧
    (State.queueLine s).freeCount = s.freeCount ∧ (State.queueLine s).roster = s.roster ∧
    (State.queueLine s).round = s.round ∧ (State.queueLine s).plan = s.plan ∧
    (State.queueLine s).scanner = s.scanner ∧ (State.queueLine s).store = s.store ∧
    (State.queueLine s).watch = s.watch ∧ (State.queueLine s).bypass = s.bypass ∧
    (State.queueLine s).catcher = s.catcher ∧ (State.queueLine s).pending = s.pending ∧
    (State.queueLine s).bus.heard = s.bus.heard ∧ (State.queueLine s).bus.nextTick = s.bus.nextTick ∧
    (State.queueLine s).bus.resetAt = s.bus.resetAt ∧ (State.queueLine s).bus.duplicate = s.bus.duplicate ∧
    (State.queueLine s).port.status = s.port.status ∧ (State.queueLine s).port.faultCount = s.port.faultCount := by
  dsimp only [State.queueLine]; repeat' split
  all_goals simp

@[simp] theorem State.renewInputs_frame (s : State) :
    (State.renewInputs s).now = s.now ∧ (State.renewInputs s).powered = s.powered ∧
    (State.renewInputs s).freeCount = s.freeCount ∧ (State.renewInputs s).bus = s.bus ∧
    (State.renewInputs s).roster = s.roster ∧ (State.renewInputs s).round = s.round ∧
    (State.renewInputs s).plan = s.plan ∧ (State.renewInputs s).scanner = s.scanner ∧
    (State.renewInputs s).store = s.store ∧ (State.renewInputs s).watch = s.watch ∧
    (State.renewInputs s).bypass = s.bypass ∧ (State.renewInputs s).catcher = s.catcher ∧
    (State.renewInputs s).pending = s.pending ∧ (State.renewInputs s).port.lastMark = s.port.lastMark ∧
    (State.renewInputs s).port.status = s.port.status ∧ (State.renewInputs s).port.faultCount = s.port.faultCount := by
  dsimp only [State.renewInputs]
  simp

@[simp] theorem State.tick_frame (s : State) :
    (State.tick s).now = s.now ∧ (State.tick s).powered = s.powered ∧ (State.tick s).freeCount = s.freeCount ∧
    (State.tick s).store = s.store ∧ (State.tick s).pending = s.pending ∧ (State.tick s).bus.heard = s.bus.heard ∧
    (State.tick s).bus.resetAt = s.bus.resetAt ∧ (State.tick s).bus.duplicate = s.bus.duplicate ∧
    (State.tick s).port.status = s.port.status ∧ (State.tick s).port.faultCount = s.port.faultCount ∧
    (State.tick s).roster.entries.length = s.roster.entries.length := by
  dsimp only [State.tick]
  simp

@[simp] theorem State.beginAttempt_frame (g : QFrame) (s : State) :
    (State.beginAttempt g s).now = s.now ∧ (State.beginAttempt g s).powered = s.powered ∧
    (State.beginAttempt g s).freeCount = s.freeCount ∧ (State.beginAttempt g s).roster = s.roster ∧
    (State.beginAttempt g s).round = s.round ∧ (State.beginAttempt g s).plan = s.plan ∧
    (State.beginAttempt g s).scanner = s.scanner ∧ (State.beginAttempt g s).store = s.store ∧
    (State.beginAttempt g s).watch = s.watch ∧ (State.beginAttempt g s).bypass = s.bypass ∧
    (State.beginAttempt g s).port = s.port ∧ (State.beginAttempt g s).pending = s.pending ∧
    (State.beginAttempt g s).bus.heard = s.bus.heard ∧ (State.beginAttempt g s).bus.nextTick = s.bus.nextTick ∧
    (State.beginAttempt g s).bus.resetAt = s.bus.resetAt ∧ (State.beginAttempt g s).bus.duplicate = s.bus.duplicate := by
  dsimp only [State.beginAttempt]
  simp

@[simp] theorem State.tryAttempt_frame (s : State) :
    (State.tryAttempt s).now = s.now ∧ (State.tryAttempt s).powered = s.powered ∧
    (State.tryAttempt s).freeCount = s.freeCount ∧ (State.tryAttempt s).roster = s.roster ∧
    (State.tryAttempt s).round = s.round ∧ (State.tryAttempt s).plan = s.plan ∧
    (State.tryAttempt s).scanner = s.scanner ∧ (State.tryAttempt s).store = s.store ∧
    (State.tryAttempt s).watch = s.watch ∧ (State.tryAttempt s).bypass = s.bypass ∧
    (State.tryAttempt s).port = s.port ∧ (State.tryAttempt s).pending = s.pending ∧
    (State.tryAttempt s).bus.heard = s.bus.heard ∧ (State.tryAttempt s).bus.nextTick = s.bus.nextTick ∧
    (State.tryAttempt s).bus.resetAt = s.bus.resetAt ∧ (State.tryAttempt s).bus.duplicate = s.bus.duplicate := by
  dsimp only [State.tryAttempt]; repeat' split
  all_goals simp

@[simp] theorem State.takeOwn_frame (f : Frame) (s : State) :
    (State.takeOwn f s).now = s.now ∧ (State.takeOwn f s).powered = s.powered ∧
    (State.takeOwn f s).freeCount = s.freeCount ∧ (State.takeOwn f s).store = s.store ∧
    (State.takeOwn f s).pending = s.pending ∧ (State.takeOwn f s).bus.heard = s.bus.heard ∧
    (State.takeOwn f s).bus.nextTick = s.bus.nextTick ∧ (State.takeOwn f s).bus.resetAt = s.bus.resetAt ∧
    (State.takeOwn f s).bus.duplicate = s.bus.duplicate ∧ (State.takeOwn f s).port.lastMark = s.port.lastMark ∧
    (State.takeOwn f s).port.status = s.port.status ∧ (State.takeOwn f s).port.faultCount = s.port.faultCount ∧
    (State.takeOwn f s).roster.entries.length = s.roster.entries.length := by
  dsimp only [State.takeOwn]; repeat' split
  all_goals simp

@[simp] theorem State.isolate_frame (s : State) :
    (State.isolate s).now = s.now ∧ (State.isolate s).powered = s.powered ∧
    (State.isolate s).freeCount = s.freeCount ∧ (State.isolate s).store = s.store ∧
    (State.isolate s).pending = s.pending ∧ (State.isolate s).bus.heard = s.bus.heard ∧
    (State.isolate s).bus.nextTick = s.bus.nextTick ∧ (State.isolate s).bus.resetAt = s.bus.resetAt ∧
    (State.isolate s).bus.duplicate = s.bus.duplicate ∧ (State.isolate s).port.lastMark = s.port.lastMark ∧
    (State.isolate s).port.status = s.port.status ∧ (State.isolate s).port.faultCount = s.port.faultCount ∧
    (State.isolate s).roster.entries.length = s.roster.entries.length := by
  dsimp only [State.isolate]
  simp

@[simp] theorem State.portReturns_frame (a : Access) (bs : List Byte) (s : State) :
    (State.portReturns a bs s).now = s.now ∧ (State.portReturns a bs s).powered = s.powered ∧
    (State.portReturns a bs s).freeCount = s.freeCount ∧ (State.portReturns a bs s).bus = s.bus ∧
    (State.portReturns a bs s).roster = s.roster ∧ (State.portReturns a bs s).round = s.round ∧
    (State.portReturns a bs s).plan = s.plan ∧ (State.portReturns a bs s).scanner = s.scanner ∧
    (State.portReturns a bs s).watch = s.watch ∧ (State.portReturns a bs s).bypass = s.bypass ∧
    (State.portReturns a bs s).catcher = s.catcher ∧ (State.portReturns a bs s).port = s.port ∧
    (State.portReturns a bs s).pending = s.pending := by
  dsimp only [State.portReturns]
  simp

@[simp] theorem State.portRead_frame (c : PortCommand) (bs : List Byte) (a : Access) (offset : Byte) (count : Nat) (s : State) :
    (State.portRead c bs a offset count s).now = s.now ∧ (State.portRead c bs a offset count s).powered = s.powered ∧
    (State.portRead c bs a offset count s).bus = s.bus ∧ (State.portRead c bs a offset count s).roster = s.roster ∧
    (State.portRead c bs a offset count s).round = s.round ∧ (State.portRead c bs a offset count s).plan = s.plan ∧
    (State.portRead c bs a offset count s).scanner = s.scanner ∧
    (State.portRead c bs a offset count s).watch = s.watch ∧
    (State.portRead c bs a offset count s).bypass = s.bypass ∧
    (State.portRead c bs a offset count s).catcher = s.catcher ∧
    (State.portRead c bs a offset count s).port = s.port ∧ (State.portRead c bs a offset count s).pending = s.pending := by
  dsimp only [State.portRead]; repeat' split
  all_goals simp

@[simp] theorem State.resetPin_frame (low : Bool) (s : State) :
    (State.resetPin low s).now = s.now ∧ (State.resetPin low s).powered = s.powered ∧
    (State.resetPin low s).freeCount = s.freeCount ∧ (State.resetPin low s).bus = s.bus ∧
    (State.resetPin low s).roster = s.roster ∧ (State.resetPin low s).round = s.round ∧
    (State.resetPin low s).plan = s.plan ∧ (State.resetPin low s).scanner = s.scanner ∧
    (State.resetPin low s).watch = s.watch ∧ (State.resetPin low s).bypass = s.bypass ∧
    (State.resetPin low s).catcher = s.catcher ∧ (State.resetPin low s).port = s.port ∧
    (State.resetPin low s).pending = s.pending := by
  dsimp only [State.resetPin]
  simp

@[simp] theorem State.resetEdge_frame (e : ResetEdge) (x : Straps) (s : State) :
    (State.resetEdge e x s).now = s.now ∧ (State.resetEdge e x s).freeCount = s.freeCount ∧
    (State.resetEdge e x s).pending = s.pending := by
  dsimp only [State.resetEdge, State.when]; repeat' split
  all_goals simp [State.startReset, State.endReset, State.afterReset]

@[simp] theorem State.beginWrite_frame (offset : Nat) (data : List Byte) (s : State) :
    (State.beginWrite offset data s).now = s.now ∧ (State.beginWrite offset data s).powered = s.powered ∧
    (State.beginWrite offset data s).freeCount = s.freeCount ∧ (State.beginWrite offset data s).bus = s.bus ∧
    (State.beginWrite offset data s).roster = s.roster ∧ (State.beginWrite offset data s).round = s.round ∧
    (State.beginWrite offset data s).plan = s.plan ∧ (State.beginWrite offset data s).scanner = s.scanner ∧
    (State.beginWrite offset data s).watch = s.watch ∧ (State.beginWrite offset data s).bypass = s.bypass ∧
    (State.beginWrite offset data s).catcher = s.catcher ∧ (State.beginWrite offset data s).port = s.port ∧
    (State.beginWrite offset data s).pending = s.pending := by
  dsimp only [State.beginWrite]
  simp

@[simp] theorem State.unsupplied_frame (s : State) :
    (State.unsupplied s).now = s.now ∧ (State.unsupplied s).freeCount = s.freeCount ∧
    (State.unsupplied s).roster = s.roster ∧ (State.unsupplied s).round = s.round ∧
    (State.unsupplied s).plan = s.plan ∧ (State.unsupplied s).scanner = s.scanner ∧
    (State.unsupplied s).watch = s.watch ∧ (State.unsupplied s).catcher = s.catcher ∧
    (State.unsupplied s).pending = s.pending ∧ (State.unsupplied s).bus.heard = s.bus.heard ∧
    (State.unsupplied s).bus.nextTick = s.bus.nextTick ∧ (State.unsupplied s).bus.resetAt = s.bus.resetAt ∧
    (State.unsupplied s).bus.duplicate = s.bus.duplicate ∧ (State.unsupplied s).port.lastMark = s.port.lastMark ∧
    (State.unsupplied s).port.status = s.port.status ∧ (State.unsupplied s).port.faultCount = s.port.faultCount := by
  dsimp only [State.unsupplied]
  simp

@[simp] theorem State.seeDuplicate_frame (s : State) :
    (State.seeDuplicate s).now = s.now ∧ (State.seeDuplicate s).powered = s.powered ∧
    (State.seeDuplicate s).freeCount = s.freeCount ∧ (State.seeDuplicate s).store = s.store ∧
    (State.seeDuplicate s).pending = s.pending ∧ (State.seeDuplicate s).bus.heard = s.bus.heard ∧
    (State.seeDuplicate s).bus.nextTick = s.bus.nextTick ∧ (State.seeDuplicate s).bus.resetAt = s.bus.resetAt ∧
    (State.seeDuplicate s).port.lastMark = s.port.lastMark ∧ (State.seeDuplicate s).port.status = s.port.status ∧
    (State.seeDuplicate s).port.faultCount = s.port.faultCount ∧
    (State.seeDuplicate s).roster.entries.length = s.roster.entries.length := by
  dsimp only [State.seeDuplicate]
  simp

@[simp] theorem State.restartSettle_frame (s : State) :
    (State.restartSettle s).now = s.now ∧ (State.restartSettle s).powered = s.powered ∧
    (State.restartSettle s).freeCount = s.freeCount ∧ (State.restartSettle s).bus = s.bus ∧
    (State.restartSettle s).roster = s.roster ∧ (State.restartSettle s).plan = s.plan ∧
    (State.restartSettle s).scanner = s.scanner ∧ (State.restartSettle s).store = s.store ∧
    (State.restartSettle s).watch = s.watch ∧ (State.restartSettle s).bypass = s.bypass ∧
    (State.restartSettle s).catcher = s.catcher ∧ (State.restartSettle s).port = s.port ∧
    (State.restartSettle s).pending = s.pending := by
  dsimp only [State.restartSettle]
  simp

@[simp] theorem State.abandonRevision_frame (s : State) :
    (State.abandonRevision s).now = s.now ∧ (State.abandonRevision s).powered = s.powered ∧
    (State.abandonRevision s).freeCount = s.freeCount ∧ (State.abandonRevision s).store = s.store ∧
    (State.abandonRevision s).pending = s.pending ∧ (State.abandonRevision s).bus.heard = s.bus.heard ∧
    (State.abandonRevision s).bus.nextTick = s.bus.nextTick ∧ (State.abandonRevision s).bus.resetAt = s.bus.resetAt ∧
    (State.abandonRevision s).bus.duplicate = s.bus.duplicate ∧
    (State.abandonRevision s).port.lastMark = s.port.lastMark ∧
    (State.abandonRevision s).port.status = s.port.status ∧
    (State.abandonRevision s).port.faultCount = s.port.faultCount ∧
    (State.abandonRevision s).roster.entries.length = s.roster.entries.length := by
  dsimp only [State.abandonRevision]
  simp

@[simp] theorem State.ageCandidate_frame (c : Plan) (s : State) :
    (State.ageCandidate c s).now = s.now ∧ (State.ageCandidate c s).powered = s.powered ∧
    (State.ageCandidate c s).freeCount = s.freeCount ∧ (State.ageCandidate c s).store = s.store ∧
    (State.ageCandidate c s).pending = s.pending ∧ (State.ageCandidate c s).bus.heard = s.bus.heard ∧
    (State.ageCandidate c s).bus.nextTick = s.bus.nextTick ∧ (State.ageCandidate c s).bus.resetAt = s.bus.resetAt ∧
    (State.ageCandidate c s).bus.duplicate = s.bus.duplicate ∧
    (State.ageCandidate c s).port.lastMark = s.port.lastMark ∧ (State.ageCandidate c s).port.status = s.port.status ∧
    (State.ageCandidate c s).port.faultCount = s.port.faultCount ∧
    (State.ageCandidate c s).roster.entries.length = s.roster.entries.length := by
  dsimp only [State.ageCandidate]
  simp

@[simp] theorem State.convert_frame (a : Activity) (value : Nat) (taken : Bool) (s : State) :
    (State.convert a value taken s).now = s.now ∧ (State.convert a value taken s).powered = s.powered ∧
    (State.convert a value taken s).store = s.store ∧ (State.convert a value taken s).pending = s.pending ∧
    (State.convert a value taken s).bus.heard = s.bus.heard ∧
    (State.convert a value taken s).bus.nextTick = s.bus.nextTick ∧
    (State.convert a value taken s).bus.resetAt = s.bus.resetAt ∧
    (State.convert a value taken s).bus.duplicate = s.bus.duplicate ∧
    (State.convert a value taken s).port.lastMark = s.port.lastMark ∧
    (State.convert a value taken s).port.status = s.port.status ∧
    (State.convert a value taken s).port.faultCount = s.port.faultCount ∧
    (State.convert a value taken s).roster.entries.length = s.roster.entries.length := by
  dsimp only [State.convert]; repeat' split
  all_goals simp

@[simp] theorem State.quietMark_frame (s : State) :
    (State.quietMark s).now = s.now ∧ (State.quietMark s).powered = s.powered ∧
    (State.quietMark s).freeCount = s.freeCount ∧ (State.quietMark s).bus = s.bus ∧
    (State.quietMark s).roster = s.roster ∧ (State.quietMark s).round = s.round ∧ (State.quietMark s).plan = s.plan ∧
    (State.quietMark s).store = s.store ∧ (State.quietMark s).watch = s.watch ∧
    (State.quietMark s).bypass = s.bypass ∧ (State.quietMark s).port = s.port ∧
    (State.quietMark s).pending = s.pending := by
  dsimp only [State.quietMark]
  simp

@[simp] theorem State.budgetOver_frame (s : State) :
    (State.budgetOver s).now = s.now ∧ (State.budgetOver s).powered = s.powered ∧
    (State.budgetOver s).freeCount = s.freeCount ∧ (State.budgetOver s).bus = s.bus ∧
    (State.budgetOver s).roster = s.roster ∧ (State.budgetOver s).round = s.round ∧
    (State.budgetOver s).plan = s.plan ∧ (State.budgetOver s).store = s.store ∧ (State.budgetOver s).watch = s.watch ∧
    (State.budgetOver s).bypass = s.bypass ∧ (State.budgetOver s).port = s.port ∧
    (State.budgetOver s).pending = s.pending := by
  dsimp only [State.budgetOver]; repeat' split
  all_goals simp

@[simp] theorem State.restElapsed_frame (s : State) :
    (State.restElapsed s).now = s.now ∧ (State.restElapsed s).powered = s.powered ∧
    (State.restElapsed s).freeCount = s.freeCount ∧ (State.restElapsed s).store = s.store ∧
    (State.restElapsed s).bypass = s.bypass ∧ (State.restElapsed s).pending = s.pending ∧
    (State.restElapsed s).bus.heard = s.bus.heard ∧ (State.restElapsed s).bus.nextTick = s.bus.nextTick ∧
    (State.restElapsed s).bus.resetAt = s.bus.resetAt ∧ (State.restElapsed s).bus.duplicate = s.bus.duplicate ∧
    (State.restElapsed s).port.lastMark = s.port.lastMark ∧ (State.restElapsed s).port.status = s.port.status ∧
    (State.restElapsed s).port.faultCount = s.port.faultCount ∧
    (State.restElapsed s).roster.entries.length = s.roster.entries.length := by
  dsimp only [State.restElapsed]
  simp

@[simp] theorem State.inputEdge_frame (i : LineInput) (asserted : Bool) (s : State) :
    (State.inputEdge i asserted s).now = s.now ∧ (State.inputEdge i asserted s).powered = s.powered ∧
    (State.inputEdge i asserted s).freeCount = s.freeCount ∧ (State.inputEdge i asserted s).store = s.store ∧
    (State.inputEdge i asserted s).bypass = s.bypass ∧ (State.inputEdge i asserted s).pending = s.pending ∧
    (State.inputEdge i asserted s).bus.heard = s.bus.heard ∧
    (State.inputEdge i asserted s).bus.nextTick = s.bus.nextTick ∧
    (State.inputEdge i asserted s).bus.resetAt = s.bus.resetAt ∧
    (State.inputEdge i asserted s).bus.duplicate = s.bus.duplicate ∧
    (State.inputEdge i asserted s).port.lastMark = s.port.lastMark ∧
    (State.inputEdge i asserted s).port.status = s.port.status ∧
    (State.inputEdge i asserted s).roster.entries.length = s.roster.entries.length := by
  dsimp only [State.inputEdge]; repeat' split
  all_goals simp

@[simp] theorem State.inputChange_frame (i : LineInput) (asserted : Bool) (s : State) :
    (State.inputChange i asserted s).now = s.now ∧ (State.inputChange i asserted s).powered = s.powered ∧
    (State.inputChange i asserted s).freeCount = s.freeCount ∧ (State.inputChange i asserted s).store = s.store ∧
    (State.inputChange i asserted s).bypass = s.bypass ∧ (State.inputChange i asserted s).pending = s.pending ∧
    (State.inputChange i asserted s).bus.heard = s.bus.heard ∧
    (State.inputChange i asserted s).bus.nextTick = s.bus.nextTick ∧
    (State.inputChange i asserted s).bus.resetAt = s.bus.resetAt ∧
    (State.inputChange i asserted s).bus.duplicate = s.bus.duplicate ∧
    (State.inputChange i asserted s).port.lastMark = s.port.lastMark ∧
    (State.inputChange i asserted s).port.status = s.port.status ∧
    (State.inputChange i asserted s).roster.entries.length = s.roster.entries.length := by
  dsimp only [State.inputChange]; repeat' split
  all_goals simp

end Sys2Proof.Machine
end

