-- ==== Sys2Proof/Laws/Run.lean ====
section
/-! SUPPORT. How a meaning runs, and the transmit queue: what `runAt` answers with and without supply, what queueing a frame
does to the queue's length and contents, and how bytes read back from their coded bits. -/

namespace Sys2Proof.Machine

/-! ## Running a meaning -/

/-- A station that acts has its supply and no pin reset in force. -/
theorem State.runs_iff {s : State} : s.runs = true ↔ s.powered = true ∧ s.store.resetLow = false := by
  simp [State.runs]

/-- A station that acts has its supply. -/
theorem State.powered_of_runs {s : State} (h : s.runs = true) : s.powered = true := (State.runs_iff.mp h).1

/-- At a station that acts a command's outcome is its effect on the state at its time. -/
theorem State.runAt_runs {t : Time} {f : State → State} {s : State} (h : s.runs = true) :
    s.runAt t f = .next (f (s.advance t)) := by
  simp [State.runAt, h]

/-- Without supply (log 5) and in a pin reset (R184) only the time moves. -/
theorem State.runAt_stopped {t : Time} {f : State → State} {s : State} (h : s.runs = false) :
    s.runAt t f = .next (s.advance t) := by
  simp [State.runAt, h]

/-- With supply, in a pin reset too, a command that a reset does not stop has its effect on the state at its time. -/
theorem State.runSupplied_powered {t : Time} {f : State → State} {s : State} (h : s.powered = true) :
    s.runSupplied t f = .next (f (s.advance t)) := by
  simp [State.runSupplied, h]

/-- Without supply only the time moves (log 5). -/
theorem State.runSupplied_unpowered {t : Time} {f : State → State} {s : State} (h : s.powered = false) :
    s.runSupplied t f = .next (s.advance t) := by
  simp [State.runSupplied, h]

/-- What holds of the state at its time and after the effect on it holds after the command. -/
theorem State.runAt_induct {t : Time} {f : State → State} {s : State} {P : State → Prop} (h0 : P (s.advance t))
    (h1 : P (f (s.advance t))) : ∃ s', s.runAt t f = .next s' ∧ P s' := by
  refine ⟨_, rfl, ?_⟩
  unfold State.when; split
  · exact h1
  · exact h0

/-- What holds of the state at its time and after the effect on it holds after a command that a reset does not stop. -/
theorem State.runSupplied_induct {t : Time} {f : State → State} {s : State} {P : State → Prop} (h0 : P (s.advance t))
    (h1 : P (f (s.advance t))) : ∃ s', s.runSupplied t f = .next s' ∧ P s' := by
  refine ⟨_, rfl, ?_⟩
  unfold State.when; split
  · exact h1
  · exact h0

/-- The fall of RESET# at a station that acts begins a pin reset. -/
theorem State.resetEdge_falls {x : Straps} {s : State} (h : s.runs = true) :
    s.resetEdge (.falls true) x = s.startReset := by
  obtain ⟨hp, hr⟩ := State.runs_iff.mp h
  simp [State.resetEdge, hp, hr]

/-- The rise of RESET# in a pin reset ends it. -/
theorem State.resetEdge_rises {x : Straps} {s : State} (hp : s.powered = true) (hr : s.store.resetLow = true) :
    s.resetEdge .rises x = s.endReset x := by
  simp [State.resetEdge, hp, hr]

/-- A pulse under 1 µs is no reset. -/
theorem State.resetEdge_short (x : Straps) (s : State) : s.resetEdge (.falls false) x = s := by
  simp [State.resetEdge]

/-- R186: no byte of STATUS goes out after the rise of WP#, over the whole access. -/
theorem statusBytes_length_le (n count : Nat) (b : Byte) (driven : List Byte) (h : driven.length ≤ n) :
    (statusBytes (.rises n) count b driven).length ≤ n := by
  simp only [statusBytes, bytesReturned, List.length_append, List.length_replicate]
  omega

/-- The parameters a station acts on follow from its store alone. -/
theorem State.params_congr {r s : State} (h : r.store = s.store) : r.params = s.params := by
  unfold State.params; rw [h]

/-- The own index follows from the store alone. -/
theorem State.ownIndex_congr {r s : State} (h : r.store = s.store) : r.ownIndex = s.ownIndex := by
  unfold State.ownIndex State.isCell State.fitted State.params; rw [h]

/-- An entry follows from the roster's entries alone. -/
theorem State.entryAt_congr {r s : State} (h : r.roster.entries = s.roster.entries) (i : Nat) :
    r.entryAt i = s.entryAt i := by
  unfold State.entryAt; rw [h]

/-! ## The transmit queue -/

/-- R155: a frame queued while sending is barred is refused. -/
theorem State.enqueue_barred (b : QBody) (s : State) (h : s.barred = true) : s.enqueue b = s := by
  simp [State.enqueue, h]

/-- A frame placed by its rank makes the queue one longer. -/
theorem insertByRank_length (f : QFrame) (q : List QFrame) : (insertByRank f q).length = q.length + 1 := by
  induction q with
  | nil => rfl
  | cons g q ih => simp only [insertByRank]; split <;> simp [ih]

/-- A frame placed by its rank is in the queue. -/
theorem insertByRank_mem (f : QFrame) (q : List QFrame) : f ∈ insertByRank f q := by
  induction q with
  | nil => simp [insertByRank]
  | cons g q ih => simp only [insertByRank]; split <;> simp [ih]

/-- With room in the queue a frame queued makes it at most one longer. -/
theorem enqueueFrame_length_le (now : Time) (b : QBody) (q : List QFrame) (h : q.length < Config.queueCapacity) :
    (enqueueFrame now b q).length ≤ q.length + 1 := by
  unfold enqueueFrame
  split
  · simp
  · exact Nat.le_of_eq (insertByRank_length _ _)

/-- With room in the queue a frame of the kind queued is in it. -/
theorem enqueueFrame_holds_kind (now : Time) (b : QBody) (q : List QFrame) (h : q.length < Config.queueCapacity) :
    ∃ g ∈ enqueueFrame now b q, g.body.kind = b.kind := by
  unfold enqueueFrame
  split
  · rename_i hs
    simp only [Bool.and_eq_true, List.any_eq_true, beq_iff_eq] at hs
    obtain ⟨_, g, hg, hk⟩ := hs
    refine ⟨g.takeUp b, List.mem_map_of_mem hg, ?_⟩
    simp only [QFrame.takeUp, hk, if_true]
    split <;> simp [hk]
  · exact ⟨QFrame.fresh b now, insertByRank_mem _ _, rfl⟩

/-- R149, R153: the head's frame leaves the queue after its attempt, or stays as the new frame. -/
theorem leaveQueue_head {g : QFrame} {rest : List QFrame} (h : g.inAttempt = true) :
    leaveQueue (g :: rest) =
      match g.renewed with
      | some b => ⟨b, g.queuedAt, 0, false, none⟩ :: rest
      | none => rest := by
  cases hr : g.renewed
  · simp [leaveQueue, h, hr]
  · simp only [leaveQueue, h, hr, if_true]; rfl

/-! ## Bytes and their bits -/

/-- A byte is the byte of its bits. -/
theorem byteOfBits_bits (b : Byte) :
    byteOfBits (b.getLsbD 7) (b.getLsbD 6) (b.getLsbD 5) (b.getLsbD 4) (b.getLsbD 3) (b.getLsbD 2) (b.getLsbD 1)
      (b.getLsbD 0) = b := by
  revert b; decide

/-- R146: bytes read back from their bits. -/
theorem bytesOfBits_bitsOfBytes (bs : List Byte) : bytesOfBits? (bitsOfBytes bs) = some bs := by
  induction bs with
  | nil => rfl
  | cons b bs ih =>
    simp only [bitsOfBytes, List.flatMap_cons] at *
    simp only [bitsOfByte, List.cons_append, List.nil_append, bytesOfBits?]
    rw [ih, byteOfBits_bits]

/-- R146: bits read back from their cells on the medium. -/
theorem bitsOfCells_cellOfBit (bs : List Bool) : bitsOfCells? (bs.map cellOfBit) = some bs := by
  induction bs with
  | nil => rfl
  | cons b bs ih => simp [bitsOfCells?, ih, bitOfCell?, cellOfBit]

end Sys2Proof.Machine
end

