-- ==== Sys2Proof/Laws/Enter.lean ====
section
/-! SUPPORT. Entry to a phase and the changes of epoch: what an entry leaves in the round, the plan, the queue and the roster,
when it makes no further transition, and what a trip, an entry change and a frame of no newer epoch do. -/

namespace Sys2Proof.Machine

/-! ## The blocks at an entry -/

/-- Table 2-3: the Round Controller at an entry, whatever the other blocks do. -/
theorem State.enterBase_round (p : Phase) (s : State) : (s.enterBase p).round = s.round.onEntry s.now s.params p := by
  simp [State.enterBase, State.blocksOnEntry, State.params]

/-- R66, R79: in a phase that clears it, no plan is in force, no candidate held and no switch record. -/
theorem State.enterBase_plan (p : Phase) (s : State) (h : p.clearsPlan = true) :
    (s.enterBase p).plan.inForce = none ∧ (s.enterBase p).plan.candidate = none ∧
    (s.enterBase p).plan.build = .none ∧ (s.enterBase p).plan.switchRecord = none := by
  have hw : ∀ r : State, r.walkOnEntry p = r := by cases p <;> simp_all [Phase.clearsPlan, State.walkOnEntry]
  have hd : p.drives = false := by cases p <;> simp_all [Phase.clearsPlan, Phase.drives]
  simp [State.enterBase, hw, State.blocksOnEntry, PlanUnit.onEntry, h, hd, PlanUnit.discard]

/-- R155: sending is barred in ISOLATED. -/
theorem State.barred_isolated {s : State} (h : s.round.phase = .isolated) : s.barred = true := by
  simp [State.barred, h]

/-- R155: sending is barred in JOINING until the join window has ended. -/
theorem State.barred_joining {s : State} (h : s.round.phase = .joining) (h2 : 0 < s.round.joinLeft) :
    s.barred = true := by
  simp [State.barred, h, h2]

/-- R155: sending is barred right after an entry to JOINING or ISOLATED. -/
theorem State.barred_of_entered {p : Phase} {s r : State} (h : p.outside = true)
    (hr : r.round = s.round.onEntry s.now s.params p) : r.barred = true := by
  cases p <;> simp only [Phase.outside, Bool.or_eq_true, beq_iff_eq, reduceCtorEq, or_self] at h
  · exact State.barred_joining (by rw [hr]; rfl) (by rw [hr]; exact Nat.zero_lt_succ 2)
  · exact State.barred_isolated (by rw [hr]; rfl)

/-- R155: on entry to JOINING or ISOLATED the queue is emptied, and nothing is queued. -/
theorem State.enterBase_bus_outside (p : Phase) (s : State) (h : p.outside = true) :
    (s.enterBase p).bus = (Bif.onEntry s.now p s.bus).emptied s.now := by
  have hp : (p == .settling) = false := by cases p <;> simp_all [Phase.outside]
  have hw : ∀ r : State, r.walkOnEntry p = r := by cases p <;> simp_all [Phase.outside, State.walkOnEntry]
  simp only [State.enterBase, State.framesOnEntry, h, hp, hw, State.when_true]
  unfold State.queueState
  rw [State.enqueue_barred]
  · simp [State.emptyQueue, State.blocksOnEntry]
    unfold State.leaveArming State.when
    repeat' split
    all_goals (simp [State.withdrawSteps, Bif.emptied, Bif.onEntry]; try rfl)
  · apply State.barred_of_entered (s := s) h
    simp [State.emptyQueue, State.blocksOnEntry, State.params]

/-- R8, R24, R27: the Roster Unit after an entry to JOINING or ISOLATED. -/
theorem State.enterBase_roster_outside (p : Phase) (s : State) (h : p.outside = true) :
    (s.enterBase p).roster = Roster.onEntry p s.roster := by
  have hp : (p == .settling) = false := by cases p <;> simp_all [Phase.outside]
  simp [State.enterBase, State.framesOnEntry, hp, State.blocksOnEntry]

/-! ## Writes that hand on no transition -/

/-- A phase in which an entry change makes no transition (R38). -/
def State.hearsChangesOnly (s : State) : Prop := s.round.phase.clearsPlan = true ∨ s.round.phase = .settling

/-- R38: an entry change in such a phase does nothing. -/
theorem State.entryChange_quiet (o : Origin) (s : State) (h : s.hearsChangesOnly) : s.entryChange o = s := by
  unfold State.entryChange
  rcases h with h | h <;> rcases hp : s.round.phase <;> simp_all [Phase.clearsPlan]

/-- R9: an own entry written in such a phase leaves the round as it was. -/
theorem State.assertEntry_round_quiet (i : Nat) (c : Condition) (k : FaultClass) (s : State) (h : s.hearsChangesOnly) :
    (s.assertEntry i c k).round = s.round := by
  simp only [State.assertEntry, State.handChange]
  rw [State.entryChange_quiet]
  · simp
  · simpa [State.hearsChangesOnly] using h

/-- R9: an owner write in such a phase leaves the round as it was. -/
theorem State.requestWrite_round_quiet (c : Condition) (k : FaultClass) (s : State) (h : s.hearsChangesOnly) :
    (s.requestWrite c k).round = s.round := by
  unfold State.requestWrite; repeat' split
  · rfl
  · exact State.assertEntry_round_quiet _ _ _ _ h
  · rfl

/-- R9, R141: an owner write with what follows it leaves the round as it was. -/
theorem State.ownerWrite_round_quiet (c : Condition) (k : FaultClass) (s : State) (h : s.hearsChangesOnly) :
    (s.ownerWrite c k).round = s.round := by
  unfold State.ownerWrite State.followFaulted State.when
  have h1 := State.requestWrite_round_quiet c k s h
  split
  · rw [State.requestWrite_round_quiet _ _ _ (by unfold State.hearsChangesOnly; rw [h1]; exact h), h1]
  · exact h1

/-- R141: confirm closed in such a phase leaves the round as it was. -/
theorem State.confirmClosed_round_quiet (s : State) (h : s.hearsChangesOnly) : (s.confirmClosed).round = s.round := by
  unfold State.confirmClosed State.when
  repeat' split
  all_goals simp [State.requestWrite_round_quiet _ _ _ h]

/-- R137: a CLOSE in such a phase leaves the round as it was. -/
theorem State.closeCmd_round_quiet (s : State) (h : s.hearsChangesOnly) : (s.closeCmd).round = s.round := by
  unfold State.closeCmd; repeat' split
  · rfl
  · exact State.confirmClosed_round_quiet _ h
  · rw [State.confirmClosed_round_quiet]; rfl; exact h
  all_goals rfl

/-- R160: the isolation write in such a phase leaves the round as it was. -/
theorem State.isolationWrite_round_quiet (s : State) (h : s.hearsChangesOnly) :
    (s.isolationWrite).round = s.round := by
  unfold State.isolationWrite State.when; dsimp only; repeat' split
  · exact State.ownerWrite_round_quiet _ _ _ h
  · exact State.ownerWrite_round_quiet _ _ _ h
  · rfl

/-! ## Entries that stay -/

/-- The phases whose entry makes no further transition. -/
def Phase.stays : Phase → Bool
  | .joining => true | .isolated => true | .tripped => true | .lockout => true | .settling => true
  | _ => false

/-- Table 2-3: the round after an entry, with its commands, to a phase that stays. -/
theorem State.enterPhase_round_of_stays (p : Phase) (s : State) (h : p.stays = true) :
    (s.enterPhase p).round = s.round.onEntry s.now s.params p := by
  have hb := State.enterBase_round p s
  have hq : (s.enterBase p).hearsChangesOnly := by
    unfold State.hearsChangesOnly
    rw [hb]; cases p <;> simp_all [Phase.stays, Round.onEntry, Phase.clearsPlan]
  have e : s.enterPhase p = (s.enterBase p).commandsOnEntry s.round.phase p := rfl
  rw [e, ← hb]
  generalize s.enterBase p = r at hq ⊢
  cases p <;> simp only [Phase.stays, Bool.false_eq_true] at h
  case joining => exact State.closeCmd_round_quiet _ hq
  case isolated =>
    show (r.closeCmd.isolationWrite).round = _
    rw [State.isolationWrite_round_quiet, State.closeCmd_round_quiet _ hq]
    unfold State.hearsChangesOnly
    rw [State.closeCmd_round_quiet _ hq]; exact hq
  all_goals rfl

/-- An entry to a phase that stays is the entry and its commands alone. -/
theorem State.enter_of_stays (p : Phase) (s : State) (h : p.stays = true) : s.enter p = s.enterPhase p := by
  have hr := State.enterPhase_round_of_stays p s h
  have hp : (s.enterPhase p).round.phase = p := by rw [hr]; rfl
  unfold State.enter entryFuel State.settleEntry
  have h1 : (s.enterPhase p).entryTransition = none := by
    unfold State.entryTransition; rw [hp]; cases p <;> simp_all [Phase.stays]
  have h2 : ((s.enterPhase p).round.phase == .arming) = false := by rw [hp]; cases p <;> simp_all [Phase.stays]
  rw [h1]
  simp [State.cellRefusal, h2]

/-- An entry after which no transition is called for is the entry and its commands alone. -/
theorem State.enter_of_no_transition (p : Phase) (s : State) (h : (s.enterPhase p).entryTransition = none)
    (h2 : (s.enterPhase p).round.phase ≠ .arming) : s.enter p = s.enterPhase p := by
  unfold State.enter entryFuel State.settleEntry
  rw [h]; unfold State.cellRefusal
  rw [beq_eq_false_iff_ne.mpr h2]; rfl

/-! ## Outside the drive -/

/-- JOINING or ISOLATED with no plan and no walk. -/
structure OutsideDrive (s : State) : Prop where
  outside : s.round.phase.outside = true
  build   : s.plan.build = .none
  inForce : s.plan.inForce = none

/-- An entry to JOINING or ISOLATED leaves the station outside the drive. -/
theorem State.enterBase_outsideDrive (p : Phase) (s : State) (h : p.outside = true) : OutsideDrive (s.enterBase p) := by
  have hc : p.clearsPlan = true := by cases p <;> simp_all [Phase.outside, Phase.clearsPlan]
  have hp := State.enterBase_plan p s hc
  exact ⟨by rw [State.enterBase_round]; exact h, hp.2.2.1, hp.1⟩

/-- R65: without a walk an entry change reaches no Plan Unit. -/
theorem State.planEntryChange_of_none (i : Nat) (s : State) (h : s.plan.build = .none) : s.planEntryChange i = s := by
  simp [State.planEntryChange, h]

/-- R9, R26: outside the drive an own entry written is the write and the rest timer alone. -/
theorem State.assertEntry_outside (i : Nat) (c : Condition) (k : FaultClass) (s : State) (h : OutsideDrive s) :
    s.assertEntry i c k = (s.writeEntry i ((s.entryAt i).owned c k)).timeRest c := by
  unfold State.assertEntry State.handChange
  rw [State.planEntryChange_of_none, State.entryChange_quiet]
  · simp [State.queueSummary, h.outside]
  · have hr : (s.writeEntry i ((s.entryAt i).owned c k)).round = s.round := by simp
    unfold State.hearsChangesOnly
    rw [(State.timeRest_frame c _).2.2.2.2.2.1, hr]; left
    have := h.outside
    cases hp : s.round.phase <;> simp_all [Phase.outside, Phase.clearsPlan]
  · simpa using h.build

/-- R130: outside the drive an arming check's answer queues nothing. -/
theorem State.checkArmed_outside {s : State} (h : OutsideDrive s) :
    s.checkArmed.bus = s.bus ∧ s.checkArmed.plan = s.plan ∧ s.checkArmed.roster = s.roster := by
  unfold State.checkArmed State.when State.enqueueStep
  rw [h.inForce]; split <;> exact ⟨rfl, rfl, rfl⟩

/-- R9: outside the drive an owner write touches the roster's entries and the rest timer alone. -/
theorem State.requestWrite_outside (c : Condition) (k : FaultClass) {s : State} (h : OutsideDrive s) :
    (s.requestWrite c k).bus = s.bus ∧ (s.requestWrite c k).plan = s.plan ∧ (s.requestWrite c k).round = s.round ∧
    (s.requestWrite c k).roster.authority = s.roster.authority ∧ OutsideDrive (s.requestWrite c k) := by
  have key : (s.requestWrite c k).bus = s.bus ∧ (s.requestWrite c k).plan = s.plan ∧
      (s.requestWrite c k).round = s.round ∧ (s.requestWrite c k).roster.authority = s.roster.authority := by
    unfold State.requestWrite; repeat' split
    · simp
    · rw [State.assertEntry_outside _ _ _ _ h]
      simp [State.writeEntry, Roster.withEntries]
    · simp
  refine ⟨key.1, key.2.1, key.2.2.1, key.2.2.2, ⟨?_, ?_, ?_⟩⟩
  · rw [key.2.2.1]; exact h.outside
  · rw [key.2.1]; exact h.build
  · rw [key.2.1]; exact h.inForce

/-- R141: outside the drive confirm closed writes the own entry at most, and that only from FAULTED. -/
theorem State.confirmClosed_outside {s : State} (h : OutsideDrive s) :
    s.confirmClosed.bus = s.bus ∧ s.confirmClosed.plan = s.plan ∧ s.confirmClosed.round = s.round ∧
    s.confirmClosed.roster.authority = s.roster.authority ∧
    (s.ownCond .faulted = false → s.confirmClosed.roster = s.roster) := by
  have hr := State.requestWrite_outside .bypassed s.watch.leading h
  have h1 := State.checkArmed_outside h
  have h2 := State.checkArmed_outside hr.2.2.2.2
  unfold State.confirmClosed State.when
  split <;> rename_i hf <;> split <;> simp_all [State.faultedWithLatch]

/-- R137: outside the drive a CLOSE writes the own entry at most, and that only from FAULTED. -/
theorem State.closeCmd_outside {s : State} (h : OutsideDrive s) :
    s.closeCmd.bus = s.bus ∧ s.closeCmd.plan = s.plan ∧ s.closeCmd.round = s.round ∧
    s.closeCmd.roster.authority = s.roster.authority ∧ (s.ownCond .faulted = false → s.closeCmd.roster = s.roster) ∧
    OutsideDrive s.closeCmd := by
  have key : s.closeCmd.bus = s.bus ∧ s.closeCmd.plan = s.plan ∧ s.closeCmd.round = s.round ∧
      s.closeCmd.roster.authority = s.roster.authority ∧
      (s.ownCond .faulted = false → s.closeCmd.roster = s.roster) := by
    unfold State.closeCmd; repeat' split
    · simp
    · exact State.confirmClosed_outside h
    · exact State.confirmClosed_outside (s := s.onBypass _) ⟨h.outside, h.build, h.inForce⟩
    all_goals simp
  refine ⟨key.1, key.2.1, key.2.2.1, key.2.2.2.1, key.2.2.2.2, ⟨?_, ?_, ?_⟩⟩
  · rw [key.2.2.1]; exact h.outside
  · rw [key.2.1]; exact h.build
  · rw [key.2.1]; exact h.inForce

/-- R9, R141: outside the drive an owner write with what follows it leaves the bus, the plan and the round as they were. -/
theorem State.ownerWrite_outside (c : Condition) (k : FaultClass) {s : State} (h : OutsideDrive s) :
    (s.ownerWrite c k).bus = s.bus ∧ (s.ownerWrite c k).plan = s.plan ∧ (s.ownerWrite c k).round = s.round := by
  have h1 := State.requestWrite_outside c k h
  have h2 := State.requestWrite_outside .bypassed (s.requestWrite c k).watch.leading h1.2.2.2.2
  unfold State.ownerWrite State.followFaulted State.when
  split
  · exact ⟨h2.1.trans h1.1, h2.2.1.trans h1.2.1, h2.2.2.1.trans h1.2.2.1⟩
  · exact ⟨h1.1, h1.2.1, h1.2.2.1⟩

/-- R160: outside the drive the isolation write leaves the bus, the plan and the round as they were. -/
theorem State.isolationWrite_outside {s : State} (h : OutsideDrive s) :
    s.isolationWrite.bus = s.bus ∧ s.isolationWrite.plan = s.plan ∧ s.isolationWrite.round = s.round := by
  have h1 := State.ownerWrite_outside .resting FaultClass.isolation h
  unfold State.isolationWrite State.when; dsimp only; repeat' split
  · exact h1
  · exact h1
  · exact ⟨rfl, rfl, rfl⟩

/-- R160: at a LIVE or RESTING own entry under active authority the isolation write restarts the rest hold-off. -/
theorem State.isolationWrite_rest {s : State} (hOwned : s.ownedIndex.isSome = true)
    (hEntry : (s.ownCond .live || s.ownCond .resting) = true) :
    s.isolationWrite.watch.rest = .running (s.now + sec s.params.rest) := by
  unfold State.isolationWrite
  rw [hEntry, State.when_true, hOwned, State.when_true, State.timeRest_rest]
  simp [restAfter, State.params]

/-- R160: at any other own entry the isolation write is not requested. -/
theorem State.isolationWrite_of_not (s : State) (hEntry : (s.ownCond .live || s.ownCond .resting) = false) :
    s.isolationWrite = s := by
  unfold State.isolationWrite
  rw [hEntry, State.when_false]

/-- R53, R155, R160: the round, the bus and the plan after an entry to ISOLATED. -/
theorem State.enter_isolated (s : State) :
    (s.enter .isolated).round = s.round.onEntry s.now s.params .isolated ∧
    (s.enter .isolated).bus = (Bif.onEntry s.now .isolated s.bus).emptied s.now ∧
    (s.enter .isolated).plan.inForce = none ∧ (s.enter .isolated).plan.candidate = none := by
  have h0 := State.enterBase_outsideDrive .isolated s rfl
  have h1 := State.closeCmd_outside h0
  have h3 := State.isolationWrite_outside h1.2.2.2.2.2
  have he : s.enter .isolated = (s.enterBase .isolated).closeCmd.isolationWrite := State.enter_of_stays _ _ rfl
  have hp := State.enterBase_plan .isolated s rfl
  rw [he]
  refine ⟨?_, ?_, ?_, ?_⟩
  · rw [h3.2.2, h1.2.2.1, State.enterBase_round]
  · rw [h3.1, h1.1, State.enterBase_bus_outside _ _ rfl]
  · rw [h3.2.1, h1.2.1, hp.1]
  · rw [h3.2.1, h1.2.1, hp.2.1]

/-! ## Epochs and trips -/

/-- R29: no epoch is newer than itself. -/
theorem epochNewer_self (e : Half) : epochNewer e e = false := by simp [epochNewer, serialNewer]

/-- R29, R45, R50: the round after a change of epoch. -/
theorem State.setEpoch_round {e : Half} {s : State} (h : e ≠ s.round.epoch) :
    (s.setEpoch e).round = { s.round with epoch := e, resettle := 0, early := [] } := by
  simp [State.setEpoch, h]

/-- R35: a trip with ROUNDS attempts in the window leads to LOCKOUT. -/
theorem State.takeTrip_lockout (s : State)
    (h : s.params.rounds ≤ (pruneAttempts s.now (sec s.params.window) s.round.attempts).length) :
    s.takeTrip =
      ((s.onRound fun r => { r with attempts := pruneAttempts s.now (sec s.params.window) s.round.attempts }).enterBase
        .lockout) := by
  unfold State.takeTrip; exact if_pos h

/-- R35: a trip with fewer attempts is recorded and leads to TRIPPED. -/
theorem State.takeTrip_tripped (s : State)
    (h : (pruneAttempts s.now (sec s.params.window) s.round.attempts).length < s.params.rounds) :
    s.takeTrip =
      ((s.onRound fun r =>
        { r with
          attempts := recordAttempt s.now (pruneAttempts s.now (sec s.params.window) s.round.attempts) }).enterBase
        .tripped) := by
  unfold State.takeTrip; exact if_neg (Nat.not_le_of_lt h)

/-- R35: after a trip no plan is in force, the epoch is as it was, and the phase is TRIPPED or LOCKOUT. -/
theorem State.takeTrip_clears (s : State) :
    s.takeTrip.plan.inForce = none ∧ s.takeTrip.round.epoch = s.round.epoch ∧
    (s.takeTrip.round.phase = .tripped ∨ s.takeTrip.round.phase = .lockout) := by
  unfold State.takeTrip
  dsimp only; split
  · refine ⟨(State.enterBase_plan .lockout _ rfl).1, ?_, ?_⟩ <;> rw [State.enterBase_round]
    · rfl
    · right; rfl
  · refine ⟨(State.enterBase_plan .tripped _ rfl).1, ?_, ?_⟩ <;> rw [State.enterBase_round]
    · rfl
    · left; rfl

/-! ## Frames from other stations -/

/-- R147: a valid frame of its row's kind from another station is taken. -/
theorem State.receive_valid {k : Kind} {x : Transmission} {f : Frame} {s : State} {take : Frame → State → State}
    (hx : examineKind k x = some f) (hf : f.station.toNat ≠ s.number) : State.receive k x take s = take f s := by
  simp [State.receive, hx, State.fromAnother, Frame.number, hf]

/-- R29: inside the drive a frame of no newer epoch is heard and changes nothing else of the round but the mark that a
frame has been taken. -/
theorem State.takeFrame_not_newer {f : Frame} {s : State} (h1 : s.round.phase ≠ .joining)
    (h2 : s.round.phase ≠ .isolated) (h3 : epochNewer f.epoch s.round.epoch = false) :
    s.takeFrame f = (s.hear f).onRound fun r => { r with firstTaken := true } := by
  have e1 : (s.hear f).endIsolation = s.hear f := by
    simp [State.endIsolation, State.enterIf, beq_eq_false_iff_ne.mpr h2]
  unfold State.takeFrame; rw [e1]
  unfold State.takeEpoch
  simp [h1, h3]

/-! ## GATE_EN -/

/-- R143: GATE_EN is low in every phase in which the drive does not modulate. -/
theorem State.gateEn_of_phase {s : State} (h : s.round.phase.drives = false) : s.gateEn = false := by
  simp [State.gateEn, h]

end Sys2Proof.Machine
end

