-- ==== Sys2Proof/Laws/Record.lean ====
section
/-! SUPPORT. The records of the line station in the words of Safety.lean: what `recordOf` writes, and what the trip context
holds. -/

namespace Sys2Proof.Laws

open Sys2Proof.Machine Sys2Proof.Safety

/-- The carrier offset found for a position is that of its first place in the list. -/
theorem offsetAt_first {k x : Nat} : ∀ {l o : List Nat} {j : Nat}, l[j]? = some k → (∀ i, i < j → l[i]? ≠ some k) →
    o[j]? = some x → offsetAt l o k = some x
  | [], _, _, h, _, _ => by simp at h
  | _ :: _, [], _, _, _, h => by simp at h
  | a :: l, b :: o, 0, h, _, hx => by
    simp only [List.getElem?_cons_zero, Option.some.injEq] at h hx
    simp [offsetAt, h, hx]
  | a :: l, b :: o, j + 1, h, hf, hx => by
    have ha : a ≠ k := fun e => hf 0 (Nat.succ_pos j) (by simp [e])
    have := offsetAt_first (l := l) (o := o) (j := j) (by simpa using h)
      (fun i hi => by simpa using hf (i + 1) (Nat.succ_lt_succ hi)) (by simpa using hx)
    simpa [offsetAt, ha] using this

/-- No carrier offset is found for a position outside the list. -/
theorem offsetAt_absent {k : Nat} {l o : List Nat} (h : k ∉ l) : offsetAt l o k = none := by
  simp only [offsetAt, Option.map_eq_none_iff, List.find?_eq_none]
  rintro ⟨a, b⟩ hab
  have : a ∈ l := (List.of_mem_zip hab).1
  simp only [beq_iff_eq]
  rintro rfl
  exact h this

/-- The slot of a position among the nine of its phase. -/
theorem phaseSlots_get {l o : List Nat} {k : Nat} (h1 : 1 ≤ k) (h9 : k ≤ 9) :
    (phaseSlots l o)[k - 1]? = some (slotOf l o k) := by
  have : k - 1 < 9 := by omega
  simp [phaseSlots, this, Nat.sub_add_cancel h1]

/-- A phase has nine slots. -/
theorem phaseSlots_length (l o : List Nat) : (phaseSlots l o).length = 9 := by simp [phaseSlots]

/-- R177, Table 10-3: the record built of a plan holds it. -/
theorem recordOf_holds {c : Plan} {b : PlanBody} (o : CatchOutcome) (f : Half) (a : Option Half) (h : c.body = some b) :
    RecordHolds c b o f a (recordOf c o f a) := by
  simp only [recordOf, h]
  refine ⟨⟨rfl, rfl, rfl, rfl, rfl, rfl, rfl, rfl, rfl, rfl⟩, ⟨rfl, rfl, rfl⟩, by simp [phaseSlots_length], ?_⟩
  intro p k hp h1 h9
  have hslot : (phaseSlots b.active.a b.offsets.a ++ phaseSlots b.active.b b.offsets.b
      ++ phaseSlots b.active.c b.offsets.c)[9 * p + k - 1]? =
      some (slotOf (b.active.get p) (b.offsets.get p) k) := by
    have hk := fun l o => phaseSlots_get (l := l) (o := o) h1 h9
    obtain rfl | rfl | rfl : p = 0 ∨ p = 1 ∨ p = 2 := by omega
    · rw [List.getElem?_append_left (by simp [phaseSlots_length]; omega),
        List.getElem?_append_left (by simp [phaseSlots_length]; omega)]
      rw [show 9 * 0 + k - 1 = k - 1 by omega]
      exact hk _ _
    · rw [List.getElem?_append_left (by simp [phaseSlots_length]; omega),
        List.getElem?_append_right (by simp [phaseSlots_length]; omega)]
      rw [phaseSlots_length, show 9 * 1 + k - 1 - 9 = k - 1 by omega]
      exact hk _ _
    · rw [List.getElem?_append_right (by simp [phaseSlots_length]; omega)]
      rw [List.length_append, phaseSlots_length, phaseSlots_length, show 9 * 2 + k - 1 - (9 + 9) = k - 1 by omega]
      exact hk _ _
  refine ⟨fun j x hj hf hx => ?_, fun hk => ?_⟩
  · exact hslot.trans (by rw [slotOf, offsetAt_first hj hf hx])
  · exact hslot.trans (by rw [slotOf, offsetAt_absent hk]; rfl)

/-- R100: the tag of a source's age. -/
theorem tagOf_holds (s : State) (now : Time) (u : Option Time) : TagHolds s now u (tagOf now s.report u) := by
  constructor
  · rintro rfl
    rfl
  · rintro v rfl
    rfl

/-- R99, R100: the trip context saved. -/
theorem tripContext_saved (s : State) : ContextSaved s s.now s.tripContext := by
  refine ⟨rfl, tagOf_holds s _ _, fun w hw => by simp [State.tripContext, hw], ⟨rfl, tagOf_holds s _ _⟩,
    ⟨rfl, tagOf_holds s _ _⟩, ⟨rfl, tagOf_holds s _ _⟩, ?_⟩
  simp [State.tripContext, State.preTripTag]

end Sys2Proof.Laws
end

