-- ==== Sys2Proof/Laws/Table.lean ====
section
/-! SUPPORT. The entries of a SUMMARY against Table 1-2: which items read as an entry, and what is read; the bytes an entry
contributes to a digest. -/

namespace Sys2Proof.Laws

open Sys2Proof.Machine Sys2Proof.Safety

/-- R25, Table 9-6: the bytes an entry carries are the four that the roster digest takes. -/
theorem entryBytes_eq (e : RosterEntry) : entryBytes e = e.item.bytes := by
  have hHalf : halfBytes e.version = bytesOfHalf e.version := by
    simp only [halfBytes, bytesOfHalf, List.cons.injEq, and_true]
    constructor <;> apply BitVec.eq_of_toNat_eq <;> simp [BitVec.extractLsb'_toNat, Nat.shiftRight_eq_div_pow]
  have hClass : ∀ k : BitVec 4, BitVec.ofNat 8 k.toNat = 0#4 ++ k := by decide
  have hFirst : BitVec.ofNat 8 (16 * conditionCode e.cond + if e.source = .owner then 1 else 0) =
      e.cond.code ++ 0#3 ++ BitVec.ofBool (e.source == .owner) := by
    cases e.cond <;> cases e.source <;> decide
  rw [entryBytes, hHalf, hClass, hFirst]
  rfl

/-- Table 1-2: an item's condition code and class are allowed together with its source just when they stand in the table. -/
theorem entryAllowed_iff (x : SummaryItem) (c : Condition) :
    (Condition.ofCode x.cond = some c ∧ entryAllowed c (if x.owner then .owner else .observer) x.cls = true) ↔
      InsideTable x ∧ x.cond.toNat = conditionCode c := by
  obtain ⟨code, o, k, v⟩ := x
  unfold InsideTable
  cases c <;> cases o <;> simp only [if_true, Bool.false_eq_true, if_false] <;> clear v <;> revert code k <;> decide +kernel

/-- R16: an item reads as an entry just when it lies inside Table 1-2, and as the one that carries its four fields. -/
theorem read_eq_some_iff (x : SummaryItem) (r : RosterEntry) :
    x.read = some r ↔ InsideTable x ∧ ItemCarries x r ∧ r.silentSince = 0 := by
  obtain ⟨c, src, k, v, u⟩ := r
  have hSource : (if x.owner then Source.owner else Source.observer) = src ↔ (src = .owner ↔ x.owner = true) := by
    cases x.owner <;> cases src <;> decide
  have hRead : x.read = some ⟨c, src, k, v, u⟩ ↔
      (Condition.ofCode x.cond = some c ∧ entryAllowed c (if x.owner then .owner else .observer) x.cls = true) ∧
        (if x.owner then Source.owner else Source.observer) = src ∧ x.cls = k ∧ x.version = v ∧ 0 = u := by
    unfold SummaryItem.read
    cases Condition.ofCode x.cond with
    | none => simp
    | some d =>
      by_cases hd : entryAllowed d (if x.owner then .owner else .observer) x.cls = true
      · simp only [hd, if_true, Option.some.injEq, RosterEntry.mk.injEq]
        constructor
        · rintro ⟨rfl, rest⟩
          exact ⟨⟨rfl, hd⟩, rest⟩
        · rintro ⟨⟨rfl, _⟩, rest⟩
          exact ⟨rfl, rest⟩
      · simp only [hd, Bool.false_eq_true, if_false, Option.some.injEq, reduceCtorEq, false_iff]
        rintro ⟨⟨rfl, h⟩, _⟩
        exact hd h
  rw [hRead, entryAllowed_iff, hSource]
  simp only [ItemCarries]
  constructor
  · rintro ⟨⟨hi, hc⟩, ho, hk, hv, hu⟩
    exact ⟨hi, ⟨hc, ho, hk.symm, hv.symm⟩, hu.symm⟩
  · rintro ⟨hi, ⟨hc, ho, hk, hv⟩, hu⟩
    exact ⟨⟨hi, hc⟩, ho, hk.symm, hv.symm, hu.symm⟩

/-- R16: the items of a SUMMARY read as entries just when they read one by one. -/
theorem readEntries_eq_some_iff (xs : List SummaryItem) (rs : List RosterEntry) :
    readEntries xs = some rs ↔ xs.map SummaryItem.read = rs.map some := by
  induction xs generalizing rs with
  | nil => cases rs <;> simp [readEntries]
  | cons x rest ih =>
    cases rs with
    | nil =>
      simp only [readEntries, List.map_cons, List.map_nil, reduceCtorEq, iff_false]
      cases x.read <;> cases readEntries rest <;> simp
    | cons r more =>
      have h := ih more
      simp only [readEntries, List.map_cons, List.cons.injEq, ← h]
      cases x.read <;> cases readEntries rest <;> simp

end Sys2Proof.Laws
end

