-- ==== Sys2Proof/WellFormed.lean ====
section
/-! DEFINITION. Well-formed commands: a command names an event that can come to a station. A meaning does not rest on these
checks: it takes every command, and one that names no possible event only moves the time on (log 2). -/

namespace Sys2Proof

/-- The access of a port row: begun by then, with the row's command byte (R186). -/
def Access.fits (t : Time) (c : Machine.PortCommand) (a : Access) : Bool :=
  decide (a.began ≤ t) && Machine.portCommandOf a.command == some c

/-- A command whose operands fit its row: a pin reset lasts at least 1 µs (R184), an access has its row's command byte and
begins no later than its bytes are clocked out (R186), a station number lies in 0 to 27 (R1), a
conversion's value in 0 to 1000 (Table 6-2), a received transmission passes the receive checks and is of its row's kind, and
an invalid one fails them (R147). -/
def Instr.wf : Instr → Bool
  | .pinReset _ (.falls held) _ => held
  | .readImage t a _ _ => a.fits t .readImage
  | .readWorking t a _ _ => a.fits t .readWorking
  | .status t a _ => a.fits t .status
  | .write t a _ _ => a.fits t .write
  | .heardStatusTimeout _ n => decide (n < Config.stations)
  | .invalidTransmission _ x => (Machine.examine x).isNone
  | .duplicateAddress _ x => (Machine.examine x).isSome
  | .stateReceived _ x => (Machine.examineKind .state x).isSome
  | .summaryReceived _ x => (Machine.examineKind .summary x).isSome
  | .alarmReceived _ x => (Machine.examineKind .alarm x).isSome
  | .stepReceived _ x => (Machine.examineKind .step x).isSome
  | .lineReceived _ x => (Machine.examineKind .line x).isSome
  | .conversionComplete _ v _ => decide (v ≤ 1000)
  | _ => true

end Sys2Proof
end

