-- ==== Sys2Proof/Tests/Slice0.lean ====
section
/-! SUPPORT. Tests: ill-formed commands that `Instr.wf` refuses, and for each obligation with hypotheses concrete states and
operands that meet them, clause by clause, mostly with what the command then does. -/

namespace Sys2Proof.Tests

-- One theorem at a time: the kernel's evaluations below are deep, and each thread keeps a stack of its own.
set_option Elab.async false

open Sys2Proof.Machine Sys2Proof.Safety

/-! ## States and frames -/

/-- The state a command answers. -/
def ran (c : Instr) (s : State) : State :=
  match exec c s with
  | .next r => r
  | _ => s

/-- Cell A1 right after reset. -/
def cell : State := State.reset

/-- The line station right after a power-on reset. -/
def line : State := ran (.powerOnReset 0 ⟨true, 0, 0⟩) State.reset

/-- A cell station whose image is all zeros, which is not valid. -/
def invalidCell : State :=
  ran (.powerOnReset 0 ⟨false, 0, 1⟩) { cell with store := { cell.store with image := List.replicate 64 0 } }

/-- A station in a phase, its join window over, its authority active, its phase timer due at 100 µs. -/
def inPhase (p : Phase) (s : State) : State :=
  { s with
    round := { s.round with phase := p, joinLeft := 0, phaseTimer := some 100 }
    roster := { s.roster with authority := true } }

/-- The own entry, index 1, with a content and version 5. -/
def withOwn (c : Condition) (k : FaultClass) (s : State) : State :=
  { s with roster := { s.roster with entries := ⟨c, sourceOf c, k, 5, 0⟩ :: s.roster.entries.drop 1 } }

/-- A candidate finished from 18 LIVE entries. -/
def viable (revision : Byte) : Plan :=
  finishPlan cell.params 0 ⟨⟨[1, 2, 3, 4, 5, 6], [1, 2, 3, 4, 5, 6], [1, 2, 3, 4, 5, 6]⟩, []⟩ (Plan.begun 0 revision)

/-- The digest of such a candidate. -/
def digestOf (p : Plan) : Half := p.digest?.getD 0

/-- A station with the round plan in force and run request present. -/
def driving (p : Phase) (s : State) : State :=
  { inPhase p s with
    plan := { s.plan with inForce := some (viable 0) }
    round := { (inPhase p s).round with facts := { s.round.facts with runReq := true } } }

/-- A frame in the queue. -/
def waiting (b : QBody) : QFrame := ⟨b, 0, 0, false, none⟩

/-- A station with a frame in its attempt, `collisions` so far. -/
def sending (b : QBody) (p : Payload) (collisions : Nat) (s : State) : State :=
  { s with
    bus := { s.bus with
      queue := [⟨b, 0, collisions, true, none⟩, waiting .summary]
      attempt := some ⟨⟨BitVec.ofNat 8 s.number, s.round.epoch, p⟩, 0⟩ } }

/-- A STATE payload of a phase at the part's config digest. -/
def statePayload (phase : Byte) : StatePayload := ⟨phase, false, false, 0, 0, 0, cell.store.digest⟩

/-- A LINE payload with run request as given. -/
def linePayload (runReq : Bool) (mark : Half) (w : Option SwitchBlock) : LinePayload :=
  ⟨mark, runReq, true, true, false, false, false, 0, 0, 0, 0, none, w⟩

/-- The longest LINE payload. -/
def fullLine : LinePayload := { linePayload true 7 (some ⟨1, 8, 9⟩) with catchBlock := some ⟨3, 0x8000⟩ }

/-- A frame from a station at an epoch. -/
def frame (station : Byte) (epoch : Half) (p : Payload) : Frame := ⟨station, epoch, p⟩

/-- A SUMMARY of `n` LIVE entries at version 1. -/
def summary (n : Nat) : Payload := .summary (List.replicate n ⟨0, true, 0, 1⟩)

/-- A line station with an ACTIVE catch, its scanner continuous, the conversion of a channel ending at 5 µs. -/
def catching (channel : Nat) (x : Slot) : State :=
  { inPhase .catching line with
    catcher := { line.catcher with
      active := true, timer := some 100, quiet := some 50, trackAB := ⟨some (-10, 1), 200, 200⟩ }
    scanner := { line.scanner with
      mode := .continuous, standing := .free, last := 2, activity := some ⟨channel, 0, 5⟩
      slots := setAt line.scanner.slots channel x } }

/-- A scanner whose conversion of a channel ends at 5 µs. -/
def converting (channel : Nat) (s : State) : State :=
  { s with scanner := { s.scanner with activity := some ⟨channel, 0, 5⟩ } }

/-! ## WellFormed refuses ill-formed commands -/

theorem test_wf_refuses_a_pulse_too_short : (Instr.pinReset 0 (.falls false) State.resetStraps).wf = false ∧
    (Instr.pinReset 0 (.falls true) State.resetStraps).wf = true := by decide

theorem test_wf_refuses_another_command_byte : (Instr.readImage 5 ⟨5, .low, 2⟩ 0 1).wf = false ∧
    (Instr.readWorking 5 ⟨5, .low, 3⟩ 0 1).wf = false ∧ (Instr.status 5 ⟨5, .low, 4⟩ 1).wf = false ∧
    (Instr.write 5 ⟨5, .low, 0⟩ [0, 1] false).wf = false ∧ (Instr.status 5 ⟨6, .low, 3⟩ 1).wf = false ∧
    (Instr.status 5 ⟨5, .low, 3⟩ 1).wf = true := by decide

theorem test_wf_refuses_station_28 : (Instr.heardStatusTimeout 0 28).wf = false ∧
    (Instr.heardStatusTimeout 0 27).wf = true := by decide

theorem test_wf_refuses_value_1001 : (Instr.conversionComplete 0 1001 true).wf = false ∧
    (Instr.conversionComplete 0 1000 true).wf = true := by decide

theorem test_wf_refuses_valid_frame_as_invalid :
    (Instr.invalidTransmission 0 (frame 1 0 (.alarm 1 2 3)).transmission).wf = false ∧
    (Instr.invalidTransmission 0 [⟨true, true⟩]).wf = true := by decide +kernel

theorem test_wf_refuses_frame_of_another_kind :
    (Instr.stateReceived 0 (frame 1 0 (.alarm 1 2 3)).transmission).wf = false ∧
    (Instr.summaryReceived 0 (frame 1 0 (.alarm 1 2 3)).transmission).wf = false ∧
    (Instr.stepReceived 0 (frame 1 0 (.alarm 1 2 3)).transmission).wf = false ∧
    (Instr.lineReceived 0 (frame 1 0 (.alarm 1 2 3)).transmission).wf = false ∧
    (Instr.alarmReceived 0 (frame 1 0 (.alarm 1 2 3)).transmission).wf = true := by decide +kernel

theorem test_wf_refuses_a_frame_with_a_wrong_bit :
    (Instr.alarmReceived 0 ((frame 1 0 (.alarm 1 2 3)).transmission.set 30 ⟨false, false⟩)).wf = false ∧
    (Instr.duplicateAddress 0 []).wf = false ∧
    (Instr.summaryReceived 0 (frame 1 0 (summary 8)).transmission).wf = false ∧
    (Instr.summaryReceived 0 (frame 28 0 (summary 9)).transmission).wf = false := by decide +kernel

/-! ## The step, resets and supply -/

theorem test_step_takes_the_front :
    step { cell with pending := [.lossOfSupply 3, .defer 4] } = exec (.lossOfSupply 3) { cell with pending := [.defer 4] } ∧
    cell.pending = [] := ⟨rfl, rfl⟩

theorem test_a_command_beside_the_resets : ∃ s', exec (.defer 1) cell = .next s' ∧
    (∀ t x, Instr.defer 1 ≠ .powerOnReset t x) ∧ (∀ t e x, Instr.defer 1 ≠ .pinReset t e x) ∧
    ∀ t, Instr.defer 1 ≠ .lossOfSupply t := ⟨_, rfl, by simp, by simp, by simp⟩

/-- A cell whose coil is held. -/
def held : State := { cell with bypass := { Bypass.init with state := .opened, hold := true } }

/-- A cell with RESET# low since 20 µs, its coil held before. -/
def inReset : State := ran (.pinReset 20 (.falls true) State.resetStraps) held

theorem test_pin_reset_falls : held.runs = true ∧ held.bypass.coilRelease = none ∧ inReset.runs = false ∧
    inReset.bypass = { Bypass.init with hold := true, coilRelease := some 30 } ∧ cell.bypass.hold = false ∧
    inReset.powered = true ∧ inReset.store.resetLow = true ∧ ran (.defer 25) inReset = inReset.advance 25 := by
  decide +kernel

theorem test_pin_reset_rises :
    (ran (.pinReset 25 .rises ⟨true, 0, 0⟩) inReset).isLine = true ∧
    (ran (.pinReset 25 .rises ⟨true, 0, 0⟩) inReset).bypass.coilRelease = some 30 ∧
    (ran (.pinReset 35 .rises ⟨false, 0, 1⟩) (ran (.pinResetCoilRelease 30) inReset)).bypass = Bypass.init ∧
    (ran (.pinReset 25 .rises ⟨false, 0, 1⟩) inReset).bus.nextTick = 5025 := by decide +kernel

/-- A cell whose supply failed while RESET# was low. -/
def lostInReset : State := ran (.lossOfSupply 30) inReset

theorem test_reset_level_outlasts_the_supply : lostInReset.powered = false ∧ lostInReset.store.resetLow = true ∧
    (ran (.powerOnReset 40 ⟨false, 0, 1⟩) lostInReset).runs = false ∧
    (ran (.powerOnReset 40 ⟨false, 0, 1⟩) (ran (.pinReset 35 .rises ⟨false, 0, 2⟩) lostInReset)).runs = true ∧
    (ran (.powerOnReset 40 ⟨false, 0, 1⟩)
      (ran (.pinReset 35 (.falls true) ⟨false, 0, 2⟩) (ran (.lossOfSupply 1) cell))).runs = false := by decide +kernel

theorem test_rise_after_power_on : (ran (.pinReset 50 .rises ⟨true, 0, 0⟩)
    (ran (.powerOnReset 40 ⟨false, 0, 1⟩) lostInReset)).runs = true ∧
    (ran (.pinReset 50 .rises ⟨true, 0, 0⟩) (ran (.powerOnReset 40 ⟨false, 0, 1⟩) lostInReset)).isLine = true := by
  decide +kernel

theorem test_short_waits :
    (ran (.pinResetCoilRelease 21)
      { cell with bypass := { Bypass.init with hold := true, coilRelease := some 21 } }).bypass = Bypass.init ∧
    (ran (.gateOffWaitEnd 10)
      { cell with bypass := { Bypass.init with state := .closing, hold := true, gateOff := some 10 } }).bypass =
      { Bypass.init with state := .closing, contact := some 60010 } ∧
    (ran (.switchPulseEnd 10) { line with port := { line.port with switchPulse := some 10 } }).switchOut = false := by
  decide +kernel

theorem test_loss_of_supply : (ran (.lossOfSupply 1) cell).powered = false ∧
    ran (.defer 2) (ran (.lossOfSupply 1) cell) = (ran (.lossOfSupply 1) cell).advance 2 := by decide +kernel

/-! ## The programming port -/

theorem test_reads : cell.powered = true ∧ cell.store.write = none ∧ cell.store.freeSince ≤ 0 ∧ WpPin.low ≠ .high ∧
    WpPin.rises 2 ≠ .high ∧
    (ran (.readImage 0 ⟨0, .low, 1⟩ 63 2) cell).store.portOut = [byteAt defaultImage 63, 6] ∧
    (ran (.readWorking 0 ⟨0, .rises 2, 2⟩ 0 9) cell).store.portOut = [6, 4] ∧
    (ran (.status 0 ⟨0, .low, 3⟩ 1) cell).store.portOut = [0x82] ∧ 63 < (64#8 : Byte).toNat ∧
    (ran (.status 22 ⟨21, .low, 3⟩ 1) inReset).store.portOut = [0x82] := by decide +kernel

theorem test_status_of_one_access_goes_on :
    (ran (.status 9 ⟨5, .low, 3⟩ 1)
      { ran (.status 6 ⟨5, .low, 3⟩ 1) cell with bus := { cell.bus with duplicate := true } }).store.portOut =
      [0x82, 0x92] ∧ cell.store.portAccess ≠ some 5 := by decide +kernel

theorem test_status_stops_at_the_rise_of_wp :
    (ran (.status 9 ⟨5, .rises 5, 3⟩ 4) (ran (.status 6 ⟨5, .low, 3⟩ 3) cell)).store.portOut =
      List.replicate 5 0x82 := by decide +kernel

theorem test_barred_accesses :
    (ran (.status 0 ⟨0, .high, 3⟩ 1) cell).store.portOut = [] ∧
    ({ cell with store := { cell.store with write := some ⟨0, [1], 4000⟩ } } : State).store.write.isSome = true ∧
    (ran (.status 4002 ⟨4000, .low, 3⟩ 1)
      (ran (.writeCompletion 4001) (ran (.write 1 ⟨0, .low, 4⟩ [0, 6] false) cell))).store.portOut = [] ∧
    (ran (.status 0 ⟨0, .low, 5⟩ 1) cell).store.portOut = [] ∧ 4 < (5#8 : Byte).toNat ∧
    (ran (.write 0 ⟨0, .low, 0⟩ [0, 6] false) cell).store.write = none := by decide +kernel

theorem test_write : (ran (.write 5 ⟨0, .low, 4⟩ [63, 1] false) cell).store.write = some ⟨63, [1], 4005⟩ ∧
    (ran (.write 5 ⟨0, .low, 4⟩ [56, 1, 2, 3, 4, 5, 6, 7, 8] false) cell).store.write =
      some ⟨56, [1, 2, 3, 4, 5, 6, 7, 8], 4005⟩ ∧
    (ran (.write 5 ⟨0, .low, 4⟩ [56] false) cell).store.write = none ∧
    (ran (.write 5 ⟨0, .low, 4⟩ [0, 1, 2, 3, 4, 5, 6, 7, 8, 9] false) cell).store.write = none ∧
    (ran (.write 5 ⟨0, .low, 4⟩ [63, 1, 2] false) cell).store.write = none := by decide +kernel

theorem test_write_completion :
    ran (.writeCompletion 4000) { cell with store := { cell.store with write := some ⟨62, [1, 2], 4000⟩ } } =
      { cell.advance 4000 with
        store := { cell.store with image := defaultBody ++ [1, 2], differs := true, write := none, freeSince := 4000 } } ∧
    62 + [1#8, 2#8].length ≤ cell.store.image.length := by decide +kernel

/-! ## Ticks, timeouts and the transmission attempt -/

theorem test_tick_in_the_window : cell.bus.nextTick ≤ max cell.now 5000 ∧ cell.round.phase = .joining ∧
    cell.round.joinLeft = 3 ∧ (ran (.reportTick 5000) cell).round.joinLeft = 2 ∧ max cell.now 4999 < cell.bus.nextTick := by
  decide +kernel

theorem test_window_end_with_an_invalid_copy :
    invalidCell.bus.duplicate = false ∧ invalidCell.fitted = true ∧ invalidCell.store.valid = false ∧
    (ran (.joinWindowEnd 5000) { invalidCell with round := { invalidCell.round with joinLeft := 1 } }).round.phase =
      .joining := by decide +kernel

theorem test_window_end_at_the_line_station :
    line.bus.duplicate = false ∧ line.isLine = true ∧ line.store.valid = true ∧ (line.advance 5000).voters = [] ∧
    line.round.runDemand = false ∧ line.round.deferred = false ∧
    (ran (.joinWindowEnd 5000) { line with round := { line.round with joinLeft := 1 } }).round.phase = .halted := by
  decide +kernel

/-- A cell at the end of its join window that has heard the line station's STATE of a phase. -/
def joining (p : Phase) : State :=
  { cell with
    round := { cell.round with joinLeft := 1, facts := { cell.round.facts with runReq := true, brakeOpen := true } }
    watch := { cell.watch with passSeen := true }
    bus := { cell.bus with
      heard := setAt cell.bus.heard 0 ⟨.heard, some 0, some 0, some ⟨0, 0, p, 0, false, 0, 0, cell.store.digest, false⟩⟩ } }

theorem test_cell_joins : (joining .lockout).ownIndex = some 1 ∧ max 0 5000 - 0 < cell.quietTime ∧ 1 ≤ cell.params.report ∧
    cell.watch.latch = [] ∧ rosterDigestOf (cell.roster.entries.set 0 ⟨.live, .owner, 0, 1, 0⟩) ≠ cell.roster.digest ∧
    cell.roster.entries[0]? = some ⟨.silent, .observer, 0, 0, 0⟩ ∧
    (ran (.joinWindowEnd 5000) (joining .lockout)).round.phase = .lockout ∧
    (ran (.reportTick 5000) (joining .planning)).round.phase = .settling ∧
    (ran (.reportTick 5000) (joining .planning)).round.tripRound = true ∧
    (ran (.reportTick 5000) (joining .planning)).roster.entries[0]? = some ⟨.live, .owner, 0, 1, 0⟩ := by decide +kernel

theorem test_cell_joins_a_drive : (joining .halted).round.runDemand = false ∧ (joining .halted).round.deferred = false ∧
    (ran (.reportTick 5000) (joining .halted)).round.phase = .settling ∧
    (ran (.reportTick 5000) (joining .running)).round.phase = .revising ∧
    (ran (.reportTick 5000) (joining .running)).roster.entries[0]? = some ⟨.resting, .owner, 9, 1, 0⟩ := by decide +kernel

/-- A cell in a phase whose entry of station 2 (index 2) is LIVE, that station heard last at 0 and station 3 never. -/
def watching (p : Phase) : State :=
  { driving p cell with
    roster := { (driving p cell).roster with entries := setAt cell.roster.entries 1 ⟨.live, .owner, 0, 5, 0⟩ }
    bus := { cell.bus with isoClock := 29000, heard := setAt cell.bus.heard 2 ⟨.heard, some 0, none, none⟩ } }

theorem test_tick_marks_absent_owners : ((watching .tripped).advance 30000).heardAt 2 = ⟨.silent, some 0, none, none⟩ ∧
    stationOfIndex 6 2 = 2 ∧ max 0 30000 - 29000 < cell.quietTime ∧ (watching .tripped).ownIndex ≠ some 2 ∧
    (ran (.reportTick 30000) (watching .tripped)).roster.entries[1]? = some ⟨.silent, .observer, 0, 6, 30000⟩ ∧
    (ran (.reportTick 30000) (watching .running)).round.epoch = 1 ∧
    ((watching .tripped).advance 9000).heardAt 2 = ⟨.heard, some 0, none, none⟩ ∧
    (ran (.reportTick 9000) (watching .tripped)).roster.entries[1]? = some ⟨.live, .owner, 0, 5, 0⟩ := by decide +kernel

theorem test_heard_status : (ran (.heardStatusTimeout 10000 2)
    { cell with bus := { cell.bus with heard := setAt cell.bus.heard 2 ⟨.heard, some 0, none, none⟩ } }).bus.heard[2]? =
      some ⟨.quiet, some 0, none, none⟩ := by decide +kernel

theorem test_isolate_timeout : cell.bus.isoClock + 1000 * cell.params.isolate = 40000 ∧
    (ran (.isolateTimeout 40000) (withOwn .live 0 (inPhase .settling cell))).roster.entries[0]? =
      some ⟨.resting, .owner, 9, 6, 0⟩ ∧ (withOwn .live 0 (inPhase .settling cell)).ownIndex = some 1 := by
  decide +kernel

/-- Isolation at 40 ms of a cell in SETTLING with an own content, its rest hold-off elapsed. -/
def isolated (c : Condition) (k : FaultClass) (authority : Bool) : State :=
  let s := withOwn c k (inPhase .settling cell)
  ran (.isolateTimeout 40000)
    { s with roster := { s.roster with authority := authority }, watch := { s.watch with rest := .elapsed } }

theorem test_isolation_restarts_the_rest_holdoff : cell.params.rest = 30 ∧
    (isolated .live 0 true).watch.rest = .running 30040000 ∧
    (isolated .resting 6 true).roster.entries[0]? = some ⟨.resting, .owner, 9, 6, 0⟩ ∧
    (isolated .resting 6 true).watch.rest = .running 30040000 ∧
    (isolated .resting 9 true).roster.entries[0]? = some ⟨.resting, .owner, 9, 5, 0⟩ ∧
    (isolated .resting 9 true).watch.rest = .running 30040000 := by decide +kernel

theorem test_isolation_without_a_write : (isolated .bypassed 1 true).watch.rest = .elapsed ∧
    (isolated .faulted 1 true).roster.entries[0]? = some ⟨.faulted, .owner, 1, 5, 0⟩ ∧ cell.watch.latch = [] ∧
    (isolated .resting 9 false).watch.rest = .elapsed ∧
    (isolated .live 0 false).roster.entries[0]? = some ⟨.live, .owner, 0, 5, 0⟩ := by decide +kernel

theorem test_attempt_starts : (inPhase .halted cell).barred = false ∧ (inPhase .halted cell).bus.attempt = none ∧
    (inPhase .halted cell).bus.quietStart = some 0 ∧ (waiting .state).rank * 28 + cell.number = 85 ∧
    (ran (.transmissionAttempt 87)
      { inPhase .halted cell with bus := { cell.bus with queue := [waiting .state] } }).bus.attempt.isSome = true ∧
    (ran (.transmissionAttempt 86)
      { inPhase .halted cell with bus := { cell.bus with queue := [waiting .state] } }).bus.attempt = none := by
  decide +kernel

/-- The payload of the frame whose attempt starts at 200 µs. -/
def stamped (b : QBody) (s : State) : Option Payload :=
  (ran (.transmissionAttempt 200) { s with bus := { s.bus with queue := [waiting b] } }).bus.attempt.map fun a => a.frame.payload

theorem test_state_stamped :
    stamped .state (inPhase .halted cell) =
      some (.state ⟨1, false, false, cell.roster.digest, 0, 0, cell.store.digest⟩) ∧
    stamped .state (driving .running cell) =
      some (.state ⟨6, true, false, cell.roster.digest, 0, digestOf (viable 0), cell.store.digest⟩) ∧
    stamped .state
      { driving .revising cell with
        plan := { (driving .revising cell).plan with build := .built, candidate := some (viable 1) } } =
      some (.state ⟨7, true, false, cell.roster.digest, 1, digestOf (viable 1), cell.store.digest⟩) := by decide +kernel

theorem test_other_frames_stamped :
    stamped (.alarm 1 2 3) (inPhase .halted cell) = some (.alarm 1 2 3) ∧
    stamped (.step 1 2 3 4) (inPhase .halted cell) = some (.step 1 2 3 4) ∧
    stamped .summary (inPhase .halted cell) = some (.summary (List.replicate 18 ⟨4, false, 0, 0⟩)) ∧
    stamped (.line 7) (inPhase .halted line) = some (.line ⟨7, false, false, false, false, false, false, 0, 0, 0, 0, none, none⟩) ∧
    stamped (.line 7)
      { inPhase .revising line with
        catcher := { line.catcher with record := ⟨some 0, .caught, 5, none, 0, false⟩ }
        port := { line.port with switchPending := some ⟨1, 7, 9⟩ } } =
      some (.line ⟨7, false, false, false, false, false, false, 0, 0, 0, 0, some ⟨1, 5⟩, some ⟨1, 7, 9⟩⟩) ∧
    serialNewer 8 7 = true := by decide +kernel

theorem test_defer_and_invalid : (ran (.defer 3) cell).bus.quietStart = none ∧
    (ran (.invalidTransmission 9 []) (ran (.defer 3) cell)).bus.quietStart = some 9 := by decide +kernel

theorem test_own_frames_completed :
    (ran (.attemptCompleted 3) (sending .state (.state (statePayload 0)) 0 cell)).bus.queue = [waiting .summary] ∧
    (ran (.attemptCompleted 3) (sending .summary (summary 18) 0 cell)).bus.attempt = none ∧
    (driving .halted cell).planHasDigest (digestOf (viable 0)) = true ∧
    (ran (.attemptCompleted 3) (sending (.step 1 0 (digestOf (viable 0)) 0) (.step 1 0 (digestOf (viable 0)) 0) 0
      (driving .halted cell))).round.armed = [1] ∧
    (ran (.attemptCompleted 3) (sending (.line 7) (.line fullLine) 0 (inPhase .planning line))).round.facts.mark = some 7 := by
  decide +kernel

theorem test_collision :
    (ran (.collision 3) (sending .state (.state (statePayload 0)) 15 cell)).bus.queue = [waiting .summary] ∧
    (ran (.collision 3) (sending .state (.state (statePayload 0)) 14 cell)).bus.queue.length = 2 := by decide +kernel

/-- A STATE in its attempt, renewed or not, behind an ALARM that joined later. -/
def overtaken (renewed : Option QBody) : State :=
  let s := sending .state (.state (statePayload 1)) 3 (inPhase .halted cell)
  { s with bus := { s.bus with queue := [waiting (.alarm 1 2 3), ⟨.state, 4, 3, true, renewed⟩, waiting .summary] } }

theorem test_attempt_behind_a_better_rank :
    (∀ h ∈ [waiting (.alarm 1 2 3)], h.inAttempt = false) ∧
    (ran (.attemptCompleted 9) (overtaken none)).bus.queue = [waiting (.alarm 1 2 3), waiting .summary] ∧
    (ran (.attemptCompleted 9) (overtaken (some .state))).bus.queue =
      [waiting (.alarm 1 2 3), ⟨.state, 4, 0, false, none⟩, waiting .summary] ∧
    (ran (.collision 9) (overtaken none)).bus.queue =
      [waiting (.alarm 1 2 3), ⟨.state, 4, 4, false, none⟩, waiting .summary] ∧
    (ran (.echoMiss 9) (overtaken (some .state))).bus.queue =
      [waiting (.alarm 1 2 3), ⟨.state, 4, 0, false, none⟩, waiting .summary] := by decide +kernel

theorem test_echo_miss :
    (ran (.echoMiss 3) (sending .state (.state (statePayload 0)) 0 (inPhase .halted cell))).bus.echoMisses = 1 ∧
    (ran (.echoMiss 3) (sending .state (.state (statePayload 0)) 0 (inPhase .halted cell))).bus.quietStart = some 0 ∧
    (let s := sending .state (.state (statePayload 0)) 0 (inPhase .halted cell)
     ran (.echoMiss 3) { s with bus := { s.bus with echoMisses := 2 } }).round.phase = .isolated := by decide +kernel

theorem test_duplicate : examine (frame 1 0 (.alarm 0 1 2)).transmission = some (frame 1 0 (.alarm 0 1 2)) ∧
    (frame 1 0 (.alarm 0 1 2)).station.toNat = cell.number ∧ cell.bus.attempt = none ∧
    (ran (.duplicateAddress 9 (frame 1 0 (.alarm 0 1 2)).transmission) (inPhase .halted cell)).bus.duplicate = true := by
  decide +kernel

theorem test_single_copy : QBody.kind .state = .state ∧ (waiting .state).body.kind = .state ∧
    (∀ h ∈ [waiting (.line 1)] ++ [waiting .summary], h.body.kind ≠ .state) ∧
    enqueueFrame 9 .state [waiting (.line 1), waiting .state, waiting .summary] =
      [waiting (.line 1), waiting .state, waiting .summary] := by decide

/-- A full queue of five STEPs and a STATE. -/
def fullQueue : List QFrame := List.replicate 5 (waiting (.step 1 0 0 0)) ++ [waiting .state]

theorem test_full_queue : fullQueue.length = 6 ∧ (∀ g ∈ fullQueue, g.inAttempt = false → g.rank ≤ 3) ∧
    (∃ g ∈ fullQueue, g.inAttempt = false ∧ g.rank = 3) ∧ (∀ g ∈ fullQueue, g.body.kind ≠ QBody.kind .summary) ∧
    QBody.kind .summary ≠ .alarm ∧ 3 ≤ (QBody.kind .summary).rank ∧
    fullQueue = List.replicate 5 (waiting (.step 1 0 0 0)) ++ waiting .state :: [] ∧
    (QBody.kind (.step 1 0 0 0)).rank < 3 ∧ (∃ g ∈ fullQueue, g.inAttempt = false ∧ g.body.kind ≠ .alarm) := by
  decide

theorem test_full_queue_of_alarms :
    (∀ g ∈ List.replicate 6 (waiting (.alarm 1 2 3)), g.inAttempt = false → g.body.kind = .alarm) ∧
    (∃ g ∈ List.replicate 6 (waiting (.alarm 1 2 3)), g.inAttempt = false ∧ g.rank = 0) := by decide

/-! ## Frames -/

theorem test_frames_can_be_sent : (frame 27 0xFFFF (.line fullLine)).wf = true ∧ (frame 0 0 (summary 9)).wf = true ∧
    (frame 27 0 (summary 27)).wf = true ∧ (frame 1 0 (.state (statePayload 0))).wf = true ∧
    (frame 1 0 (.alarm 1 2 3)).wf = true ∧ (frame 1 0 (.step 1 2 3 4)).wf = true := by decide

/-- Table 9-4 byte for byte: an ALARM of station 1, epoch 2, origin 1, class BRIDGE, from RUNNING, but for its CRC. -/
theorem test_alarm_bytes : (frame 1 2 (.alarm 1 1 6)).body = [0x01, 0x10, 0x03, 0x00, 0x02, 0x01, 0x01, 0x06] := by
  decide

theorem test_frames_of_each_kind :
    examineKind .state (frame 2 0 (.state (statePayload 1))).transmission = some (frame 2 0 (.state (statePayload 1))) ∧
    examineKind .summary (frame 2 0 (summary 9)).transmission = some (frame 2 0 (summary 9)) ∧
    examineKind .alarm (frame 2 0 (.alarm 2 1 6)).transmission = some (frame 2 0 (.alarm 2 1 6)) ∧
    examineKind .step (frame 2 0 (.step 1 0 5 0)).transmission = some (frame 2 0 (.step 1 0 5 0)) ∧
    examineKind .line (frame 0 0 (.line fullLine)).transmission = some (frame 0 0 (.line fullLine)) ∧
    (frame 2 0 (summary 9)).station.toNat ≠ cell.number ∧ (frame 0 0 (.line fullLine)).station.toNat ≠ cell.number := by
  decide +kernel

theorem test_alarm_of_a_newer_epoch :
    epochNewer 1 (inPhase .running cell).round.epoch = true ∧ 0 < cell.params.rounds ∧
    (ran (.alarmReceived 9 (frame 2 1 (.alarm 2 1 6)).transmission) (inPhase .running cell)).round.attempts = [9] ∧
    (ran (.alarmReceived 9 (frame 2 1 (.alarm 2 1 6)).transmission)
      { inPhase .running cell with
        round := { (inPhase .running cell).round with attempts := [1, 2, 3] } }).round.phase = .lockout := by
  decide +kernel

theorem test_alarm_of_an_equal_epoch :
    (ran (.alarmReceived 9 (frame 2 0 (.alarm 2 1 6)).transmission) (inPhase .arming cell)).round.epoch = 1 ∧
    (ran (.alarmReceived 9 (frame 2 0 (.alarm 2 1 6)).transmission) (inPhase .settling cell)).round.epoch = 0 ∧
    epochNewer 0xFFFF (inPhase .running cell).round.epoch = false := by decide +kernel

/-- A station that has heard the line station's STATE of HALTED, its count of digest differences from station 2 as given. -/
def inTouch (p : Phase) (k : Nat) (s : State) : State :=
  { driving p s with
    round := { (driving p s).round with linePresent := true, lineLost := true }
    roster := { s.roster with digestChange := 0, diff := List.replicate 28 k, authority := true }
    bus := { s.bus with
      heard := setAt s.bus.heard 0
        ⟨.heard, some 0, some 0, some ⟨0, 0, .halted, s.roster.digest, false, 0, 0, s.store.digest, false⟩⟩ } }

/-- The state after a STATE frame at 6 ms. -/
def shown (station : Byte) (epoch : Half) (p : StatePayload) (s : State) : State :=
  ran (.stateReceived 6000 (frame station epoch (.state p)).transmission) s

theorem test_lockout_not_taken : (∀ p : Phase, (inTouch p 0 cell).bus.heard.length = 28) ∧ 0 < cell.quietTime ∧
    epochNewer 0xFFFF (inTouch .running 0 cell).round.epoch = false ∧
    (shown 2 0xFFFF (statePayload 9) (inTouch .running 0 cell)).round.phase = .running ∧
    (let s := inTouch .settling 0 cell
     (shown 2 0 (statePayload 9) { s with round := { s.round with lockoutClear := some 5000 } }).round.phase = .settling) ∧
    (statePayload 9).rosterDigest ≠ cell.roster.digest ∧ (statePayload 9).cfgDigest = cell.store.digest := by
  refine ⟨fun p => by cases p <;> decide +kernel, ?_⟩
  decide +kernel

/-- A STATE payload of SETTLING with the roster digest that `inTouch` stations hold. -/
def agreeing : StatePayload := { statePayload 2 with rosterDigest := 0x065F }

theorem test_state_agreement :
    (shown 2 0 agreeing (inTouch .settling 0 cell)).round.phase = .planning ∧
    (shown 2 0 (statePayload 2) (inTouch .settling 0 cell)).round.phase = .settling ∧
    (inTouch .settling 0 cell).plan.build = .none ∧ agreeing.rosterDigest = cell.roster.digest := by decide +kernel

theorem test_roster_agreement : RosterAgreement (shown 2 0 agreeing (inTouch .settling 0 cell)) :=
  (Laws.rosterAgreement_iff _).mpr (by decide +kernel)

theorem test_roster_disagreement : ¬RosterAgreement (shown 2 0 (statePayload 2) (inTouch .settling 0 cell)) :=
  fun h => absurd ((Laws.rosterAgreement_iff _).mp h) (by decide +kernel)

theorem test_state_differences :
    (shown 2 0 (statePayload 2) (inTouch .halted 0 cell)).roster.diff[2]? = some 1 ∧
    (shown 2 0 (statePayload 2) (inTouch .halted 1 cell)).roster.diff[2]? = some 0 ∧
    (shown 2 0 (statePayload 2) (inTouch .halted 1 cell)).bus.queue.map QFrame.body = [.summary] ∧
    (shown 2 0 agreeing (inTouch .halted 1 cell)).roster.diff[2]? = some 0 ∧
    (inTouch .halted 1 cell).barred = false ∧ (inTouch .halted 1 cell).roster.diff[2]? = some 1 := by decide +kernel

theorem test_line_station_lost : (inTouch .running 0 cell).isLine = false ∧
    (shown 0 0 (statePayload 0) (inTouch .running 0 cell)).round.phase = .tripped ∧
    (shown 0 0 (statePayload 0) (inTouch .arming 0 cell)).round.phase = .settling ∧
    (shown 0 0 (statePayload 0) (inTouch .tripped 0 cell)).round.phase = .tripped ∧
    (shown 0 0 (statePayload 0) (inTouch .tripped 0 cell)).round.lineLost = true ∧
    (shown 0 0 (statePayload 1) (inTouch .halted 0 cell)).round.lineLost = false ∧
    (statePayload 10).phase = 10 := by decide +kernel

theorem test_state_of_lockout : (statePayload 9).phase = 9 ∧
    (ran (.stateReceived 9 (frame 2 0 (.state (statePayload 9))).transmission) (inPhase .halted cell)).round.phase =
      .lockout ∧ (inPhase .halted cell).round.lockoutClear = none ∧
    (∀ u ∈ (some 0 : Option Time), u + 2 * cell.report ≤ max 0 10000) := by decide +kernel

/-- An image of three cells per phase, MIN_LIVE 3. -/
def smallImage : List Byte :=
  [3, 3] ++ defaultBody.drop 2 ++ bytesOfHalf (crc ([3, 3] ++ defaultBody.drop 2))

/-- A cell station of a drive with three cells per phase. -/
def smallCell : State :=
  ran (.powerOnReset 0 ⟨false, 0, 1⟩) { cell with store := { cell.store with image := smallImage } }

theorem test_summary_merged : smallCell.store.valid = true ∧
    (List.replicate 9 (⟨0, true, 0, 1⟩ : SummaryItem)).length = 3 * smallCell.params.cells ∧
    (readEntries (List.replicate 9 ⟨0, true, 0, 1⟩)).isSome = true ∧
    (ran (.summaryReceived 9 (frame 2 0 (summary 9)).transmission) (inPhase .tripped smallCell)).roster.entries[8]? =
      some ⟨.live, .owner, 0, 1, 0⟩ := by decide +kernel

theorem test_summary_entry_by_entry :
    (readEntries (List.replicate 9 ⟨0, true, 0, 1⟩) : Option (List RosterEntry)).bind (fun rs => rs[0]?) =
      some ⟨.live, .owner, 0, 1, 0⟩ ∧
    (inPhase .tripped smallCell).roster.entries[0]? = some ⟨.silent, .observer, 0, 0, 0⟩ ∧
    (inPhase .tripped smallCell).ownedIndex = some 1 ∧
    (ran (.summaryReceived 9 (frame 2 0 (summary 9)).transmission) (inPhase .tripped smallCell)).roster.entries[0]? =
      some (mergeEntry true 9 ⟨.live, .owner, 0, 1, 0⟩ ⟨.silent, .observer, 0, 0, 0⟩).1 ∧
    (1, Verdict.oursNewer) ∈
      (ran (.summaryReceived 9 (frame 2 0 (summary 9)).transmission) (inPhase .tripped smallCell)).roster.mismatch := by
  decide +kernel

theorem test_merge_of_other_versions :
    versionNewer 6 5 = true ∧ versionNewer 4 5 = false ∧
    mergeEntry false 9 ⟨.silent, .observer, 0, 6, 0⟩ ⟨.live, .owner, 0, 5, 3⟩ =
      (⟨.silent, .observer, 0, 6, 9⟩, some .theirsNewer) ∧
    mergeEntry true 9 ⟨.silent, .observer, 0, 6, 0⟩ ⟨.live, .owner, 0, 5, 3⟩ = (⟨.live, .owner, 0, 7, 3⟩, some .oursNewer) := by
  decide

theorem test_merge_of_equal_versions :
    sameContent ⟨.live, .owner, 0, 5, 0⟩ ⟨.live, .owner, 0, 5, 9⟩ = true ∧
    (mergeEntry false 9 ⟨.live, .owner, 0, 5, 0⟩ ⟨.silent, .observer, 0, 5, 3⟩).2 = some .theirsNewer ∧
    mergeEntry false 9 ⟨.silent, .observer, 0, 5, 3⟩ ⟨.live, .owner, 0, 5, 0⟩ = (⟨.live, .owner, 0, 5, 0⟩, some .oursNewer) ∧
    sameContent ⟨.resting, .owner, 6, 5, 0⟩ ⟨.resting, .owner, 7, 5, 0⟩ = false ∧
    (mergeEntry false 9 ⟨.resting, .owner, 7, 5, 0⟩ ⟨.resting, .owner, 6, 5, 0⟩).1.cls = 7 := by decide

theorem test_steps_received :
    (ran (.stepReceived 9 (frame 2 0 (.step 1 0 (digestOf (viable 0)) 0)).transmission) (driving .halted cell)).round.armed =
      [2] ∧
    (ran (.stepReceived 9 (frame 2 0 (.step 2 0 (digestOf (viable 0)) 13)).transmission)
      (driving .halted cell)).round.refusal = .cell ∧
    (driving .halted cell).planHasDigest 5 = false ∧
    (ran (.stepReceived 9 (frame 2 0 (.step 1 0 5 0)).transmission) (driving .halted cell)).round.early = [⟨2, true, 5⟩] ∧
    (ran (.stepReceived 9 (frame 2 0 (.step 3 0 5 0)).transmission) (driving .halted cell)).round.early = [] := by
  decide +kernel

/-- A station whose own STEP of a code and the round plan, or another digest, is in its attempt. -/
def ownStep (code : Byte) (digest : Half) (s : State) : State := sending (.step code 0 digest 0) (.step code 0 digest 0) 0 s

/-- A STEP of the round plan from a station. -/
def planStep (station code : Byte) : Transmission := (frame station 0 (.step code 0 (digestOf (viable 0)) 0)).transmission

/-- A cell in ARMING with the round plan and an armed set. -/
def arming (armed : List Nat) : State :=
  { driving .arming cell with round := { (driving .arming cell).round with armed := armed } }

theorem test_steps_in_arming : (arming []).heldOutcome ≠ some .expired ∧ (arming []).round.refusal = .none ∧
    (∀ m ∈ (viable 0).armedNeeded, m = 2 ∨ m ∈ (viable 0).armedNeeded.erase 2) ∧ 1 ∈ (viable 0).armedNeeded ∧
    (ran (.stepReceived 9 (planStep 2 1)) (arming ((viable 0).armedNeeded.erase 2))).round.phase = .running ∧
    (ran (.stepReceived 9 (planStep 2 1)) (arming [])).round.armed = [2] ∧
    (ran (.stepReceived 9 (planStep 2 1)) (arming [])).round.phase = .arming := by decide +kernel

theorem test_own_step_outside_arming :
    (ran (.attemptCompleted 3) (ownStep 2 (digestOf (viable 0)) (driving .halted cell))).round.refusal = .cell ∧
    (driving .halted cell).catcher.overdue = false ∧ (driving .halted cell).planHasDigest 5 = false ∧
    (ran (.attemptCompleted 3) (ownStep 1 5 (driving .halted cell))).round.early = [⟨1, true, 5⟩] := by decide +kernel

theorem test_own_step_in_arming : (∃ m ∈ (viable 0).armedNeeded, m ≠ 1 ∧ m ∉ (arming []).round.armed) ∧
    (ran (.attemptCompleted 3) (ownStep 1 (digestOf (viable 0)) (arming []))).round.armed = [1] ∧
    (∀ m ∈ (viable 0).armedNeeded, m = 1 ∨ m ∈ (viable 0).armedNeeded.erase 1) ∧
    (ran (.attemptCompleted 3)
      (ownStep 1 (digestOf (viable 0)) (arming ((viable 0).armedNeeded.erase 1)))).round.phase = .running ∧
    (ran (.attemptCompleted 3) (ownStep 2 (digestOf (viable 0)) (arming [1]))).round.phase = .settling := by decide +kernel

/-- The line station with the round plan in force and its record. -/
def drivingLine (p : Phase) : State :=
  { driving p line with port := { line.port with record := recordOf (viable 0) .none 0 none } }

/-- The line station in ARMING with an armed set and a catch record of its epoch. -/
def armingLine (armed : List Nat) (r : CatchRecord) : State :=
  let s := drivingLine .arming
  { s with round := { s.round with armed := armed }, catcher := { s.catcher with record := r } }

theorem test_own_refusal_of_the_line_station :
    (ran (.attemptCompleted 3) (ownStep 2 (digestOf (viable 0)) (armingLine [] (CatchRecord.blank (some 0))))).round.phase =
      .halted ∧
    (armingLine [] (CatchRecord.blank (some 0))).round.deferred = false := by decide +kernel

/-- The catch part of the record after the last STEP ARMED reaches the line station at 29800 µs. -/
def suppliedPart (r : CatchRecord) : CatchOutcome × Half × Option Half × Bool :=
  let s := ran (.stepReceived 29800 (planStep 2 1)) (armingLine ((viable 0).armedNeeded.erase 2) r)
  (s.port.record.outcome, s.port.record.freq, s.port.record.angle, s.catcher.record.used && s.release)

theorem test_release_record_supplied : (armingLine [] (CatchRecord.blank (some 0))).port.presented = none ∧
    suppliedPart ⟨some 0, .caught, 3000, some 0, 0, false⟩ = (.caught, 3000, some 58589, true) ∧
    suppliedPart ⟨some 0, .cold, -5, none, 0, false⟩ = (.cold, 0xFFFB, none, true) ∧
    suppliedPart ⟨some 0, .failed, 0, none, 0, false⟩ = (.failed, 0, none, true) ∧
    suppliedPart ⟨some 0, .caught, 3000, some 0, 0, true⟩ = (.none, 0, none, true) ∧
    suppliedPart ⟨some 0, .none, 0, none, 0, false⟩ = (.none, 0, none, true) ∧
    (ran (.stepReceived 29800 (planStep 2 1))
      (armingLine ((viable 0).armedNeeded.erase 2) ⟨some 0, .caught, 3000, some 0, 0, false⟩)).port.rready = true := by
  decide +kernel

theorem test_refusals_in_arming :
    (ran (.stepReceived 9 (planStep 2 2)) (arming [2])).round.phase = .settling ∧
    (ran (.stepReceived 9 (planStep 2 2)) (arming [2])).round.resettle = 1 ∧
    (ran (.stepReceived 9 (planStep 2 2))
      { arming [] with round := { (arming []).round with resettle := 3 } }).round.phase = .lockout ∧
    (ran (.stepReceived 9 (planStep 0 2)) (arming [])).round.phase = .halted := by decide +kernel

theorem test_line_frame_facts :
    (ran (.lineReceived 9 (frame 0 0 (.line fullLine)).transmission) (inPhase .settling cell)).round.facts.mark = some 7 ∧
    (ran (.lineReceived 9 (frame 0 0 (.line (linePayload false 7 none))).transmission) (driving .running cell)).round.phase =
      .halted ∧
    (driving .running cell).plan.switchRecord = none ∧ (driving .running cell).round.deferred = false := by
  decide +kernel

/-- A cell in a phase that has seen fault-reset count 0 and no run request, its own entry BYPASSED or not. -/
def faced (p : Phase) (c : Condition) (k : FaultClass) (latch : List Nat) : State :=
  { withOwn c k (inPhase p cell) with
    round := { (inPhase p cell).round with facts := ⟨false, false, true, some 0, none, none⟩ }
    watch := { cell.watch with latch := latch, leading := k } }

/-- The state after a LINE frame with a run request and fault-reset count. -/
def faceLine (runReq : Bool) (count : Byte) (b : Option CatchBlock) (s : State) : State :=
  ran (.lineReceived 9
    (frame 0 0 (.line { linePayload runReq 7 none with faultCount := count, catchBlock := b })).transmission) s

theorem test_line_frame_in_halted :
    (faceLine false 0 none (faced .halted .live 0 [])).round.phase = .halted ∧
    (faceLine true 0 none (faced .halted .live 0 [])).round.phase = .settling ∧
    (faceLine true 0 none
      { faced .halted .live 0 [] with plan := { cell.plan with inForce := some (viable 0) } }).round.phase = .arming ∧
    (faceLine false 1 none (faced .halted .live 0 [])).round.phase = .halted ∧
    (faceLine false 1 none (faced .halted .bypassed 2 [2])).round.phase = .settling := by decide +kernel

theorem test_line_frame_clears_lockout :
    (faceLine false 1 none (faced .lockout .bypassed 2 [2])).round.phase = .settling ∧
    (faceLine false 1 none (faced .lockout .bypassed 2 [2])).round.epoch = 1 ∧
    (faceLine false 1 none (faced .lockout .bypassed 2 [2])).watch.latch = [] ∧
    (faceLine false 1 none (faced .lockout .bypassed 2 [2])).roster.entries[0]? = some ⟨.live, .owner, 0, 6, 0⟩ ∧
    (faced .lockout .bypassed 2 [2]).watch.cellFlt ≠ some true := by decide +kernel

theorem test_line_frame_ends_catching : CatchOutcome.ofCode 4 = some .standstill ∧ CatchOutcome.ofCode 5 = some .failed ∧
    (faceLine true 0 (some ⟨4, 0⟩) (faced .catching .live 0 [])).round.phase = .arming ∧
    (faceLine false 0 (some ⟨4, 0⟩) (faced .catching .live 0 [])).round.phase = .halted ∧
    (faceLine true 0 (some ⟨5, 0⟩) (faced .catching .live 0 [])).round.phase = .halted := by decide +kernel

/-- A cell in REVISING with a VIABLE candidate of revision 1. -/
def revising : State :=
  { driving .revising cell with
    plan := { (driving .revising cell).plan with build := .built, candidate := some (viable 1) } }

theorem test_mark_frame : (viable 1).verdict = .viable ∧ (viable 1).body.isSome = true ∧
    (ran (.lineReceived 9
      (frame 0 0 (.line (linePayload true 7 (some ⟨1, 7, digestOf (viable 1)⟩)))).transmission) revising).plan.inForce =
      some (viable 1) ∧
    (ran (.lineReceived 9
      (frame 0 0 (.line (linePayload true 6 (some ⟨1, 7, digestOf (viable 1)⟩)))).transmission) revising).plan.inForce =
      some (viable 0) ∧
    (∀ r ∈ (some ⟨0, 1, 7, 5⟩ : Option SwitchRecord), r.rev = 1 ∧ serialNewer 6 r.mark = false) := by decide +kernel

/-- The line station in REVISING with its own LINE frame of mark 7 in its attempt, revision 1 announced and presented. -/
def ownMark (runReq : Bool) (w : Option SwitchBlock) (p : Phase) : State :=
  let s := sending (.line 7) (.line (linePayload runReq 7 w)) 0 (drivingLine p)
  { s with
    plan := { s.plan with build := .built, candidate := some (viable 1) }
    port := { s.port with
      switchPending := some ⟨1, 7, digestOf (viable 1)⟩, presented := some (recordOf (viable 1) .caught 5 (some 6)) } }

theorem test_own_mark_frame : (ownMark true none .revising).isLine = true ∧
    (let s := ran (.attemptCompleted 9) (ownMark true (some ⟨1, 7, digestOf (viable 1)⟩) .revising)
     s.plan.inForce = some (viable 1) ∧ s.round.phase = .running ∧ s.port.switchPulse = some 19 ∧ s.switchOut = true ∧
     s.reviseOut = false ∧ s.release = true ∧ s.port.record = recordOf (viable 1) .caught 5 (some 6) ∧
     s.port.rready = false) ∧ (ownMark true none .revising).round.early = [] := by decide +kernel

theorem test_own_line_frame : (ran (.attemptCompleted 9) (ownMark false none .running)).round.phase = .halted ∧
    (ran (.attemptCompleted 9) (ownMark false none .running)).round.facts.mark = some 7 ∧
    (let s := ownMark true none .halted
     ran (.attemptCompleted 9) { s with round := { s.round with facts := ⟨false, false, true, some 0, none, none⟩ } }).round.phase =
      .arming := by decide +kernel

theorem test_failed_switch : digestOf (viable 1) ≠ 5 ∧ (viable 0).revision ≠ 1 ∧ revising.bus.duplicate = false ∧
    revising.bus.queue.length ≤ 4 ∧
    (ran (.lineReceived 9 (frame 0 0 (.line (linePayload true 7 (some ⟨1, 7, 5⟩)))).transmission) revising).round.epoch = 1 ∧
    (ran (.lineReceived 9 (frame 0 0 (.line (linePayload true 7 (some ⟨0, 7, 5⟩)))).transmission) revising).round.phase =
      .revising := by decide +kernel

/-! ## Phases, plans and revisions -/

/-- A line station whose DRIVE_TRIP is sampled low. -/
def untripped (p : Phase) : State :=
  { inPhase p line with port := { line.port with driveTrip := some ⟨false, 0⟩ } }

theorem test_drive_trip : (untripped .running).bus.duplicate = false ∧ (untripped .running).bus.queue.length ≤ 4 ∧
    (ran (.driveTripRising 9) (untripped .running)).round.phase = .tripped ∧
    (ran (.driveTripRising 9) (untripped .running)).bus.queue.map QFrame.body = [.alarm 0 11 6, .state] ∧
    (ran (.driveTripRising 9) (untripped .halted)).round.epoch = 0 := by decide +kernel

/-- The line station in a phase with the round plan, a status word of 3 µs and BRAKE_OPEN as given. -/
def moving (p : Phase) (tripRound brakeOpen : Bool) : State :=
  let s := drivingLine p
  { s with
    round := { s.round with tripRound := tripRound }
    port := { s.port with
      driveTrip := some ⟨false, 0⟩, brakeOpen := some ⟨brakeOpen, 0⟩, status := some ⟨3000, 40000, 2990, 3⟩
      dir := some ⟨true, 0⟩ } }

theorem test_trip_saves_context :
    (let s := ran (.driveTripRising 9) (moving .running false true)
     s.round.phase = .tripped ∧
     s.catcher.context = ⟨some 9, 3, 3000, 40000, 2990, .valid, true, .valid, false, .empty, true, .valid, .valid⟩ ∧
     s.catcher.record = ⟨some 1, .none, 0, none, 0, false⟩ ∧ s.catcher.budget = .running ∧
     s.port.record = ReleaseRecord.cleared ∧ s.port.rready = true) ∧
    (ran (.driveTripRising 9) (moving .arming true false)).catcher.context.planTag = .empty ∧
    (ran (.driveTripRising 9) (moving .arming true false)).catcher.budget = .idle ∧
    (ran (.driveTripRising 20000) (moving .running false true)).catcher.context.statusTag = .stale := by decide +kernel

theorem test_trip_with_a_full_list :
    (let s := moving .running false true
     ran (.driveTripRising 9) { s with round := { s.round with attempts := [1, 2, 3] } }).lockoutOut = true ∧
    (moving .running false true).params.rounds = 3 := by decide +kernel

theorem test_catch_up_saves_context : epochNewer 1 0 = true ∧
    (ran (.alarmReceived 9 (frame 2 1 (.alarm 2 1 6)).transmission) (moving .catching true true)).catcher.context.planTag =
      .empty ∧
    (ran (.alarmReceived 9 (frame 2 1 (.alarm 2 1 6)).transmission) (moving .running false true)).catcher.context.planTag =
      .valid := by decide +kernel

theorem test_timers_resettle : ((inPhase .settling line).advance 100).present = true ∧
    ((inPhase .settling cell).advance 100).present = false ∧
    (ran (.settleExpiry 100) (inPhase .settling line)).round.resettle = 1 ∧
    (ran (.settleExpiry 100) (inPhase .settling cell)).round.phaseTimer = some 100100 ∧
    (ran (.agreeExpiry 100) (inPhase .planning cell)).round.phase = .settling ∧
    (ran (.armExpiry 100)
      { inPhase .arming cell with round := { (inPhase .arming cell).round with resettle := 3 } }).round.phase = .lockout := by
  decide +kernel

theorem test_dwell : (ran (.dwellExpiry 100) (inPhase .tripped cell)).round.phase = .settling ∧
    (inPhase .tripped cell).bus.duplicate = false ∧ (inPhase .tripped cell).fitted = true ∧
    (inPhase .tripped cell).bus.queue = [] := by decide +kernel

theorem test_revise_expiry : revising.round.facts.runReq = true ∧ revising.round.deferred = false ∧
    revising.standing ≠ .withdrawing ∧ (ran (.reviseExpiry 100) revising).round.phase = .running ∧
    (withOwn .resting 6 revising).standing = .withdrawing ∧
    (ran (.reviseExpiry 100) (withOwn .resting 6 revising)).round.epoch = 1 ∧ revising.bus.duplicate = false ∧
    (ran (.reviseExpiry 100) (withOwn .resting 6 revising)).bus.queue.map QFrame.body = [.alarm 1 6 6, .state] := by
  decide +kernel

theorem test_build_start : (ran (.buildStart 5000) (inPhase .settling cell)).plan.build = .walking ∧
    (ran (.buildStart 4999) (inPhase .settling cell)).plan.build = .none ∧
    cell.roster.digestChange + cell.report = 5000 := by decide +kernel

/-- A walk at a cursor, with a content at index 1. -/
def walking (cursor : Nat) (c : Condition) (k : FaultClass) : State :=
  { withOwn c k (inPhase .settling cell) with
    plan := { cell.plan with build := .walking, candidate := some (Plan.begun 0 0), cursor := cursor } }

theorem test_walk_reads :
    (ran (.walkRead 9) (walking 1 .live 0)).plan.tallies.live.a = [1] ∧
    (ran (.walkRead 9) (walking 1 .resting 6)).plan.tallies = Tallies.init ∧
    (ran (.walkRead 9) (walking 1 .faulted 4)).plan.tallies.pending = [.stuckOpen 1] ∧
    (ran (.walkRead 9) (walking 1 .faulted 1)).plan.tallies.pending = [.closing 1] ∧
    (ran (.walkRead 9) (walking 18 .live 0)).plan.tallies.pending = [.silentYoung 18 80000] ∧
    (ran (.walkRead 9) (walking 18 .live 0)).plan.build = .finishing ∧ (walking 18 .live 0).roster.entries[17]?.isSome = true := by
  decide +kernel

/-- A walk at its end, with a tally of LIVE cells in phase A and a young SILENT entry. -/
def finishing (a : List Nat) : State :=
  { inPhase .settling cell with
    plan := { cell.plan with
      build := .finishing, candidate := some (Plan.begun 0 0)
      tallies := ⟨⟨a, [1, 2, 3, 4], [1, 2, 3, 4]⟩, [.silentYoung 5 80000]⟩ } }

theorem test_finishing_step : (∀ r ∈ (finishing [1, 2, 3, 4]).plan.tallies.pending, walkReason r = true) ∧
    (ran (.finishingStep 9) (finishing [1, 2, 3, 4])).plan.candidate.map Plan.verdict = some .wait ∧
    (ran (.finishingStep 9) (finishing [1, 2, 3])).plan.candidate.map Plan.verdict = some .notViable ∧
    (ran (.finishingStep 9) { finishing [1, 2, 3, 4] with plan := { (finishing [1, 2, 3, 4]).plan with walkEnd := 80000 } }).plan.candidate.map
      Plan.reasons = some [] := by decide +kernel

/-- A drive that trims. -/
def trimming (s : State) : State := { s with store := { s.store with working := setAt s.store.working 2 1 } }

theorem test_finishing_step_lists :
    ((ran (.finishingStep 9) (finishing [1, 2, 3, 4, 5])).plan.candidate.bind Plan.body).map
      (fun b => (b.active.a, b.span, planAngle b 0 1, planAngle b 1 2, planAngle b 2 0, b.fraction)) =
      some ([1, 2, 3, 4, 5], 7452, 1113, 1374, 1113, 717) ∧
    (⟨5, 4, 4, 1113, 1374, 1113, 7452⟩ : ShiftRow) ∈ shiftTable ∧
    (trimming (finishing [1, 2, 3, 4, 5])).params.balance ≠ 0 ∧
    ((ran (.finishingStep 9) (trimming (finishing [1, 2, 3, 4, 5]))).plan.candidate.bind Plan.body).map
      (fun b => (b.active.a, b.spares, b.span, b.fraction)) = some ([1, 2, 3, 4], [⟨0, 5⟩], 6928, 666) := by
  decide +kernel

/-- A station in a phase whose candidate of a revision is in its finishing step, with a tally of phase A and reasons. -/
def finishingIn (p : Phase) (revision : Byte) (a : List Nat) (rs : List Reason) (s : State) : State :=
  { driving p s with
    round := { (driving p s).round with phaseTimer := some 100000 }
    plan := { (driving p s).plan with
      build := .finishing, candidate := some (Plan.begun 0 revision), tallies := ⟨⟨a, [1, 2, 3, 4], [1, 2, 3, 4]⟩, rs⟩ } }

theorem test_verdict_in_planning :
    (ran (.finishingStep 9) (finishingIn .planning 0 [1] [] line)).round.phase = .lockout ∧
    (ran (.finishingStep 9) (finishingIn .planning 0 [1, 2, 3, 4] [.closing 5] line)).round.phase = .planning ∧
    (ran (.finishingStep 9) (finishingIn .planning 0 [1, 2, 3, 4] [] cell)).round.phase = .planning ∧
    (ran (.finishingStep 9) (finishingIn .planning 0 [1, 2, 3, 4] [] line)).round.phase = .halted ∧
    (ran (.finishingStep 9) (finishingIn .planning 0 [1, 2, 3, 4] [] line)).plan.inForce.map Plan.revision = some 0 ∧
    (ran (.finishingStep 9) (finishingIn .planning 0 [1, 2, 3, 4] [] line)).port.record.valid = true := by decide +kernel

theorem test_agreement_in_planning (d : Half) : PlanAgreement ((finishingIn .planning 0 [1, 2, 3, 4] [] line).advance 9) d ∧
    ¬PlanAgreement ((finishingIn .planning 0 [1, 2, 3, 4] [] cell).advance 9) d ∧
    RevisionAgreement ((finishingIn .revising 1 [1, 2, 3, 4] [] line).advance 9) d := by
  have h : (State.advance 9 (finishingIn .planning 0 [1, 2, 3, 4] [] line)).voters = [] ∧
      (State.advance 9 (finishingIn .planning 0 [1, 2, 3, 4] [] line)).present = true ∧
      (State.advance 9 (finishingIn .planning 0 [1, 2, 3, 4] [] cell)).present = false ∧
      (State.advance 9 (finishingIn .revising 1 [1, 2, 3, 4] [] line)).voters = [] := by decide +kernel
  refine ⟨⟨(Laws.linePresent_iff _).mpr h.2.1, fun m k hv => ?_⟩, fun hp => ?_, rfl, rfl, fun m k hv => ?_⟩
  · exact absurd (h.1 ▸ ((Laws.voter_iff _ m k).mp hv).1) List.not_mem_nil
  · exact absurd (h.2.2.1 ▸ (Laws.linePresent_iff _).mp hp.1) Bool.false_ne_true
  · exact absurd (h.2.2.2 ▸ ((Laws.voter_iff _ m k).mp hv).1) List.not_mem_nil

theorem test_verdict_in_revising :
    (let s := ran (.finishingStep 9) (finishingIn .revising 1 [1, 2, 3, 4] [] line)
     s.reviseOut = true ∧ s.port.switchPending.map SwitchBlock.mark = some 5 ∧
     s.port.presented.map ReleaseRecord.revision = some 1 ∧ s.round.phase = .revising) ∧
    (ran (.finishingStep 99000) (finishingIn .revising 1 [1, 2, 3, 4] [] line)).port.switchPending = none ∧
    (ran (.finishingStep 9) (finishingIn .revising 1 [1] [] cell)).round.phase = .revising ∧
    (withOwn .resting 6 (finishingIn .revising 1 [1] [] cell)).standing = .withdrawing ∧
    (ran (.finishingStep 9) (withOwn .resting 6 (finishingIn .revising 1 [1] [] cell))).bus.queue.map QFrame.body =
      [.alarm 1 6 7, .state] := by decide +kernel

theorem test_aging_hands_on :
    (let s := ran (.finishingStep 9) (finishingIn .planning 0 [1, 2, 3, 4] [.silentYoung 5 80000] line)
     s.plan.candidate.map Plan.verdict = some .wait ∧ s.round.phase = .planning ∧
     (ran (.agingDeadline 80000) s).round.phase = .halted) := by decide +kernel

theorem test_aging : (∃ i d, Reason.silentYoung i d ∈ [Reason.silentYoung 5 80000] ∧ d ≤ max 0 80000) ∧
    (ran (.agingDeadline 80000) (ran (.finishingStep 9) (finishing [1, 2, 3, 4]))).plan.candidate.map Plan.verdict =
      some .viable ∧
    (ran (.finishingStep 9) (finishing [1, 2, 3, 4])).plan.candidate.map Plan.reasons = some [.silentYoung 5 80000] :=
  ⟨⟨5, 80000, by decide⟩, by decide +kernel, by decide +kernel⟩

theorem test_plan_has_a_body : (viable 0).body.isSome = true ∧
    (viable 0).body.map (fun b => b.offsets.a) = some [0, 341, 682, 1024, 1365, 1706] ∧
    roleInPlan 0 4 (viable 0) = .active 1024 ∧ roleInPlan 0 7 (viable 0) = .out ∧
    roleInPlan 0 5 (finishPlan (trimming cell).params 0 ⟨⟨[1, 2, 3, 4, 5], [1, 2, 3, 4], [1, 2, 3, 4]⟩, []⟩ (Plan.begun 0 0)) =
      .spare := by decide +kernel

/-! ## Sense, catch and watch -/

theorem test_conversion_stored :
    (ran (.conversionComplete 5 1001 false) (converting 0 cell)).scanner.slots[0]? = some ⟨1000, true, false⟩ ∧
    (ran (.conversionComplete 5 7 false) (converting 3 line)).scanner.activity = none ∧
    cell.scanner.slots[0]? = some ⟨0, false, false⟩ ∧ line.catcher.active = false ∧ line.scanner.last = 3 := by decide +kernel

theorem test_pass_end : assertsNow 4 (decide (980 < 0)) 0 = false ∧
    (let v := ((converting 3 cell).scanner.storeSlot 3 800).values
     assertsNow cell.params.persist (decide (cell.params.tripHigh < v.ch0)) cell.watch.tripHigh = false ∧
     softAssertion cell.params v cell.watch = none) ∧
    cell.ownCond .resting = false ∧ cell.watch.check ≠ .senseWait ∧
    (ran (.conversionComplete 5 800 false) (converting 3 cell)).watch.linkLow = 1 := by decide +kernel

/-- A cell at its pass end with CH0 as given, its own entry and each limit count as given. -/
def passing (ch0 : Nat) (c : Condition) (k : FaultClass) (count : Nat) (s : State) : State :=
  { withOwn c k s with
    scanner := { s.scanner with
      activity := some ⟨3, 0, 5⟩, slots := [⟨ch0, true, false⟩, ⟨880, true, false⟩, ⟨800, true, false⟩, Slot.init] }
    watch := { s.watch with tripHigh := count, linkLow := count, inBand := count, rest := .elapsed } }

theorem test_pass_end_asserts :
    (let s := passing 100 .live 0 2 (inPhase .settling cell)
     softAssertion s.params ⟨100, 880, 800, 800⟩ s.watch = some FaultClass.linkLow ∧
     (ran (.conversionComplete 5 800 false) s).roster.entries[0]? = some ⟨.resting, .owner, 5, 6, 0⟩) ∧
    (ran (.conversionComplete 5 800 false) (passing 990 .live 0 2 (driving .running cell))).watch.latch = [3] ∧
    assertsNow 3 (decide (cell.params.tripHigh < 990)) 2 = true := by decide +kernel

theorem test_pass_end_in_motion : (driving .running cell).cellRole.isActive = true ∧
    withdrawMask cell.params.softMask FaultClass.linkLow = false ∧ withdrawMask 1 FaultClass.linkLow = true ∧
    (ran (.conversionComplete 5 800 false) (passing 100 .live 0 2 (driving .running cell))).round.epoch = 1 ∧
    (let s := passing 100 .live 0 2 (driving .running cell)
     ran (.conversionComplete 5 800 false)
       { s with store := { s.store with working := setAt s.store.working 38 1 } }).round.phase = .revising ∧
    (ran (.conversionComplete 5 800 false) (passing 880 .resting 6 2 (inPhase .halted cell))).round.phase = .settling ∧
    (ran (.conversionComplete 5 800 false) (passing 880 .resting 6 1 (inPhase .halted cell))).watch.inBand = 2 := by
  decide +kernel

theorem test_triggers : (converting 3 cell).scanner.mode = .single ∧ (converting 3 cell).scanner.pending = none ∧
    ((converting 3 cell).scanner.trigger 1 .edge).pending = some .edge ∧ (catching 0 Slot.init).scanner.mode = .continuous := by
  decide +kernel

theorem test_samples :
    (ran (.conversionComplete 5 400 true) (catching 0 Slot.init)).catcher.crossings = [] ∧
    (ran (.conversionComplete 5 505 true) (catching 0 Slot.init)).catcher.crossings = [⟨true, 3⟩] ∧
    (catching 0 Slot.init).params.catchFloor ≤ 200 ∧
    evaluationTimes (capCrossings (insertCrossing ⟨true, 3⟩ [])) = none := by decide +kernel

theorem test_samples_after_a_gap :
    (ran (.conversionComplete 5 505 true) (catching 1 ⟨0, true, false⟩)).catcher.clearances = 1 ∧
    (let s := catching 1 ⟨0, true, false⟩
     ran (.conversionComplete 5 505 true) { s with catcher := { s.catcher with clearances := 2 } }).catcher.record.outcome =
      .failed := by decide +kernel

/-- A catch with crossings of V_AB at 0, 20 ms and a third, and of V_BC at a time. -/
def crossed (t3 tb : Time) : State :=
  let s := catching 0 Slot.init
  { s with
    catcher := { s.catcher with crossings := [⟨true, 1⟩, ⟨true, 20001⟩, ⟨true, t3⟩, ⟨false, tb⟩] }
    port := { s.port with status := some ⟨5000, 0, 5000, 0⟩, dir := some ⟨true, 0⟩ } }

theorem test_evaluation_fails_an_attempt :
    evaluationTimes (crossed 60001 46668).catcher.crossings = some (1, 20001, 60001, 46668) ∧
    100 * (max 20000 40000 - min 20000 40000) > (crossed 0 0).params.catchTol * max 20000 40000 ∧
    (crossed 60001 46668).evaluateCatch.catcher.crossings.length = 3 ∧
    withinThird 8 20000 (phaseOffset 20000 40001 41000) 1 = false ∧
    withinThird 8 20000 (phaseOffset 20000 40001 41000) 2 = false := by decide +kernel

theorem test_evaluation_decides : (crossed 0 0).params.catchTol = 8 ∧
    withinThird 8 20000 (phaseOffset 20000 40001 46668) 1 = true ∧
    withinThird 8 20000 (phaseOffset 20000 40001 46668) 2 = false ∧
    (crossed 40001 46668).evaluateCatch.catcher.record = ⟨some 0, .caught, 5000, some 0, 40001, false⟩ ∧
    ({ crossed 40001 46668 with port := line.port } : State).evaluateCatch.catcher.record.outcome = .failed ∧
    (crossed 40001 53335).evaluateCatch.catcher.record.outcome = .failed := by decide +kernel

/-- A catch whose voltages stay below the floor, with a status word, DIR and a trip context. -/
def silent (encoder : Half) (tag : Tag) : State :=
  let s := catching 0 Slot.init
  { s with
    catcher := { s.catcher with
      trackAB := Tracker.init
      context := { s.catcher.context with
        capture := some 0, statusTag := tag, planTag := tag, driveFreq := 4000, driveAngle := 9, encFreq := 4000
        dir := true } }
    port := { s.port with status := some ⟨4000, 9, encoder, 0⟩, dir := some ⟨true, 0⟩ } }

theorem test_quiet_mark_with_voltage : residualAbsent 80 (catching 0 Slot.init).catcher = false ∧
    (ran (.quietMarkExpiry 50) (catching 0 Slot.init)).catcher.active = true := by decide +kernel

theorem test_quiet_mark_without_voltage : residualAbsent 80 (silent 4000 .valid).catcher = true ∧
    ((silent 4000 .valid).advance 50).carriedAllowed = true ∧
    (ran (.quietMarkExpiry 50) (silent 4000 .valid)).catcher.record.outcome = .carried ∧
    (ran (.quietMarkExpiry 50) { silent 4000 .valid with port := { (silent 4000 .valid).port with dir := none } }).catcher.record.outcome = .failed ∧
    ((silent 200 .stale).advance 50).carriedAllowed = false ∧
    (ran (.quietMarkExpiry 50) (silent 200 .stale)).catcher.record.outcome = .cold ∧
    (ran (.quietMarkExpiry 50) (silent 201 .stale)).catcher.record.outcome = .failed := by decide +kernel

theorem test_catch_timer : (ran (.catchTimerExpiry 100) (catching 0 Slot.init)).catcher.record.outcome = .failed := by
  decide +kernel

/-- A line station whose budget runs to 100 µs, with an armed set. -/
def budgeted (armed : List Nat) : State :=
  { inPhase .arming line with
    catcher := { line.catcher with budget := .running, budgetTimer := some 100 }
    round := { (inPhase .arming line).round with armed := armed } }

theorem test_budget : (ran (.budgetExpiry 100) (budgeted [0])).catcher.overdue = true ∧
    (ran (.budgetExpiry 100) (budgeted [1])).catcher.record.outcome = .expired := by decide +kernel

theorem test_brake_drop :
    (let s := catching 0 Slot.init
     ran (.brakeOpenFalling 9) { s with port := { s.port with brakeOpen := some ⟨true, 0⟩ } }).catcher.record.outcome =
      .standstill ∧
    (ran (.brakeOpenFalling 9)
      { line with
        port := { line.port with brakeOpen := some ⟨true, 0⟩ }
        catcher := { line.catcher with record := ⟨some 0, .cold, 7, none, 0, false⟩ } }).catcher.record.outcome = .cold := by
  decide +kernel

theorem test_fault_input :
    (ran (.faultInputChange 9 .bridge false) cell).watch.latch = [] ∧
    (ran (.faultInputChange 9 .cell true) { cell with watch := { cell.watch with latch := [3], leading := 3 } }).watch.latch =
      [2, 3] ∧
    (ran (.faultInputChange 9 .cell true) (driving .running cell)).round.epoch = 1 ∧
    ran (.faultInputChange 10 .cell true) (ran (.faultInputChange 9 .cell true) cell) =
      (ran (.faultInputChange 9 .cell true) cell).advance 10 := by decide +kernel

/-- A cell after a BRIDGE fault found in a phase at 9 µs, its own entry LIVE and its bypass in a state. -/
def faulted (p : Phase) (b : BypassState) : State :=
  let s := withOwn .live 0 (driving p cell)
  ran (.faultInputChange 9 .bridge true)
    { s with bypass := { s.bypass with state := b }, watch := { s.watch with rest := .elapsed } }

theorem test_hard_fault_writes_the_entry :
    (faulted .running .opened).roster.entries[0]? = some ⟨.faulted, .owner, 1, 6, 0⟩ ∧
    (faulted .running .opened).bypass.state = .closing ∧ (faulted .running .opened).bypass.gateOff = some 19 ∧
    (faulted .running .opened).watch.rest = .stopped ∧
    (faulted .running .opened).scanner = cell.scanner.trigger 9 .edge ∧
    (faulted .running .closed).roster.entries[0]? = some ⟨.bypassed, .owner, 1, 7, 0⟩ ∧
    (faulted .halted .stuckClosed).bypass.state = .closed ∧
    (faulted .halted .opening).bypass.contact = some (9 + 1000 * cell.params.contact) := by decide +kernel

theorem test_hard_fault_raises_the_alarm :
    (faulted .running .opened).bus.queue.map QFrame.body = [.alarm 1 1 7, .state, .summary] ∧
    (faulted .revising .closed).bus.queue.map QFrame.body = [.alarm 1 1 7, .summary, .state] ∧
    (faulted .arming .closing).bus.queue.map QFrame.body = [.alarm 1 1 5, .summary, .state] ∧
    (faulted .planning .stuckOpen).round.phase = .tripped ∧ (driving .planning cell).round.resettle < cell.params.resettle ∧
    (faulted .lockout .opened).round = (driving .lockout cell).round ∧
    (ran (.faultInputChange 9 .bridge true) cell).roster.entries = cell.roster.entries := by decide +kernel

/-- The values of a pass within the arming bands. -/
def goodPass : PassValues := ⟨820, 701, 849, 701⟩

theorem test_arming_check : (driving .arming cell).barred = false ∧ (driving .arming cell).watch.sentArmed = false ∧
    ((driving .arming cell).evaluateCheck goodPass).bus.queue.map QFrame.body = [.step 1 0 (digestOf (viable 0)) 0] ∧
    ((withOwn .live 0 (driving .arming cell)).evaluateCheck ⟨820, 700, 849, 701⟩).roster.entries[0]? =
      some ⟨.resting, .owner, 13, 6, 0⟩ ∧
    (let p := cell.params; p.armLow = 820 ∧ 820 ≤ p.armHigh ∧ p.supplyLow < 701 ∧ p.inputLow < 701 ∧ 849 < p.heatHigh) := by
  decide +kernel

/-- A cell in HALTED with a plan in force, its own entry and bypass as given, the run request absent before. -/
def unarmed (p : Plan) (c : Condition) (k : FaultClass) (b : BypassState) : State :=
  let s := withOwn c k (faced .halted .live 0 [])
  { s with
    plan := { s.plan with inForce := some p }
    watch := cell.watch
    bypass := { Bypass.init with state := b, hold := b == .opened || b == .opening } }

/-- A plan of a drive that trims, with cell A1 as its one spare. -/
def trimmed : Plan :=
  finishPlan (trimming cell).params 0 ⟨⟨[2, 3, 4, 5, 1], [1, 2, 3, 4], [1, 2, 3, 4]⟩, []⟩ (Plan.begun 0 0)

/-- A plan without cell A1. -/
def without : Plan := finishPlan cell.params 0 ⟨⟨[2, 3, 4, 5], [1, 2, 3, 4], [1, 2, 3, 4]⟩, []⟩ (Plan.begun 0 0)

theorem test_arming_check_of_an_active_cell :
    (unarmed (viable 0) .live 0 .opened).cellRole = .active 0 ∧
    (unarmed (viable 0) .live 0 .opened).ownEntry.map RosterEntry.cond = some .live ∧
    (faceLine true 0 none (unarmed (viable 0) .live 0 .opened)).watch.check = .senseWait ∧
    (faceLine true 0 none (unarmed (viable 0) .live 0 .closed)).watch.check = .openWait ∧
    (faceLine true 0 none (unarmed (viable 0) .live 0 .closed)).bypass.state = .opening ∧
    (faceLine true 0 none (unarmed (viable 0) .live 0 .closing)).bypass.pending = some .arm ∧
    (faceLine true 0 none (unarmed (viable 0) .live 0 .stuckOpen)).bypass.state = .stuckOpen := by decide +kernel

theorem test_arming_check_of_other_cells : (unarmed trimmed .live 0 .closed).cellRole = .spare ∧
    (faceLine true 0 none (unarmed trimmed .live 0 .closed)).watch.sentArmed = true ∧
    (faceLine true 0 none (unarmed trimmed .live 0 .opened)).watch.check = .closeWait ∧
    (faceLine true 0 none (unarmed (viable 0) .resting 6 .opened)).bypass.state = .closing ∧
    (faceLine true 0 none (unarmed (viable 0) .resting 6 .opened)).bus.queue.map QFrame.body =
      [.step 2 0 (digestOf (viable 0)) 6, .state] ∧
    (unarmed without .live 0 .closed).cellRole = .out ∧
    (faceLine true 0 none (unarmed without .live 0 .closed)).watch.check = .idle := by decide +kernel

/-- A cell whose arming check waits for a pass begun at or after a time, with a pass begun at 2 µs at its end. -/
def sensing (request : Time) : State :=
  let s := withOwn .live 0 (driving .arming cell)
  { s with
    watch := { s.watch with check := .senseWait, armRequest := some request }
    scanner := { s.scanner with
      activity := some ⟨3, 2, 5⟩, slots := [⟨820, true, false⟩, ⟨701, true, false⟩, ⟨800, true, false⟩, Slot.init] } }

theorem test_serving_pass :
    ((sensing 2).scanner.storeSlot 3 (min 701 1000)).values = ⟨820, 701, 800, 701⟩ ∧
    assertsNow 3 (decide (cell.params.tripHigh < 820)) 0 = false ∧
    softAssertion cell.params ⟨820, 701, 800, 701⟩ cell.watch = none ∧
    (ran (.conversionComplete 5 701 false) (sensing 2)).watch.sentArmed = true ∧
    (ran (.conversionComplete 5 701 false) (sensing 3)).watch.check = .senseWait := by decide +kernel

/-- A resting cell in HALTED whose rest hold-off runs to 100 µs, with an in-band count. -/
def resting (inBand : Nat) : State :=
  { withOwn .resting 6 (inPhase .halted cell) with watch := { cell.watch with rest := .running 100, inBand := inBand } }

theorem test_rest_holdoff : (ran (.restHoldoffExpiry 100) (resting 2)).watch.rest = .elapsed ∧ cell.params.persist = 3 ∧
    (ran (.restHoldoffExpiry 100) { resting 3 with watch := { (resting 3).watch with latch := [1] } }).watch.rest = .elapsed ∧
    (ran (.restHoldoffExpiry 100) (resting 3)).round.phase =
      .settling := by decide +kernel

/-- A cell whose bypass is in a state, the feedback as given. -/
def bypassed (b : BypassState) (hold : Bool) (contact : Option Time) (fb : Option Bool) : State :=
  { cell with bypass := { Bypass.init with state := b, hold := hold, contact := contact, feedback := fb } }

theorem test_feedback_opens :
    (ran (.bypassFbChange 9 false) (bypassed .opening true (some 100) (some true))).bypass.state = .opened ∧
    (ran (.bypassFbChange 9 false) (bypassed .closed false none none)).bypass.state = .closing ∧
    (ran (.bypassFbChange 9 false) (bypassed .stuckOpen false none none)).bypass.state = .stuckOpen := by decide +kernel

theorem test_feedback_closes :
    (ran (.bypassFbChange 9 true) (bypassed .closed false none none)).bypass.state = .closed ∧
    (ran (.bypassFbChange 9 true) (bypassed .opened true none (some false))).watch.latch = [4] ∧
    (ran (.bypassFbChange 9 true) (bypassed .stuckOpen false none (some false))).bypass.state = .closed := by decide +kernel

theorem test_contact_expiry :
    (ran (.contactExpiry 100) (bypassed .opening true (some 100) (some true))).bypass.state = .stuckClosed ∧
    (ran (.contactExpiry 100) (bypassed .closing false (some 100) (some false))).watch.leading = 4 := by decide +kernel

/-- A cell with an arming check that waits for its contactor to open. -/
def openWaiting : State :=
  let s := bypassed .opening true (some 100) (some true)
  { s with watch := { s.watch with check := .openWait } }

theorem test_stuck_closed_refusal_closes : openWaiting.isLine = false ∧ openWaiting.runs = true ∧
    (ran (.contactExpiry 100) openWaiting).bypass.state = .closed ∧
    (ran (.contactExpiry 100) openWaiting).watch.latch = [4] := by decide +kernel

theorem test_gate_enable : ({ driving .running cell with bypass := (bypassed .opened true none none).bypass } : State).gateEn =
    true ∧ (driving .running cell).gateEn = false ∧ line.isLine = true ∧ cell.round.phase = .joining := by decide +kernel

/-! ## The Line Port -/

theorem test_inputs : (ran (.faultRstFalling 9) line).port.faultCount = 0 ∧
    (ran (.faultRstFalling 9) { line with port := { line.port with faultRst := some ⟨false, 0⟩ } }).port.faultCount = 1 ∧
    (ran (.discreteInputChange 9 .runReq true) line).port.runReq = some ⟨true, 9⟩ ∧
    (ran (.discreteInputChange 9 .dir true) { line with port := { line.port with dir := some ⟨true, 0⟩ } }).port.dir =
      some ⟨true, 0⟩ ∧ (∀ u ∈ line.port.sample .runReq, u.asserted ≠ true) ∧
    ran (.faultRstFalling 10) (ran (.faultRstFalling 9) line) = (ran (.faultRstFalling 9) line).advance 10 := by
  decide +kernel

theorem test_record_bytes : (recordOf (viable 0) .caught 5 (some 6)).slots.length = 27 ∧
    (recordOf (viable 0) .caught 5 (some 6)).bytes.take 9 =
      [0xA0, 0, 0, 0] ++ bytesOfHalf (digestOf (viable 0)) ++ [6, 6, 6] ∧
    (recordOf (viable 0) .caught 5 (some 6)).slots[1]? = some ⟨true, 341⟩ ∧
    (bitsOfBytes (recordOf (viable 0) .caught 5 (some 6)).bytes)[176 + 12]? = some true ∧
    (drivingLine .running).lso = true ∧ line.lso = false := by decide +kernel

theorem test_link_edges : line.port.transfer = none ∧
    ((ran (.transferStart 1 true) line).port.transfer.map Transfer.clocked) = some 1 ∧
    ((ran (.lsckClockEdge 2 false true) (ran (.transferStart 1 true) line)).port.transfer.map Transfer.lsoIndex) = some 1 ∧
    ((ran (.lsckClockEdge 3 true true) (ran (.lsckClockEdge 2 false true) (ran (.transferStart 1 true) line))).port.transfer.map
      Transfer.lsi) = some [true, true] := by decide +kernel

/-- A transfer of bytes whose last clock fell at 5 µs. -/
def transferred (bs : List Byte) : State :=
  { line with
    port := { line.port with
      transfer := some ⟨520, bitsOfBytes bs, 519, false, 5, line.port.record, false⟩, rready := true } }

/-- The bytes of a status word. -/
def wordBytes : List Byte :=
  bytesOfHalf 1 ++ bytesOfHalf 2 ++ bytesOfHalf 3 ++ bytesOfHalf (crc (bytesOfHalf 1 ++ bytesOfHalf 2 ++ bytesOfHalf 3))

theorem test_transfer_end : (ran (.transferEnd 15) (transferred wordBytes)).port.status = some ⟨1, 2, 3, 15⟩ ∧
    (ran (.transferEnd 15) (transferred wordBytes)).port.rready = false ∧
    (wholeBytes (bitsOfBytes (wordBytes.take 7))).length < 8 ∧
    crc ((wholeBytes (bitsOfBytes (List.replicate 8 0))).take 6) ≠ halfAt (wholeBytes (bitsOfBytes (List.replicate 8 0))) 6 := by
  decide +kernel

/-! ## Epochs taken -/

/-- A frame of a kind at an epoch received at 9 µs, a LINE frame from station 0 and every other from station 2. -/
def received (k : Kind) (epoch : Half) : Instr :=
  match k with
  | .state => .stateReceived 9 (frame 2 epoch (.state (statePayload 1))).transmission
  | .summary => .summaryReceived 9 (frame 2 epoch (summary 9)).transmission
  | .alarm => .alarmReceived 9 (frame 2 epoch (.alarm 2 1 6)).transmission
  | .step => .stepReceived 9 (frame 2 epoch (.step 1 0 5 0)).transmission
  | .line => .lineReceived 9 (frame 0 epoch (.line fullLine)).transmission

theorem test_serial_boundaries : epochNewer 0x7FFF 0 = true ∧ epochNewer 0x8000 0 = true ∧ epochNewer 0 0x8000 = false ∧
    epochNewer 0x8001 0 = false ∧ epochNewer 0 0xFFFF = true ∧ epochNewer 3 3 = false ∧ versionNewer 0 5 = false ∧
    versionNewer 0xFFFF 0 = true ∧ versionNewer 1 0xFFFF = true ∧ versionNewer 0x8001 1 = true ∧
    versionNewer 1 0x8001 = false ∧ versionSucc 0xFFFF = 1 ∧ versionSucc 0 = 1 := by decide

theorem test_catch_up_at_a_cell : ∀ k ∈ [Kind.state, .summary, .step, .line],
    (let s := driving .running { cell with round := { cell.round with attempts := [0], resettle := 2 } }
     ran (received k 1) s).round.tripTime = some 9 ∧
    (let s := driving .running { cell with round := { cell.round with attempts := [0], resettle := 2 } }
     ((ran (received k 1) s).round.phase, (ran (received k 1) s).round.epoch, (ran (received k 1) s).round.attempts,
      (ran (received k 1) s).round.resettle) = (.tripped, 1, [0], 0)) := by decide +kernel

theorem test_catch_up_at_the_line_station : ∀ k ∈ [Kind.state, .summary, .step],
    (ran (received k 1) (moving .running false true)).round.phase = .tripped ∧
    (ran (received k 1) (moving .running false true)).catcher.context.planTag = .valid ∧
    (ran (received k 1) (moving .running false true)).catcher.budget = .running := by decide +kernel

theorem test_epochs_stored_in_joining : ∀ k ∈ [Kind.state, .summary, .alarm, .step, .line],
    (ran (received k 0xFFFF) cell).round.epoch = 0xFFFF ∧ cell.round.firstTaken = false ∧
    (let s := { cell with round := { cell.round with firstTaken := true } }
     (ran (received k 0xFFFF) s).round.epoch = 0 ∧ (ran (received k 1) s).round.epoch = 1 ∧
     (ran (received k 1) s).round.phase = .joining) := by decide +kernel

theorem test_epochs_stored_in_lockout_and_isolated : ∀ k ∈ [Kind.state, .summary, .alarm, .step, .line],
    (ran (received k 1) (inPhase .lockout cell)).round.phase = .lockout ∧
    (ran (received k 1) (inPhase .lockout cell)).round.epoch = 1 ∧
    (ran (received k 0) (inPhase .isolated cell)).round.phase = .joining ∧
    (ran (received k 0) (inPhase .isolated cell)).round.joinLeft = 3 ∧
    (ran (received k 1) (inPhase .isolated cell)).round.epoch = 1 := by decide +kernel

/-! ## Summaries -/

/-- The line station of a drive with three cells per phase. -/
def smallLine : State := ran (.powerOnReset 0 ⟨true, 0, 0⟩) smallCell

/-- The state after a SUMMARY of some items at 9 µs. -/
def told (items : List SummaryItem) (s : State) : State :=
  ran (.summaryReceived 9 (frame 2 0 (.summary items)).transmission) s

/-- Nine LIVE items at version 1. -/
def nineLive : List SummaryItem := List.replicate 9 ⟨0, true, 0, 1⟩

/-- Nine LIVE items but for the last, LIVE with a class, which Table 1-2 has not. -/
def nineOutside : List SummaryItem := nineLive.take 8 ++ [⟨0, true, 5, 1⟩]

theorem test_items_inside_table : InsideTable ⟨0, true, 0, 1⟩ ∧ InsideTable ⟨1, true, 13, 1⟩ ∧ InsideTable ⟨3, true, 1, 1⟩ ∧
    InsideTable ⟨4, false, 0, 0⟩ ∧ ¬InsideTable ⟨0, true, 5, 1⟩ ∧ ¬InsideTable ⟨1, true, 10, 1⟩ ∧
    ¬InsideTable ⟨2, true, 5, 1⟩ ∧ ¬InsideTable ⟨4, true, 0, 1⟩ ∧ ¬InsideTable ⟨5, true, 0, 1⟩ ∧
    ItemCarries ⟨1, true, 13, 7⟩ ⟨.resting, .owner, 13, 7, 0⟩ := by
  unfold InsideTable ItemCarries
  refine ⟨?_, ?_, ?_, ?_, ?_, ?_, ?_, ?_, ?_, ?_⟩ <;> decide

theorem test_entry_bytes : entryBytes ⟨.resting, .owner, 9, 0x1234, 5⟩ = [0x11, 9, 0x12, 0x34] ∧
    entryBytes ⟨.silent, .observer, 0, 0, 5⟩ = [0x40, 0, 0, 0] ∧
    rosterDigestOf [⟨.resting, .owner, 9, 0x1234, 5⟩] = crc [0x11, 9, 0x12, 0x34] := by decide +kernel

theorem test_summary_discarded : invalidCell.store.valid = false ∧
    (told (List.replicate 12 ⟨0, true, 0, 1⟩) (inPhase .halted smallCell)).roster.entries = smallCell.roster.entries ∧
    (told nineOutside (inPhase .halted smallCell)).roster.entries = smallCell.roster.entries ∧
    (told nineOutside (inPhase .halted smallCell)).round.phase = .halted ∧
    (told nineOutside (inPhase .halted smallCell)).roster.answerSent = false ∧
    (told nineLive invalidCell).roster.entries = [] := by decide +kernel

theorem test_summary_answered : (inPhase .tripped smallCell).barred = false ∧
    (told nineLive (inPhase .tripped smallCell)).roster.answerSent = true ∧
    (told nineLive (inPhase .tripped smallCell)).roster.answerOwed = false ∧
    (told nineLive (inPhase .tripped smallCell)).bus.queue.map QFrame.body = [.summary] ∧
    (let s := inPhase .tripped smallCell
     (told nineLive { s with roster := { s.roster with answerSent := true } }).roster.answerOwed) = true ∧
    (told nineLive smallCell).roster.answerSent = false ∧
    (told nineLive smallCell).roster.entries[0]? = some ⟨.live, .owner, 0, 1, 0⟩ := by decide +kernel

theorem test_summary_without_a_change :
    (told (List.replicate 9 ⟨4, false, 0, 0⟩) (inPhase .halted smallCell)).round.phase = .halted ∧
    (told (List.replicate 9 ⟨4, false, 0, 0⟩) (inPhase .halted smallCell)).roster.mismatch = [] := by decide +kernel

theorem test_summary_changes_the_round :
    (told nineLive (inPhase .halted smallCell)).round.phase = .settling ∧
    (told nineLive (inPhase .planning smallCell)).round.phase = .settling ∧
    (told nineLive (inPhase .planning smallCell)).round.resettle = 1 ∧
    (let s := inPhase .planning smallCell
     (told nineLive { s with round := { s.round with resettle := 3 } }).round.phase) = .lockout ∧
    (told nineLive (inPhase .catching smallCell)).round.deferred = true ∧
    (told nineLive (inPhase .arming smallCell)).round.phase = .arming ∧
    (told nineLive (driving .running smallCell)).round.phase = .revising ∧
    (told nineLive (driving .running smallCell)).plan.build = .walking := by decide +kernel

/-- A station whose build stands at a state and cursor. -/
def building (b : BuildState) (cursor : Nat) (s : State) : State :=
  { s with plan := { s.plan with build := b, candidate := some (viable 1), cursor := cursor } }

theorem test_summary_rebuilds :
    (told nineLive (building .built 10 (inPhase .settling smallCell))).plan.build = .walking ∧
    (told nineLive (building .built 10 (driving .revising smallCell))).plan.cursor = 1 ∧
    (told nineLive (building .walking 3 (driving .revising smallCell))).plan.cursor = 1 ∧
    (told nineLive (building .walking 1 (driving .revising smallCell))).plan.candidate = some (viable 1) ∧
    (told nineLive (driving .revising smallCell)).plan.build = .none := by decide +kernel

theorem test_summary_cancels_a_switch :
    (let s := driving .revising smallLine
     let r := told nineLive (building .built 10
       { s with port := { s.port with switchPending := some ⟨1, 9, 5⟩, presented := some s.port.record } })
     r.port.switchPending = none ∧ r.port.presented = none ∧ r.reviseOut = false ∧ r.round.phase = .revising) := by
  decide +kernel

/-! ## STEP decisions, catch starts and switches -/

/-- The line station in HALTED with its own LINE frame of a fresh run request in its attempt, RUN_REQ and DRIVE_TRIP sampled as
given, its record in force as given. -/
def ownRun (runReq trip : Bool) (r : ReleaseRecord) : State :=
  let s := ownMark true none .halted
  { s with
    round := { s.round with facts := ⟨false, false, true, some 0, none, none⟩ }
    port := { s.port with runReq := some ⟨runReq, 0⟩, driveTrip := some ⟨trip, 0⟩, record := r } }

theorem test_step_decided :
    (ran (.attemptCompleted 9) (ownRun true false (recordOf (viable 0) .none 0 none))).port.stepDecision =
      some ⟨1, 0, digestOf (viable 0), 0⟩ ∧
    (ran (.attemptCompleted 9) (ownRun true true (recordOf (viable 0) .none 0 none))).port.stepDecision =
      some ⟨2, 0, digestOf (viable 0), 11⟩ ∧
    (ran (.attemptCompleted 9) (ownRun false false (recordOf (viable 0) .none 0 none))).port.stepDecision =
      some ⟨2, 0, digestOf (viable 0), 16⟩ ∧
    (ran (.attemptCompleted 9) (ownRun true false ReleaseRecord.cleared)).port.stepDecision =
      some ⟨2, 0, digestOf (viable 0), 16⟩ ∧
    (ran (.attemptCompleted 9) (ownRun true false (recordOf (viable 0) .none 0 none))).bus.queue.map QFrame.body =
      [.step 1 0 (digestOf (viable 0)) 0, .summary, .state] := by decide +kernel

theorem test_step_decided_after_catching :
    (let s := sending (.line 7) (.line { linePayload true 7 none with catchBlock := some ⟨1, 5⟩ }) 0 (drivingLine .catching)
     (ran (.attemptCompleted 9) { s with port := { s.port with runReq := some ⟨true, 0⟩ } }).port.stepDecision) =
      some ⟨1, 0, digestOf (viable 0), 0⟩ := by decide +kernel

theorem test_run_request_withdrawn :
    (let s := ran (.attemptCompleted 9) (ownMark false none .revising)
     s.round.phase = .settling ∧ s.plan.candidate = none ∧ s.plan.inForce = some (viable 0) ∧
     s.port.switchPending = none ∧ s.port.presented = none ∧ s.release = false) ∧
    (faceLine false 0 none { revising with plan := { revising.plan with switchRecord := none } }).round.phase = .settling := by
  decide +kernel

/-- The line station at the finishing step of a trip round's plan, BRAKE_OPEN and SLOW_ZONE sampled as given. -/
def adopting (brakeOpen slow : Bool) : State :=
  let s := finishingIn .planning 0 [1, 2, 3, 4] [] line
  { s with
    round := { s.round with tripRound := true, facts := { s.round.facts with brakeOpen := true } }
    port := { s.port with brakeOpen := some ⟨brakeOpen, 0⟩, slowZone := some ⟨slow, 0⟩ } }

theorem test_catch_started :
    (let s := ran (.finishingStep 9) (adopting true false)
     s.round.phase = .catching ∧ s.catcher.active = true ∧ s.catcher.timer = some (9 + 1000 * line.params.catchTime) ∧
     s.scanner.mode = .continuous ∧ s.scanner.activity = some ⟨0, 9, 14⟩) ∧
    (ran (.finishingStep 9) (adopting false false)).catcher.record = ⟨some 0, .standstill, 0, none, 9, false⟩ ∧
    (ran (.finishingStep 9) (adopting true true)).catcher.record.outcome = .failed ∧
    (ran (.finishingStep 9) (adopting true true)).scanner.mode = .single := by decide +kernel

theorem test_catch_not_started :
    (let s := adopting true false
     (ran (.finishingStep 9)
       { s with catcher := { s.catcher with record := ⟨some 0, .cold, 7, none, 0, false⟩ } }).catcher.active) = false ∧
    (let s := adopting true false
     (ran (.finishingStep 9)
       { s with
         round := { s.round with armed := [0] }
         catcher := { s.catcher with overdue := true } }).catcher.record.outcome) = .expired := by decide +kernel

theorem test_adoption_into_arming :
    (let s := finishingIn .planning 0 [1, 2, 3, 4] [] line
     (ran (.finishingStep 9) { s with round := { s.round with runDemand := true } }).round.phase = .arming ∧
     ((ran (.finishingStep 9) { s with round := { s.round with runDemand := true } }).port.stepDecision).map
       StepDecision.reason = some 16) := by decide +kernel

/-- A plan of a revision without cell A1. -/
def leaving (revision : Byte) : Plan :=
  finishPlan cell.params 0 ⟨⟨[2, 3, 4, 5], [1, 2, 3, 4], [1, 2, 3, 4]⟩, []⟩ (Plan.begun 0 revision)

/-- The bypass of cell A1 after the mark frame that takes it from one plan to another. -/
def switched (before after : Plan) (b : BypassState) : Bypass :=
  (ran (.lineReceived 9
    (frame 0 0 (.line (linePayload true 7 (some ⟨after.revision, 7, digestOf after⟩)))).transmission)
    { revising with
      plan := { revising.plan with inForce := some before, candidate := some after }
      bypass := { Bypass.init with state := b, hold := b == .opened || b == .opening } }).bypass

theorem test_switch_opens_the_bypass :
    switched (leaving 0) (viable 1) .closed =
      { Bypass.init with state := .opening, hold := true, contact := some (9 + 1000 * cell.params.contact) } ∧
    (switched (leaving 0) (viable 1) .stuckClosed).state = .opening ∧
    (switched (leaving 0) (viable 1) .closing).pending = some .switch ∧
    (switched (leaving 0) (viable 1) .opened).state = .opened ∧
    (switched (leaving 0) (viable 1) .stuckOpen).state = .stuckOpen ∧
    (switched (viable 0) (viable 1) .closed).state = .closed := by decide +kernel

theorem test_switch_closes_the_bypass :
    switched (viable 0) (leaving 1) .opened = { Bypass.init with state := .closing, hold := true, gateOff := some 19 } ∧
    switched (viable 0) (leaving 1) .opening =
      { Bypass.init with state := .closing, contact := some (9 + 1000 * cell.params.contact) } ∧
    switched (viable 0) (leaving 1) .stuckClosed = Bypass.init ∧
    (switched (viable 0) (leaving 1) .closed).state = .closed ∧
    (switched (viable 0) (leaving 1) .stuckOpen).state = .stuckOpen := by decide +kernel

/-! ## Digests and crossings -/

theorem test_crc_and_plan_digest : crc [] = 0xFFFF ∧ crc [0x31, 0x32] = 0x3DBA ∧
    digestOf (viable 0) =
      crc ([0, 0, 0, 0, 6, 6, 6, 4, 0xB0, 4, 0xB0, 4, 0xB0, 3, 0xE8] ++ [1, 2, 3, 4, 5, 6, 1, 2, 3, 4, 5, 6, 1, 2, 3, 4, 5, 6] ++
        [0]) := by decide +kernel

/-- An ACTIVE catch with the tracker of a channel and a crossing list as given, its conversion ending at 5 µs. -/
def tracking (channel : Nat) (k : Tracker) (cs : List Crossing) : State :=
  let s := catching channel Slot.init
  { s with catcher := { s.catcher.setTracker channel k with crossings := cs } }

/-- Its crossing list after a sample of 10 at 5 µs. -/
def sampled (channel : Nat) (k : Tracker) (cs : List Crossing) : List Crossing :=
  (ran (.conversionComplete 5 505 true) (tracking channel k cs)).catcher.crossings

theorem test_crossings_not_entered : cell.params.catchFloor = 50 ∧
    sampled 2 ⟨some (-10, 1), 200, 200⟩ [] = [] ∧ sampled 0 ⟨some (-10, 1), 49, 200⟩ [] = [] ∧
    sampled 0 ⟨some (-10, 1), 200, 200⟩ [⟨false, 3⟩] = [⟨false, 3⟩] ∧
    (ran (.conversionComplete 5 505 true) (tracking 2 ⟨some (-10, 1), 200, 200⟩ [])).catcher.trackCA =
      ⟨some (10, 5), 10, 200⟩ ∧
    sampled 0 ⟨some (0, 1), 200, 200⟩ [] = [] ∧ sampled 0 ⟨none, 200, 200⟩ [] = [] := by decide +kernel

theorem test_crossings_entered : sampled 0 ⟨some (-10, 1), 50, 0⟩ [⟨false, 2⟩, ⟨false, 4⟩] =
      [⟨false, 2⟩, ⟨true, 3⟩, ⟨false, 4⟩] ∧
    sampled 1 ⟨some (-10, 1), 50, 0⟩ ([0, 1, 2, 4, 5, 6, 7, 8].map fun u => ⟨false, u⟩) =
      [1, 2, 3, 4, 5, 6, 7, 8].map fun u => ⟨false, u⟩ := by decide +kernel

theorem test_entered_crossing_is_evaluated :
    evaluationTimes [⟨true, 0⟩, ⟨true, 1⟩, ⟨false, 2⟩, ⟨true, 3⟩] = some (0, 1, 3, 2) ∧
    sampled 0 ⟨some (-10, 1), 200, 200⟩ [⟨true, 0⟩, ⟨true, 1⟩, ⟨false, 2⟩] = [⟨true, 1⟩, ⟨false, 2⟩, ⟨true, 3⟩] := by
  decide +kernel

theorem test_missed_results : (ran (.conversionComplete 5 505 false) (catching 1 ⟨0, true, false⟩)).scanner.slots[1]? =
      some ⟨505, true, true⟩ ∧
    (ran (.conversionComplete 5 505 true) (catching 1 ⟨0, true, false⟩)).scanner.slots[1]? = some ⟨505, false, false⟩ ∧
    (ran (.conversionComplete 5 505 true) (catching 1 ⟨0, true, false⟩)).catcher.trackBC = ⟨some (10, 5), 10, 10⟩ ∧
    (ran (.conversionComplete 5 505 true) (catching 1 ⟨0, true, false⟩)).catcher.trackAB = ⟨none, 0, 200⟩ := by
  decide +kernel

/-! ## Invariants -/

theorem test_invariants_have_states : ∃ s s' : State, step s = .next s' ∧ s ≠ State.reset ∧ QueueSound s ∧ HeardSized s ∧
    RosterSized s ∧ AttemptsSound s ∧ RoundSound s ∧ PlanSound s ∧ TalliesSound s ∧ SlotsSound s ∧ CrossingsSound s ∧
    CatchSound s ∧ BypassSound s ∧ StoreSound s := by
  refine ⟨{ cell with now := 3, pending := [.defer 4] }, _, rfl, by decide +kernel, ?_⟩
  unfold QueueSound HeardSized RosterSized AttemptsSound RoundSound PlanSound TalliesSound SlotsSound CrossingsSound
    CatchSound BypassSound StoreSound
  decide +kernel

theorem test_gating_state : ∃ s : State, BypassSound s ∧ s.gateEn = true :=
  ⟨{ driving .running cell with bypass := (bypassed .opened true none none).bypass },
    by unfold BypassSound; decide +kernel, by decide +kernel⟩

end Sys2Proof.Tests
end

/-! # The finished plan

PROOFS of what the finishing step's plan holds (R73, R74, R78), with the CRC of R3: first a lemma or two for each operation
that the plan is made by (the CRC, the carrier offsets, the place of a position, the digest's input), then what a finished
plan's body is, then the roles it gives. -/

namespace Sys2Proof.Proofs

open Sys2Proof.Machine Sys2Proof.Safety

/-! ## The CRC (R3) -/

/-- R3: a further byte is taken by the CRC of the bytes before it. -/
theorem crc_concat (bs : List Byte) (x : Byte) : crc (bs ++ [x]) = crcByte (crc bs) x := by
  simp only [crc, List.foldl_append, List.foldl_cons, List.foldl_nil]

/-- R3: a byte enters at the high end of the register and is shifted through as eight bits. -/
theorem crcByte_eq_foldl (c : Half) (x : Byte) :
    crcByte c x = (List.replicate 8 ()).foldl (fun k _ => crcBit k) (c ^^^ (x ++ 0#8)) := rfl

/-! ## Carrier offsets (R73) -/

@[simp] theorem length_carrierOffsets (n : Nat) : (carrierOffsets n).length = n := by simp [carrierOffsets]

/-- R73: the offset of each place below the number of active cells. -/
theorem carrierOffsets_getElem? {n j : Nat} (hj : j < n) : (carrierOffsets n)[j]? = some (j * 2048 / n) := by
  simp [carrierOffsets, hj]

/-- R73: each offset lies below half a carrier period, because its place lies below the number of active cells. -/
theorem lt_of_mem_carrierOffsets {n o : Nat} (ho : o ∈ carrierOffsets n) : o < 2048 := by
  obtain ⟨j, hj, rfl⟩ := List.mem_map.mp ho
  exact Nat.div_lt_of_lt_mul (Nat.mul_lt_mul_of_pos_right (List.mem_range.mp hj) (by decide))

/-- The offset found for a position is the one at the position's first place in the list. -/
theorem offsetAt_eq_of_first_place {positions offsets : List Nat} {j k o : Nat} (hk : positions[j]? = some k)
    (hfirst : ∀ m, m < j → positions[m]? ≠ some k) (ho : offsets[j]? = some o) :
    offsetAt positions offsets k = some o := by
  have hfind : (positions.zip offsets).find? (fun x => x.1 == k) = some (k, o) := by
    obtain ⟨hj, hpos⟩ := List.getElem?_eq_some_iff.mp hk
    obtain ⟨hj', hoff⟩ := List.getElem?_eq_some_iff.mp ho
    have hzip : j < (positions.zip offsets).length := by
      rw [List.length_zip]
      exact Nat.lt_min.mpr ⟨hj, hj'⟩
    have hpair : (positions.zip offsets)[j] = (k, o) := by rw [List.getElem_zip, hpos, hoff]
    refine List.find?_eq_some_iff_getElem.mpr ⟨beq_self_eq_true k, j, hzip, hpair, fun m hm => ?_⟩
    have hne : positions[m] ≠ k := fun h => hfirst m hm (List.getElem?_eq_some_iff.mpr ⟨by omega, h⟩)
    simpa only [List.getElem_zip, Bool.not_eq_true', beq_eq_false_iff_ne] using hne
  simp only [offsetAt, hfind, Option.map_some]

/-! ## The digest's input (Table 3-6) -/

/-- R164: the two bytes of a 16-bit field as quotient and remainder by 256. -/
theorem bytesOfHalf_eq_halfBytes (h : Half) : bytesOfHalf h = halfBytes h := by
  simp only [halfBytes, bytesOfHalf, List.cons.injEq, and_true]
  constructor <;> apply BitVec.eq_of_toNat_eq <;> simp [BitVec.extractLsb'_toNat, Nat.shiftRight_eq_div_pow]

/-- Table 3-6: the mode byte is 0 for BALANCE 0 and 1 for every other. -/
theorem byte_modeOf (balance : Nat) : (modeOf balance).byte = if balance = 0 then 0 else 1 := by
  unfold modeOf
  split <;> rfl

/-- Table 3-6: the bytes of the digest of a balanced plan, in their order. -/
theorem digestInput_eq (epoch : Half) (revision : Byte) (balance : Nat) (x : Balance) :
    digestInput epoch revision (modeOf balance) x =
      halfBytes epoch ++ [revision, if balance = 0 then 0 else 1] ++
        [BitVec.ofNat 8 x.counts.a, BitVec.ofNat 8 x.counts.b, BitVec.ofNat 8 x.counts.c] ++
        halfBytes (BitVec.ofNat 16 x.thetaAB) ++ halfBytes (BitVec.ofNat 16 x.thetaBC) ++
        halfBytes (BitVec.ofNat 16 x.thetaCA) ++ halfBytes (BitVec.ofNat 16 x.fraction) ++
        (x.active.a ++ x.active.b ++ x.active.c).map (fun k => BitVec.ofNat 8 k) ++ [BitVec.ofNat 8 x.spares.length] ++
        x.spares.map fun y => BitVec.ofNat 8 (16 * y.phase + y.pos) := by
  have hspare : CellName.byte = fun y => BitVec.ofNat 8 (16 * y.phase + y.pos) := rfl
  simp only [digestInput, recordHalf, positionBytes, bytesOfHalf_eq_halfBytes, byte_modeOf, hspare, List.map_append,
    List.append_assoc, List.cons_append, List.nil_append]

/-! ## The body of a finished plan (R67) -/

/-- R67: a finished plan that has a body has the counts and the body that balancing gives. -/
theorem finishPlan_body_some {p : Params} {e : Time} {w : Tallies} {c : Plan} {b : PlanBody}
    (h : (finishPlan p e w c).body = some b) :
    (finishPlan p e w c).counts = (balanceOf (modeOf p.balance) p.cells w.live).counts ∧
      b = (balanceOf (modeOf p.balance) p.cells w.live).planBody c.epoch c.revision (modeOf p.balance) := by
  unfold finishPlan at h ⊢
  by_cases hshort : (shortPhases p.minLive w.live).isEmpty = true
  · simp only [hshort, if_true, Option.some.injEq] at h ⊢
    exact ⟨trivial, h.symm⟩
  · simp [hshort] at h

/-- R73: the offsets of a balanced plan, by phase. -/
theorem planBody_offsets_get (epoch : Half) (revision : Byte) (mode : PlanMode) (x : Balance) (i : Nat) :
    (x.planBody epoch revision mode).offsets.get i =
      carrierOffsets ((x.planBody epoch revision mode).active.get i).length := by
  unfold Abc.get
  split
  · rfl
  · split <;> rfl

/-- R74: the digest of a balanced plan. -/
theorem planBody_digest (epoch : Half) (revision : Byte) (mode : PlanMode) (x : Balance) :
    (x.planBody epoch revision mode).digest = planDigest epoch revision mode x := by
  simp only [Balance.planBody]

/-! ## Roles (R78) -/

section Roles

variable {q : Plan} {b : PlanBody} {i k : Nat} (hbody : q.body = some b)

include hbody

/-- R78: a cell of its phase's active list is ACTIVE with the offset of its first place there. -/
theorem roleInPlan_of_first_place (hoffsets : b.offsets.get i = carrierOffsets (b.active.get i).length) {j : Nat}
    (hk : (b.active.get i)[j]? = some k) (hfirst : ∀ m, m < j → (b.active.get i)[m]? ≠ some k) :
    roleInPlan i k q = .active (j * 2048 / (b.active.get i).length) := by
  have hplace : j < (b.active.get i).length := (List.getElem?_eq_some_iff.mp hk).1
  have hoffset : offsetAt (b.active.get i) (b.offsets.get i) k = some (j * 2048 / (b.active.get i).length) :=
    offsetAt_eq_of_first_place hk hfirst (by rw [hoffsets, carrierOffsets_getElem? hplace])
  simp [roleInPlan, hbody, List.mem_of_getElem? hk, hoffset]

/-- R78: a spare outside the active list is SPARE. -/
theorem roleInPlan_of_spare (hactive : k ∉ b.active.get i) (hspare : ⟨i, k⟩ ∈ b.spares) : roleInPlan i k q = .spare := by
  simp [roleInPlan, hbody, hactive, hspare]

/-- R78: a cell that is in neither list is OUT. -/
theorem roleInPlan_of_neither (hactive : k ∉ b.active.get i) (hspare : ⟨i, k⟩ ∉ b.spares) :
    roleInPlan i k q = .out := by
  simp [roleInPlan, hbody, hactive, hspare]

end Roles

/-- Settles O35: the CRC's clauses by its fold over the bytes; the plan's by what a finished plan's body is, with the lemmas
on offsets, the digest's input and roles. -/
theorem finishedPlanGivesOffsetsDigestAndRoles : Obligations.FinishedPlanGivesOffsetsDigestAndRoles := by
  refine ⟨rfl, fun bs x => (crc_concat bs x).trans (crcByte_eq_foldl (crc bs) x), fun p e w c b hbody => ?_⟩
  obtain ⟨hcounts, hb⟩ := finishPlan_body_some hbody
  have hoffsets (i : Nat) : b.offsets.get i = carrierOffsets (b.active.get i).length := by
    rw [hb]
    exact planBody_offsets_get ..
  have hdigest : b.digest =
      planDigest c.epoch c.revision (modeOf p.balance) (balanceOf (modeOf p.balance) p.cells w.live) := by
    rw [hb, planBody_digest]
  refine ⟨fun i j _ hj => ?offset, fun i _ => ⟨?length, fun o ho => ?bound⟩, hdigest, fun n hn => ?bytes,
    fun i k _ => ⟨fun j hk hfirst => ?active, ?spare, ?out⟩⟩
  case offset => rw [hoffsets, carrierOffsets_getElem? hj]
  case length => rw [hoffsets, length_carrierOffsets]
  case bound =>
    rw [hoffsets] at ho
    exact lt_of_mem_carrierOffsets ho
  case bytes =>
    rw [hdigest, hn, hcounts, hb, planDigest, digestInput_eq]
    simp only [Balance.planBody]
  case active => exact roleInPlan_of_first_place hbody (hoffsets i) hk hfirst
  case spare => exact roleInPlan_of_spare hbody
  case out => exact roleInPlan_of_neither hbody

end Sys2Proof.Proofs

/-! # Triggers and settings of the Sense Scanner

PROOFS about the scanner's operations (R117, R119): first what a trigger, a pass end and a settings change do in each of
their cases, then the two statements assembled from these. -/

namespace Sys2Proof.Proofs

open Sys2Proof.Machine

/-! ## Triggers and the pass end (R118, R119) -/

section Triggers

variable {c : Scanner} (now : Time) (k : Trigger)

/-- R119: with a pass in flight and no trigger held, a trigger is held. -/
theorem trigger_held {a : Activity} (hmode : c.mode = .single) (hpass : c.activity = some a) (hfree : c.pending = none) :
    c.trigger now k = { c with pending := some k } := by
  simp only [Scanner.trigger, hmode, hpass, hfree]

/-- R119: with a pass in flight and a trigger held, a trigger is lost. -/
theorem trigger_lost_of_pending {a : Activity} {h : Trigger} (hmode : c.mode = .single) (hpass : c.activity = some a)
    (hheld : c.pending = some h) : c.trigger now k = c := by
  simp only [Scanner.trigger, hmode, hpass, hheld]

/-- R119: in CONTINUOUS mode a trigger is lost, in flight or not. -/
theorem trigger_lost_of_continuous (hmode : c.mode = .continuous) : c.trigger now k = c := by
  simp only [Scanner.trigger, hmode]

/-- R119: at the pass end in SINGLE mode a held trigger is cleared and its pass starts. -/
theorem moveOn_passEnd_of_pending {a : Activity} {h : Trigger} (hmode : c.mode = .single) (hheld : c.pending = some h)
    (hend : c.last ≤ a.channel) : c.moveOn now a = ({ c with pending := none }).startPass now := by
  simp only [Scanner.moveOn, Nat.not_lt.mpr hend, if_false, hmode, hheld]

end Triggers

/-! ## Settings changes (R117) -/

/-- R117: the requests that the scanner accepts: a range in order within CH0 to CH3, with one of the two pairings. -/
theorem settingsAccepted_iff {lo hi : Nat} {m : ScanMode} {w : Standby} :
    settingsAccepted lo hi m w = true ↔
      lo ≤ hi ∧ hi ≤ 3 ∧ (m = .single ∧ w = .tick ∨ m = .continuous ∧ w = .free) := by
  cases m <;> cases w <;> simp [settingsAccepted]

section Settings

variable {lo hi : Nat} {m : ScanMode} {w : Standby} (now : Time) (c : Scanner)

/-- R117: a refused request leaves the scanner as it is. -/
theorem request_of_refused (h : ¬ settingsAccepted lo hi m w = true) : c.request now lo hi m w = c := if_neg h

/-- R117: an accepted request for SINGLE with TICK leaves the stopped scanner idle under the new settings. -/
theorem request_single_tick (hrange : lo ≤ hi) (hhi : hi ≤ 3) :
    c.request now lo hi .single .tick =
      { c.forcedStop with first := lo, last := hi, mode := .single, standing := .tick } :=
  if_pos (settingsAccepted_iff.mpr ⟨hrange, hhi, .inl ⟨rfl, rfl⟩⟩)

/-- R117: an accepted request for CONTINUOUS with FREE starts a pass of the stopped scanner under the new settings. -/
theorem request_continuous_free (hrange : lo ≤ hi) (hhi : hi ≤ 3) :
    c.request now lo hi .continuous .free =
      ({ c.forcedStop with first := lo, last := hi, mode := .continuous, standing := .free }).startPass now :=
  if_pos (settingsAccepted_iff.mpr ⟨hrange, hhi, .inr ⟨rfl, rfl⟩⟩)

end Settings

/-- Settles O38, case by case of a trigger: held, lost to a held one, lost in CONTINUOUS; then the pass end and the forced
stop. -/
theorem triggerInFlightIsHeldOrLost : Obligations.TriggerInFlightIsHeldOrLost := by
  intro now k h a c
  exact ⟨trigger_held now k, trigger_lost_of_pending now k, trigger_lost_of_continuous now k,
    moveOn_passEnd_of_pending now, rfl⟩

/-- Settles O39: each of the three grounds of refusal contradicts `settingsAccepted_iff`; the two accepted pairings have an
equation each. -/
theorem settingsChangeIsAcceptedOrRefused : Obligations.SettingsChangeIsAcceptedOrRefused := by
  intro now lo hi m w c _ hhi
  refine ⟨fun hbad => request_of_refused now c fun hacc => ?refused, ?single, ?continuous⟩
  case refused =>
    obtain ⟨hrange, -, hpair⟩ := settingsAccepted_iff.mp hacc
    obtain hlt | ⟨rfl, rfl⟩ | ⟨rfl, rfl⟩ := hbad
    · omega
    · simp at hpair
    · simp at hpair
  case single =>
    rintro hrange rfl rfl
    exact request_single_tick now c hrange hhi
  case continuous =>
    rintro hrange rfl rfl
    exact request_continuous_free now c hrange hhi

end Sys2Proof.Proofs

/-! # The gate permissive

PROOFS about GATE_EN (R143): each of its inputs as a proposition, the equivalence with the four inputs at a cell station that
acts, what keeps it low, and that every reset leaves it low. -/

namespace Sys2Proof.Proofs

open Sys2Proof.Machine

/-! ## The inputs of the gate permissive -/

/-- The drive modulates in RUNNING and REVISING. -/
theorem phase_drives_iff {p : Phase} : p.drives = true ↔ p = .running ∨ p = .revising := by simp [Phase.drives]

/-- R78: a role is ACTIVE just when it is so with some carrier offset. -/
theorem cellRole_isActive_iff {r : CellRole} : r.isActive = true ↔ ∃ o, r = .active o := by
  cases r <;> simp [CellRole.isActive]

/-- A station without the line role is a cell station. -/
theorem isCell_eq_not_isLine (s : State) : s.isCell = !s.isLine := by
  unfold State.isCell State.isLine
  cases s.store.role <;> rfl

/-! ## GATE_EN by its inputs -/

section Gate

variable {s : State}

/-- R143: at a cell station that acts GATE_EN is the conjunction of its four inputs. -/
theorem gateEn_iff (hruns : s.runs = true) (hline : s.isLine = false) :
    s.gateEn = true ↔ (s.round.phase = .running ∨ s.round.phase = .revising) ∧ (∃ o, s.cellRole = .active o) ∧
      s.bypass.state = .opened ∧ s.watch.latch = [] := by
  have hcell : s.isCell = true := by rw [isCell_eq_not_isLine, hline, Bool.not_false]
  simp only [State.gateEn, hruns, hcell, Bool.true_and, Bool.and_eq_true, phase_drives_iff, cellRole_isActive_iff,
    beq_iff_eq, List.isEmpty_iff, and_assoc]

/-- R143: GATE_EN is held low in the line role. -/
theorem gateEn_of_isLine (hline : s.isLine = true) : s.gateEn = false := by
  simp [State.gateEn, isCell_eq_not_isLine, hline]

/-- R143: GATE_EN is low in JOINING, ISOLATED and LOCKOUT, which are none of the phases in which the drive modulates. -/
theorem gateEn_of_joining_isolated_lockout
    (hphase : s.round.phase = .joining ∨ s.round.phase = .isolated ∨ s.round.phase = .lockout) : s.gateEn = false := by
  apply State.gateEn_of_phase
  obtain h | h | h := hphase <;> rw [h] <;> rfl

/-- R184: GATE_EN is low while RESET# is low. -/
theorem gateEn_of_resetLow (hlow : s.store.resetLow = true) : s.gateEn = false := by
  simp [State.gateEn, State.runs, hlow]

end Gate

/-! ## GATE_EN at the resets (R184) -/

/-- R28: a station stands in JOINING after every reset. -/
theorem afterReset_phase (now : Time) (st : Store) (b : Bypass) (free : Nat) (queue : List Instr) :
    (State.afterReset now st b free queue).round.phase = .joining := rfl

/-- R143: GATE_EN is low after every reset, whatever store and bypass it leaves. -/
theorem gateEn_afterReset (now : Time) (st : Store) (b : Bypass) (free : Nat) (queue : List Instr) :
    (State.afterReset now st b free queue).gateEn = false :=
  gateEn_of_joining_isolated_lockout (.inl (afterReset_phase now st b free queue))

/-- POWER_ON_RESET leaves every block at its reset value beside the store just loaded. -/
theorem exec_powerOnReset (t : Time) (x : Straps) (s : State) :
    exec (.powerOnReset t x) s = .next (State.afterReset (max s.now t)
      (Store.powerOn (max s.now t) s.store.image x s.store.resetLow) Bypass.init s.freeCount s.pending) := rfl

/-- PIN_RESET: the fall of RESET# at a station that acts begins a pin reset at the command's time. -/
theorem exec_pinReset_falls (t : Time) (x : Straps) {s : State} (hruns : s.runs = true) :
    exec (.pinReset t (.falls true) x) s = .next (s.advance t).startReset := by
  have hadvanced : (s.advance t).runs = true := hruns
  rw [← State.resetEdge_falls (x := x) hadvanced]
  rfl

/-- Settles O50: the equivalence at a cell station that acts, then one lemma for each ground that keeps GATE_EN low; both
resets end in `State.afterReset`, in JOINING. -/
theorem gateEnableFollowsFourInputs : Obligations.GateEnableFollowsFourInputs := by
  refine ⟨fun s => gateEn_iff, fun s => gateEn_of_isLine, fun s => gateEn_of_joining_isolated_lockout, fun t x s => ?power,
    fun t x s hruns => ?fall, fun s => gateEn_of_resetLow⟩
  case power => exact ⟨_, exec_powerOnReset t x s, gateEn_afterReset ..⟩
  case fall => exact ⟨_, exec_pinReset_falls t x hruns, gateEn_afterReset ..⟩

end Sys2Proof.Proofs

/-! # A frame queued at a full queue

PROOFS about the capacity rule of the transmit queue (R154): the worst rank present, the frame that gives way to a better
one, and what queueing a frame does once the queue is full and R153 does not take the frame up. -/

namespace Sys2Proof.Proofs

open Sys2Proof.Machine

/-! ## The worst rank present -/

section WorstRank

variable {q : List QFrame} {w : Nat}

/-- A bound of a start value and of a list's numbers is a bound of their maximum. -/
theorem foldl_max_le_iff {l : List Nat} {a : Nat} : l.foldl max a ≤ w ↔ a ≤ w ∧ ∀ x ∈ l, x ≤ w := by
  induction l generalizing a with
  | nil => simp only [List.foldl_nil, List.not_mem_nil, false_implies, implies_true, and_true]
  | cons x l ih => rw [List.foldl_cons, ih, Nat.max_le, List.forall_mem_cons, and_assoc]

/-- R154: what bounds the worst rank present is what bounds the rank of each frame not in an attempt. -/
theorem worstRank_le_iff : worstRank q ≤ w ↔ ∀ g ∈ q, g.inAttempt = false → g.rank ≤ w := by
  simp only [worstRank, foldl_max_le_iff, Nat.zero_le, true_and, List.forall_mem_map, List.mem_filter,
    Bool.not_eq_true', and_imp]

/-- R154: the worst rank present is the rank of a frame not in an attempt that no other such frame exceeds. -/
theorem worstRank_eq (hbound : ∀ g ∈ q, g.inAttempt = false → g.rank ≤ w)
    (hattained : ∃ g ∈ q, g.inAttempt = false ∧ g.rank = w) : worstRank q = w := by
  obtain ⟨g, hmem, hwaits, rfl⟩ := hattained
  exact Nat.le_antisymm (worstRank_le_iff.mpr hbound) (worstRank_le_iff.mp (Nat.le_refl _) g hmem hwaits)

end WorstRank

/-! ## The frame that gives way -/

/-- R152: ALARM is the one kind of rank 0. -/
theorem rank_eq_zero_iff {k : Kind} : k.rank = 0 ↔ k = .alarm := by cases k <;> simp [Kind.rank]

/-- R154: the last frame of a rank that is not in an attempt is the one discarded. -/
theorem dropNewest_of_last {front back : List QFrame} {h : QFrame} (hwaits : h.inAttempt = false)
    (hlast : ∀ g ∈ back, g.inAttempt = false → g.rank ≠ h.rank) :
    dropNewest h.rank (front ++ h :: back) = front ++ back := by
  have hback : ∀ g ∈ back.reverse, ¬ (!g.inAttempt && g.rank == h.rank) = true := by
    intro g hg
    simpa using hlast g (List.mem_reverse.mp hg)
  have hsplit : (front ++ h :: back).reverse = back.reverse ++ h :: front.reverse := by simp
  rw [dropNewest, hsplit, List.eraseP_append_right _ hback, List.eraseP_cons_of_pos (by simp [hwaits])]
  simp

/-! ## The capacity rule (R154) -/

section Full

variable {b : QBody} {q : List QFrame} (now : Time)

/-- R153: a frame of a kind that may be held more than once, or of a kind not held, is not taken up by a held one. -/
theorem not_takenUp (hnew : b.kind = .alarm ∨ b.kind = .step ∨ ∀ g ∈ q, g.body.kind ≠ b.kind) :
    ¬ (b.kind.single && q.any fun g => g.body.kind == b.kind) = true := by
  rw [Bool.and_eq_true, List.any_eq_true]
  rintro ⟨hsingle, g, hmem, hkind⟩
  obtain halarm | hstep | hnone := hnew
  · simp [halarm, Kind.single] at hsingle
  · simp [hstep, Kind.single] at hsingle
  · exact hnone g hmem (beq_iff_eq.mp hkind)

/-- R154: the three cases of a frame queued at a full queue that R153 does not take up. -/
theorem enqueueFrame_full (hfull : q.length = Config.queueCapacity)
    (hnew : b.kind = .alarm ∨ b.kind = .step ∨ ∀ g ∈ q, g.body.kind ≠ b.kind) :
    enqueueFrame now b q =
      if b.kind ≠ .alarm ∧ worstRank q ≤ b.kind.rank then q
      else if ∃ g ∈ q, g.inAttempt = false ∧ g.body.kind ≠ .alarm then
        insertByRank (.fresh b now) (dropNewest (worstRank q) q)
      else q := by
  rw [enqueueFrame, if_neg (not_takenUp hnew), if_neg (Nat.not_lt.mpr (Nat.le_of_eq hfull.symm))]
  simp only [Bool.and_eq_true, bne_iff_ne, decide_eq_true_eq, List.any_eq_true, Bool.not_eq_true']

/-- R154: an incoming frame of the worst rank present or worse, not an ALARM, is discarded. -/
theorem enqueueFrame_full_discarded (hfull : q.length = Config.queueCapacity)
    (hnew : b.kind = .alarm ∨ b.kind = .step ∨ ∀ g ∈ q, g.body.kind ≠ b.kind) (hkind : b.kind ≠ .alarm)
    (hrank : worstRank q ≤ b.kind.rank) : enqueueFrame now b q = q := by
  rw [enqueueFrame_full now hfull hnew, if_pos ⟨hkind, hrank⟩]

/-- R154: an incoming ALARM, or a frame better than the worst rank present, makes the last waiting frame of that rank give
way where a frame other than an ALARM waits. -/
theorem enqueueFrame_full_displaces (hfull : q.length = Config.queueCapacity)
    (hnew : b.kind = .alarm ∨ b.kind = .step ∨ ∀ g ∈ q, g.body.kind ≠ b.kind)
    (hbetter : b.kind = .alarm ∨ b.kind.rank < worstRank q)
    (hother : ∃ g ∈ q, g.inAttempt = false ∧ g.body.kind ≠ .alarm) :
    enqueueFrame now b q = insertByRank (.fresh b now) (dropNewest (worstRank q) q) := by
  have hkept : ¬ (b.kind ≠ .alarm ∧ worstRank q ≤ b.kind.rank) := fun ⟨hkind, hrank⟩ =>
    hbetter.elim hkind (Nat.not_lt.mpr hrank)
  rw [enqueueFrame_full now hfull hnew, if_neg hkept, if_pos hother]

/-- R154: an ALARM queued where ALARMs alone wait is carried by them. -/
theorem enqueueFrame_full_carried (hfull : q.length = Config.queueCapacity) (hkind : b.kind = .alarm)
    (halarms : ∀ g ∈ q, g.inAttempt = false → g.body.kind = .alarm) : enqueueFrame now b q = q := by
  have hother : ¬ ∃ g ∈ q, g.inAttempt = false ∧ g.body.kind ≠ .alarm := fun ⟨g, hmem, hwaits, hne⟩ =>
    hne (halarms g hmem hwaits)
  rw [enqueueFrame_full now hfull (.inl hkind), if_neg fun h => h.1 hkind, if_neg hother]

end Full

/-- Settles O18: one lemma for each case of the capacity rule. Where the incoming frame is
better than the frame that gives way, the latter is the waiting frame other than an ALARM that the rule asks for. -/
theorem fullQueueKeepsBestRanks : Obligations.FullQueueKeepsBestRanks := by
  intro now b q w hfull hnew hbound hattained
  obtain rfl : worstRank q = w := worstRank_eq hbound hattained
  refine ⟨fun hkind hrank => enqueueFrame_full_discarded now hfull hnew hkind hrank, ?displaces,
    fun hkind halarms => enqueueFrame_full_carried now hfull hkind halarms⟩
  case displaces =>
    intro front h back hq hwaits hworst hlast hcase
    have hbetter : b.kind = .alarm ∨ b.kind.rank < worstRank q := hcase.symm.imp And.left And.right
    have hother : ∃ g ∈ q, g.inAttempt = false ∧ g.body.kind ≠ .alarm := by
      obtain ⟨_, hrank⟩ | ⟨_, hothers⟩ := hcase
      · have hpos : h.body.kind.rank ≠ 0 := Nat.ne_zero_of_lt (Nat.lt_of_lt_of_eq hrank hworst.symm)
        exact ⟨h, by simp [hq], hwaits, mt rank_eq_zero_iff.mpr hpos⟩
      · exact hothers
    have hdrop : dropNewest (worstRank q) q = front ++ back := by
      rw [← hworst] at hlast ⊢
      rw [hq]
      exact dropNewest_of_last hwaits hlast
    rw [enqueueFrame_full_displaces now hfull hnew hbetter hother, hdrop, QFrame.fresh]

end Sys2Proof.Proofs

/-! # What every operation keeps

PROOFS that a predicate of the state which a few kinds of change keep is kept by every operation of the machine, and so by
every command. The kinds of change are the fields of `Kept`: a change of one block that respects the block's own rules, a catch
begun or ended, and the entry to a phase. Each invariant of Safety.lean, and each field that only certain commands write, is
then kept because the kinds of change keep it. -/

namespace Sys2Proof.Proofs

open Sys2Proof.Machine Sys2Proof.Safety

/-! ## The blocks' own rules -/

/-- R152, R153: the rules of a transmit queue. -/
def QueueOk (q : List QFrame) : Prop :=
  q.length ≤ 6 ∧
  (q.filter fun g => g.body.kind == .state).length ≤ 1 ∧
  (q.filter fun g => g.body.kind == .summary).length ≤ 1 ∧
  (q.filter fun g => g.body.kind == .line).length ≤ 1 ∧
  q.Pairwise (fun g h => g.rank ≤ h.rank) ∧
  ∀ g ∈ q, (g.renewed.map QBody.kind).getD g.body.kind = g.body.kind

/-- R116, R120: the rules of the result slots. -/
def SlotsOk (l : List Slot) : Prop := l.length = 4 ∧ ∀ x ∈ l, x.overrun = true → x.fresh = true

/-- R104: the rules of a crossing list. -/
def CrossingsOk (l : List Crossing) : Prop := l.length ≤ 8 ∧ l.Pairwise fun x y => x.time < y.time

/-- R137, R144, Table 7-2: the rules of the Bypass Controller. -/
def BypassOk (b : Bypass) : Prop :=
  b.hold =
    (match b.state with
     | .opening => true
     | .opened => true
     | .closing => b.gateOff.isSome
     | _ => b.coilRelease.isSome) ∧
  (b.contact.isSome = true → b.state = .opening ∨ b.state = .closing) ∧
  (b.gateOff.isSome = true → b.state = .closing ∧ b.contact = none) ∧
  (b.coilRelease.isSome = true → b.state = .closed)

/-- R181 to R187: the rules of the Parameter Store. -/
def StoreOk (st : Store) : Prop :=
  st.image.length = 64 ∧ st.working.length = 64 ∧
  (∀ w ∈ st.write, w.offset + w.data.length ≤ 64) ∧
  st.valid = imageValid st.working ∧ st.digest = configDigest st.working ∧
  st.differs = decide (st.image ≠ st.working)

theorem queueSound_iff (s : State) : QueueSound s ↔ QueueOk s.bus.queue := Iff.rfl
theorem slotsSound_iff (s : State) : SlotsSound s ↔ SlotsOk s.scanner.slots := Iff.rfl
theorem crossingsSound_iff (s : State) : CrossingsSound s ↔ CrossingsOk s.catcher.crossings := Iff.rfl
theorem bypassSound_iff (s : State) : BypassSound s ↔ BypassOk s.bypass := by
  unfold BypassSound BypassOk; rfl

theorem storeSound_iff (s : State) : StoreSound s ↔ StoreOk s.store := Iff.rfl

/-- R124: the counts that Cell Watch takes at the end of a pass. -/
def counts (w : Watch) : Nat × Nat × Nat × Nat × Nat × Nat × Bool :=
  (w.tripHigh, w.linkLow, w.heat, w.supply, w.input, w.inBand, w.passSeen)

/-- R123: the levels of the fault inputs. -/
def levels (w : Watch) : Option Bool × Option Bool := (w.bridgeFlt, w.cellFlt)

/-! ## The kinds of change -/

/-- What the changes may write beside the rest: the digest-difference counts and the line station's presence. A predicate of
one of the two is kept by the operations whose changes leave it out of their scope. -/
structure Scope where
  diff : Prop
  presence : Prop

/-- Every register may be written. -/
abbrev Scope.full : Scope := ⟨True, True⟩

/-- A predicate kept by each kind of change of a scope that the operations are made of, but for a change of epoch inside the
drive. -/
structure KeptByPartsIn (w : Scope) (P : State → Prop) : Prop where
  /-- The free values drawn. -/
  free : ∀ {s : State} (n : Nat), P s → P { s with freeCount := n }
  /-- A change of the Bus Interface that keeps the queue's rules; the isolation clock is set to the present time or kept. -/
  bus : ∀ {s : State} (f : Bif → Bif), (f s.bus).heard.length = s.bus.heard.length →
    (f s.bus).isoClock = s.bus.isoClock ∨ (f s.bus).isoClock = s.now →
    (QueueOk s.bus.queue → QueueOk (f s.bus).queue) → P s → P (s.onBus f)
  /-- A change of the Roster Unit that keeps the number of entries. -/
  roster : ∀ {s : State} (f : Roster → Roster), (f s.roster).entries.length = s.roster.entries.length →
    (f s.roster).diff = s.roster.diff ∨ w.diff → P s → P (s.onRoster f)
  /-- A change of the Round Controller that stays in the phase and the epoch and forgets no frame taken. -/
  round : ∀ {s : State} (f : Round → Round), (f s.round).phase = s.round.phase → (f s.round).epoch = s.round.epoch →
    (f s.round).phaseTimer = s.round.phaseTimer → (f s.round).resettle ≤ s.round.resettle →
    (f s.round).attempts.Sublist s.round.attempts → (s.round.firstTaken = true → (f s.round).firstTaken = true) →
    ((f s.round).lineLost = s.round.lineLost ∧ (f s.round).linePresent = s.round.linePresent) ∨ w.presence →
    P s → P (s.onRound f)
  /-- R45: a counted resettle. -/
  countResettle : ∀ {s : State}, P s →
    P (s.onRound fun r => { r with resettle := min (r.resettle + 1) (s.params.resettle + 1) })
  /-- R44: the SETTLE timer restarted. -/
  restartSettle : ∀ {s : State}, s.round.phase = .settling → P s → P s.restartSettle
  /-- R63, R65: a walk started in a phase that holds a plan. -/
  startWalk : ∀ {s : State}, s.round.phase.clearsPlan = false → P s → P s.startWalk
  /-- R65: an entry change taken by the Plan Unit. -/
  planEntryChange : ∀ {s : State} (i : Nat), P s → P (s.planEntryChange i)
  /-- R64: a read of the walk. -/
  walkOne : ∀ {s : State}, s.plan.build = .walking → P s → P s.walkOne
  /-- R67: the finishing step. -/
  finishWalk : ∀ {s : State}, s.plan.build = .finishing → P s → P s.finishWalk
  /-- R69: the candidate aged. -/
  age : ∀ {s : State} {c : Plan}, s.builtCandidate = some c → P s →
    P (s.onPlan fun u => { u with candidate := some (c.age s.now) })
  /-- R66: the candidate discarded. -/
  discard : ∀ {s : State}, P s → P (s.onPlan PlanUnit.discard)
  /-- R66, R79: the candidate discarded and the plan in force cleared. -/
  clearPlan : ∀ {s : State}, P s → P (s.onPlan fun u => { u.discard with inForce := none })
  /-- R76: a VIABLE candidate adopted in a phase that holds a plan. -/
  adopt : ∀ {s : State} {c : Plan} {d : Half}, s.viableCandidate = some (c, d) → s.round.phase.clearsPlan = false → P s →
    P (s.onPlan (PlanUnit.adoptPlan c))
  /-- R86: the switch record replaced. -/
  switchRecord : ∀ {s : State} (f : PlanUnit → Option SwitchRecord), P s →
    P (s.onPlan fun u => { u with switchRecord := f u })
  /-- A change of Cell Watch that leaves its counts and levels. -/
  watch : ∀ {s : State} (f : Watch → Watch), counts (f s.watch) = counts s.watch → levels (f s.watch) = levels s.watch →
    P s → P (s.onWatch f)
  /-- A change of the Bypass Controller that keeps its rules. -/
  bypass : ∀ {s : State} (f : Bypass → Bypass), (f s.bypass).feedback = s.bypass.feedback →
    (BypassOk s.bypass → BypassOk (f s.bypass)) → P s → P (s.onBypass f)
  /-- A change of the Line Port. -/
  port : ∀ {s : State} (f : Port → Port), P s → P (s.onPort f)
  /-- A change of the scanner in its mode. -/
  scanner : ∀ {s : State} (f : Scanner → Scanner), (f s.scanner).mode = s.scanner.mode →
    (SlotsOk s.scanner.slots → SlotsOk (f s.scanner).slots) → P s → P (s.onScanner f)
  /-- A change of the Catch Unit that neither begins nor ends a catch. -/
  catcher : ∀ {s : State} (f : CatchUnit → CatchUnit), (f s.catcher).active = s.catcher.active →
    (CrossingsOk s.catcher.crossings → CrossingsOk (f s.catcher).crossings) → P s → P (s.onCatcher f)
  /-- R102, R111: a catch begun, only at a line station in CATCHING, or ended, the scanner's mode with it. -/
  catching : ∀ {s : State} (f : CatchUnit → CatchUnit) (g : Scanner → Scanner),
    ((f s.catcher).active = true → s.isLine = true ∧ s.round.phase = .catching) →
    ((g s.scanner).mode = if (f s.catcher).active then .continuous else .single) →
    (CrossingsOk s.catcher.crossings → CrossingsOk (f s.catcher).crossings) →
    (SlotsOk s.scanner.slots → SlotsOk (g s.scanner).slots) → P s → P ((s.onCatcher f).onScanner g)
  /-- Table 2-3: the blocks' fields at an entry to a phase, where a catch is no longer ACTIVE. -/
  blocks : ∀ {s : State} (p : Phase), (s.round.phase = .catching → (s.isLine && s.catcher.active) = false) →
    (p.outside = true → w.diff) → P s → P (s.blocksOnEntry p)
  /-- R29: a change of epoch in a phase that holds no plan. -/
  setEpochCleared : ∀ {s : State} (e : Half), s.round.phase.clearsPlan = true → P s → P (s.setEpoch e)

/-- A predicate kept by each kind of change of a scope, with the changes of epoch that end in TRIPPED or LOCKOUT. -/
structure KeptIn (w : Scope) (P : State → Prop) : Prop extends KeptByPartsIn w P where
  /-- R29, R35: a change of epoch with a trip under the attempt list rule. -/
  epochTrip : ∀ {s : State} (e : Half), P s → P ((s.setEpoch e).takeTrip)
  /-- R29: a change of epoch with the entry to a phase that clears the plan. -/
  epochEnter : ∀ {s : State} (e : Half) (p : Phase), p.clearsPlan = true → (p.outside = true → w.diff) → P s →
    P ((s.setEpoch e).enterBase p)

/-- A predicate kept by each kind of change, but for a change of epoch inside the drive, whatever registers it writes. -/
abbrev KeptByParts (P : State → Prop) : Prop := KeptByPartsIn .full P

/-- A predicate kept by each kind of change, whatever registers it writes. -/
abbrev Kept (P : State → Prop) : Prop := KeptIn .full P

/-! ## The queue's operations keep its rules (R152 to R154) -/

theorem queueOk_nil : QueueOk [] := by simp [QueueOk]

/-- A queue with frames taken out of it keeps the rules. -/
theorem QueueOk.sublist {q r : List QFrame} (hr : r.Sublist q) (h : QueueOk q) : QueueOk r := by
  obtain ⟨hl, h1, h2, h3, ho, hn⟩ := h
  exact ⟨Nat.le_trans hr.length_le hl, Nat.le_trans (hr.filter _).length_le h1, Nat.le_trans (hr.filter _).length_le h2,
    Nat.le_trans (hr.filter _).length_le h3, ho.sublist hr, fun g hg => hn g (hr.subset hg)⟩

/-- What the queue's rules read of a frame: its kind, and that a renewal is of it. -/
def SameKind (f : QFrame → QFrame) : Prop :=
  ∀ g, (f g).body.kind = g.body.kind ∧
    ((g.renewed.map QBody.kind).getD g.body.kind = g.body.kind →
      ((f g).renewed.map QBody.kind).getD (f g).body.kind = (f g).body.kind)

/-- Frames replaced in place by frames of their kind keep the rules. -/
theorem QueueOk.map {q : List QFrame} {f : QFrame → QFrame} (hf : SameKind f) (h : QueueOk q) : QueueOk (q.map f) := by
  have hcount (k : Kind) : ((q.map f).filter fun g => g.body.kind == k).length = (q.filter fun g => g.body.kind == k).length := by
    rw [List.filter_map, List.length_map]
    congr 2
    funext g
    simp [Function.comp, (hf g).1]
  obtain ⟨hl, h1, h2, h3, ho, hn⟩ := h
  refine ⟨by simpa using hl, hcount _ ▸ h1, hcount _ ▸ h2,
    hcount _ ▸ h3, ?_, ?_⟩
  · rw [List.pairwise_map]
    exact ho.imp fun hgh => by simpa [QFrame.rank, (hf _).1] using hgh
  · simp only [List.mem_map]
    rintro _ ⟨g, hg, rfl⟩
    exact (hf g).2 (hn g hg)

/-- R153: a frame taken up by a new one of its kind keeps the rules. -/
theorem takeUp_sameKind (b : QBody) : SameKind (QFrame.takeUp b) := by
  intro g
  unfold QFrame.takeUp
  by_cases hk : g.body.kind = b.kind
  · by_cases ha : g.inAttempt = true <;> simp [hk, ha]
  · simp [hk]

/-- The frames of a queue with one placed by its rank. -/
theorem mem_insertByRank {f g : QFrame} {q : List QFrame} : g ∈ insertByRank f q ↔ g = f ∨ g ∈ q := by
  induction q with
  | nil => simp [insertByRank]
  | cons x q ih => simp only [insertByRank]; split <;> simp [ih, or_left_comm]

/-- A frame placed by its rank counts once among the frames of a kind. -/
theorem filter_insertByRank_length (p : QFrame → Bool) (f : QFrame) (q : List QFrame) :
    ((insertByRank f q).filter p).length = (q.filter p).length + if p f then 1 else 0 := by
  induction q with
  | nil => cases hp : p f <;> simp [insertByRank, List.filter, hp]
  | cons x q ih =>
    simp only [insertByRank]
    split
    · cases hx : p x
      · simp only [List.filter, hx, ih]
      · simp only [List.filter, hx, List.length_cons, ih, Nat.add_right_comm]
    · cases hp : p f <;> cases hx : p x <;> simp [List.filter, hp, hx]

/-- A frame placed by its rank keeps the order of rank. -/
theorem insertByRank_pairwise (f : QFrame) {q : List QFrame} (h : q.Pairwise fun g h => g.rank ≤ h.rank) :
    (insertByRank f q).Pairwise fun g h => g.rank ≤ h.rank := by
  induction q with
  | nil => simp [insertByRank]
  | cons x q ih =>
    obtain ⟨hx, hq⟩ := List.pairwise_cons.mp h
    simp only [insertByRank]
    split
    next hle =>
      refine List.pairwise_cons.mpr ⟨fun y hy => ?_, ih hq⟩
      obtain rfl | hy := mem_insertByRank.mp hy
      · exact hle
      · exact hx y hy
    next hlt =>
      refine List.pairwise_cons.mpr ⟨fun y hy => ?_, h⟩
      obtain rfl | hy := List.mem_cons.mp hy
      · omega
      · exact Nat.le_trans (by omega) (hx y hy)

/-- R152: a frame that joins a queue with room, none of its single-copy kind held, keeps the rules. -/
theorem QueueOk.insert {q : List QFrame} (b : QBody) (now : Time) (hroom : q.length ≤ 5)
    (hfree : b.kind.single = true → ∀ g ∈ q, g.body.kind ≠ b.kind) (h : QueueOk q) :
    QueueOk (insertByRank (QFrame.fresh b now) q) := by
  obtain ⟨hl, h1, h2, h3, ho, hn⟩ := h
  have hcount (k : Kind) (hk : k.single = true) (hle : (q.filter fun g => g.body.kind == k).length ≤ 1) :
      ((insertByRank (QFrame.fresh b now) q).filter fun g => g.body.kind == k).length ≤ 1 := by
    rw [filter_insertByRank_length]
    by_cases hb : b.kind = k
    · have hnone : q.filter (fun g => g.body.kind == k) = [] := by
        rw [List.filter_eq_nil_iff]
        intro g hg
        simpa [hb] using hfree (hb ▸ hk) g hg
      rw [hnone]
      split <;> simp
    · simpa [QFrame.fresh, hb] using hle
  refine ⟨by rw [insertByRank_length]; omega, hcount _ rfl h1, hcount _ rfl h2, hcount _ rfl h3,
    insertByRank_pairwise _ ho, fun g hg => ?_⟩
  obtain rfl | hg := mem_insertByRank.mp hg
  · rfl
  · exact hn g hg

/-- R154: discarding a frame only takes out of the queue. -/
theorem dropNewest_sublist (k : Nat) (q : List QFrame) : (dropNewest k q).Sublist q := by
  unfold dropNewest
  simpa using (List.eraseP_sublist (p := fun g : QFrame => !g.inAttempt && g.rank == k) (l := q.reverse)).reverse

/-- R154: with a frame other than an ALARM waiting, one of the worst rank is discarded. -/
theorem dropNewest_worst_length {q : List QFrame} (h : q.any (fun g => !g.inAttempt && g.body.kind != .alarm) = true) :
    (dropNewest (worstRank q) q).length + 1 = q.length := by
  obtain ⟨g, hg, hwaits⟩ := List.any_eq_true.mp h
  simp only [Bool.and_eq_true, Bool.not_eq_true', bne_iff_ne, ne_eq] at hwaits
  obtain ⟨hout, hkind⟩ := hwaits
  have hpos : 1 ≤ worstRank q :=
    Nat.le_trans (Nat.one_le_iff_ne_zero.mpr fun h0 => hkind (rank_eq_zero_iff.mp h0) : 1 ≤ g.rank)
      (worstRank_le_iff.mp (Nat.le_refl _) g hg hout)
  obtain ⟨x, hx, hxout, hxrank⟩ : ∃ x ∈ q, x.inAttempt = false ∧ x.rank = worstRank q := by
    refine Classical.byContradiction fun hnone => ?_
    have : worstRank q ≤ worstRank q - 1 := worstRank_le_iff.mpr fun x hx hxout => by
      have hle := worstRank_le_iff.mp (Nat.le_refl (worstRank q)) x hx hxout
      have hne : x.rank ≠ worstRank q := fun he => hnone ⟨x, hx, hxout, he⟩
      omega
    omega
  unfold dropNewest
  have hqpos : 0 < q.length := List.length_pos_of_mem hx
  rw [List.length_reverse, List.length_eraseP_of_mem (a := x) (by simpa using hx) (by simp [hxout, hxrank]),
    List.length_reverse]
  omega

/-- R152 to R154: a frame queued keeps the rules. -/
theorem QueueOk.enqueueFrame {q : List QFrame} (now : Time) (b : QBody) (h : QueueOk q) :
    QueueOk (enqueueFrame now b q) := by
  unfold Machine.enqueueFrame
  split
  next => exact h.map (takeUp_sameKind b)
  next hsingle =>
  have hfree : b.kind.single = true → ∀ g ∈ q, g.body.kind ≠ b.kind := by
    intro hs g hg hk
    exact hsingle (by simp only [hs, Bool.true_and, List.any_eq_true]; exact ⟨g, hg, by simp [hk]⟩)
  split
  next hroom => exact h.insert b now (by simpa [Config.queueCapacity] using Nat.le_of_lt_succ hroom) hfree
  next =>
  split
  next => exact h
  next =>
  split
  next hany =>
    have hdrop := dropNewest_worst_length hany
    have hl : q.length ≤ 6 := h.1
    refine (h.sublist (dropNewest_sublist _ q)).insert b now (by omega) fun hs g hg => ?_
    exact hfree hs g ((dropNewest_sublist _ q).subset hg)
  next => exact h

end Sys2Proof.Proofs

namespace Sys2Proof.Proofs

open Sys2Proof.Machine Sys2Proof.Safety

/-! ## The other blocks' operations keep their rules -/

/-- R137 to R139: the updates of the Bypass Controller that hold whatever stood before. -/
theorem bypassOk_closesNow (now contact : Time) (b : Bypass) : BypassOk (b.closesNow now contact) := by
  simp [BypassOk, Bypass.closesNow]

theorem bypassOk_closedNow (b : Bypass) : BypassOk b.closedNow := by
  simp [BypassOk, Bypass.closedNow]

theorem bypassOk_init : BypassOk Bypass.init := by simp [BypassOk, Bypass.init]

/-- Outside CLOSING no gate-off wait runs. -/
theorem BypassOk.gateOff_none {b : Bypass} (h : BypassOk b) (hs : b.state ≠ .closing) : b.gateOff = none := by
  refine Classical.byContradiction fun hne => ?_
  exact hs (h.2.2.1 (Option.isSome_iff_ne_none.mpr hne)).1

/-- Outside CLOSED no coil release of a pin reset is under way. -/
theorem BypassOk.coilRelease_none {b : Bypass} (h : BypassOk b) (hs : b.state ≠ .closed) : b.coilRelease = none := by
  refine Classical.byContradiction fun hne => ?_
  exact hs (h.2.2.2 (Option.isSome_iff_ne_none.mpr hne))

/-- Outside OPENING and CLOSING the CONTACT timer does not run. -/
theorem BypassOk.contact_none {b : Bypass} (h : BypassOk b) (h1 : b.state ≠ .opening) (h2 : b.state ≠ .closing) :
    b.contact = none := by
  refine Classical.byContradiction fun hne => ?_
  exact (h.2.1 (Option.isSome_iff_ne_none.mpr hne)).elim h1 h2

/-- R137: in CLOSING the coil is held just while the gate-off wait runs. -/
theorem BypassOk.hold_closing {b : Bypass} (h : BypassOk b) (hs : b.state = .closing) : b.hold = b.gateOff.isSome := by
  have := h.1
  rwa [hs] at this

/-- R144: in OPEN the coil is held. -/
theorem BypassOk.hold_opened {b : Bypass} (h : BypassOk b) (hs : b.state = .opened) : b.hold = true := by
  have := h.1
  rwa [hs] at this

/-- R138: an open begun with the contactor closed keeps the rules. -/
theorem BypassOk.opens {b : Bypass} (now contact : Time) (h : BypassOk b) (hs : b.state ≠ .closing) :
    BypassOk (b.opens now contact) := by
  simp [BypassOk, Bypass.opens, h.gateOff_none hs]

/-- R137: a close taken in OPEN keeps the rules. -/
theorem BypassOk.closesGated {b : Bypass} (now : Time) (h : BypassOk b) (hs : b.state = .opened) :
    BypassOk (b.closesGated now) := by
  simp [BypassOk, Bypass.closesGated, h.hold_opened hs, h.contact_none (by simp [hs]) (by simp [hs]),
    h.coilRelease_none (by simp [hs])]

/-- R136: an open confirmed keeps the rules. -/
theorem BypassOk.opened {b : Bypass} (h : BypassOk b) (hs : b.state = .opening) :
    BypassOk { b with state := .opened, contact := none } := by
  have hhold : b.hold = true := by
    have := h.1
    rwa [hs] at this
  simp [BypassOk, hhold, h.gateOff_none (by simp [hs]), h.coilRelease_none (by simp [hs])]

/-- R140: an open not confirmed keeps the rules. -/
theorem BypassOk.stuckClosed {b : Bypass} (h : BypassOk b) (hs : b.state = .opening) :
    BypassOk { b with state := .stuckClosed, hold := false, contact := none } := by
  simp [BypassOk, h.gateOff_none (by simp [hs]), h.coilRelease_none (by simp [hs])]

/-- R140: a close not confirmed keeps the rules. -/
theorem BypassOk.stuckOpen {b : Bypass} (h : BypassOk b) (hs : b.state = .closing) (hc : b.contact.isSome = true) :
    BypassOk { b with state := .stuckOpen, contact := none, pending := none } := by
  have hg : b.gateOff = none := by
    refine Classical.byContradiction fun hne => ?_
    have := (h.2.2.1 (Option.isSome_iff_ne_none.mpr hne)).2
    simp [this] at hc
  simp [BypassOk, h.hold_closing hs, hg, h.coilRelease_none (by simp [hs])]

/-- R142: STUCK_CLOSED taken as CLOSED keeps the rules. -/
theorem BypassOk.closed_of_stuckClosed {b : Bypass} (h : BypassOk b) (hs : b.state = .stuckClosed) :
    BypassOk { b with state := .closed } := by
  have hhold : b.hold = b.coilRelease.isSome := by
    have := h.1
    rwa [hs] at this
  simp [BypassOk, hhold, h.gateOff_none (by simp [hs]), h.contact_none (by simp [hs]) (by simp [hs])]

/-- R137: the gate-off wait's end keeps the rules. -/
theorem BypassOk.gateOffEnds {b : Bypass} (now contact : Time) (h : BypassOk b) (hg : b.gateOff.isSome = true) :
    BypassOk (b.gateOffEnds now contact) := by
  have hs := (h.2.2.1 hg).1
  simp [BypassOk, Bypass.gateOffEnds, hs, h.coilRelease_none (by simp [hs])]

/-- R184: the coil's fall keeps the rules. -/
theorem BypassOk.coilFalls {b : Bypass} (h : BypassOk b) (hc : b.coilRelease.isSome = true) :
    BypassOk { b with hold := false, coilRelease := none } := by
  have hs := h.2.2.2 hc
  simp [BypassOk, hs, h.gateOff_none (by simp [hs]), h.contact_none (by simp [hs]) (by simp [hs])]

/-- A slot among those held, with the others kept, keeps the rules. -/
theorem SlotsOk.set {l : List Slot} (i : Nat) {x : Slot} (hx : x.overrun = true → x.fresh = true) (h : SlotsOk l) :
    SlotsOk (setAt l i x) := by
  refine ⟨by simpa [setAt] using h.1, fun y hy => ?_⟩
  obtain hy | rfl := List.mem_or_eq_of_mem_set hy
  · exact h.2 y hy
  · exact hx

/-- R120: every slot taken keeps the rules. -/
theorem SlotsOk.takeAll {l : List Slot} (h : SlotsOk l) : SlotsOk (l.map Slot.take) := by
  refine ⟨by simpa using h.1, fun y hy => ?_⟩
  obtain ⟨x, -, rfl⟩ := List.mem_map.mp hy
  simp [Slot.take]

@[simp] theorem startPass_mode (now : Time) (c : Scanner) : (c.startPass now).mode = c.mode := rfl
@[simp] theorem startPass_slots (now : Time) (c : Scanner) : (c.startPass now).slots = c.slots := rfl

@[simp] theorem trigger_mode (now : Time) (k : Trigger) (c : Scanner) : (c.trigger now k).mode = c.mode := by
  unfold Scanner.trigger; split <;> rfl
@[simp] theorem trigger_slots (now : Time) (k : Trigger) (c : Scanner) : (c.trigger now k).slots = c.slots := by
  unfold Scanner.trigger; split <;> rfl

@[simp] theorem moveOn_mode (now : Time) (a : Activity) (c : Scanner) : (c.moveOn now a).mode = c.mode := by
  unfold Scanner.moveOn
  split
  · rfl
  · split <;> simp_all
@[simp] theorem moveOn_slots (now : Time) (a : Activity) (c : Scanner) : (c.moveOn now a).slots = c.slots := by
  unfold Scanner.moveOn
  split
  · rfl
  · split <;> rfl

/-- R117: a settings change keeps the slots. -/
@[simp] theorem request_slots (now : Time) (lo hi : Nat) (m : ScanMode) (w : Standby) (c : Scanner) :
    (c.request now lo hi m w).slots = c.slots := by
  unfold Scanner.request
  split
  · cases m <;> rfl
  · rfl

/-- R111 step 3: a scanner returned to the default line mode is SINGLE. -/
@[simp] theorem toDefault_mode (now : Time) (c : Scanner) : (c.toDefault now).mode = .single := by
  unfold Scanner.toDefault
  cases hm : c.mode
  · exact hm
  · rfl
@[simp] theorem toDefault_slots (now : Time) (c : Scanner) : (c.toDefault now).slots = c.slots := by
  unfold Scanner.toDefault
  split <;> simp

theorem crossingsOk_nil : CrossingsOk [] := by simp [CrossingsOk]

/-- R104: a crossing placed counts once. -/
theorem insertCrossing_length (x : Crossing) (l : List Crossing) : (insertCrossing x l).length = l.length + 1 := by
  induction l with
  | nil => rfl
  | cons y l ih => simp only [insertCrossing]; split <;> simp [ih]

theorem mem_insertCrossing {x z : Crossing} {l : List Crossing} : z ∈ insertCrossing x l ↔ z = x ∨ z ∈ l := by
  induction l with
  | nil => simp [insertCrossing]
  | cons y l ih => simp only [insertCrossing]; split <;> simp [ih, or_left_comm]

/-- R104: a crossing placed at a time no entry holds keeps the order of time. -/
theorem insertCrossing_pairwise {x : Crossing} {l : List Crossing} (hx : ∀ y ∈ l, y.time ≠ x.time)
    (h : l.Pairwise fun x y => x.time < y.time) : (insertCrossing x l).Pairwise fun x y => x.time < y.time := by
  induction l with
  | nil => simp [insertCrossing]
  | cons y l ih =>
    obtain ⟨hy, hl⟩ := List.pairwise_cons.mp h
    simp only [insertCrossing]
    split
    next hlt =>
      refine List.pairwise_cons.mpr ⟨fun z hz => ?_, ih (fun z hz => hx z (List.mem_cons_of_mem _ hz)) hl⟩
      obtain rfl | hz := mem_insertCrossing.mp hz
      · exact hlt
      · exact hy z hz
    next hge =>
      have hlt : x.time < y.time := Nat.lt_of_le_of_ne (Nat.not_lt.mp hge) (hx y List.mem_cons_self).symm
      refine List.pairwise_cons.mpr ⟨fun z hz => ?_, h⟩
      obtain rfl | hz := List.mem_cons.mp hz
      · exact hlt
      · exact Nat.lt_trans hlt (hy z hz)

theorem CrossingsOk.drop {l : List Crossing} (n : Nat) (h : CrossingsOk l) : CrossingsOk (l.drop n) :=
  ⟨Nat.le_trans (List.drop_sublist n l).length_le h.1, h.2.sublist (List.drop_sublist n l)⟩

/-- R104: a crossing entered keeps the rules. -/
theorem CrossingsOk.enter {l : List Crossing} {x : Crossing} (hx : ∀ y ∈ l, y.time ≠ x.time) (h : CrossingsOk l) :
    CrossingsOk (capCrossings (insertCrossing x l)) := by
  have hp := insertCrossing_pairwise hx h.2
  have hl := insertCrossing_length x l
  have h8 := h.1
  unfold capCrossings
  split
  next => exact ⟨by rw [List.length_drop]; omega, hp.sublist (List.drop_sublist 1 _)⟩
  next hle => exact ⟨by simpa [Config.crossingCapacity] using hle, hp⟩

/-- A frame of the queue replaced by one of its kind keeps the rules. -/
theorem QueueOk.replace {front rest : List QFrame} {g r : QFrame} (hk : r.body.kind = g.body.kind)
    (hr : (r.renewed.map QBody.kind).getD r.body.kind = r.body.kind) (h : QueueOk (front ++ g :: rest)) : QueueOk (front ++ r :: rest) := by
  obtain ⟨hl, h1, h2, h3, ho, hn⟩ := h
  have hcount (k : Kind) : ((front ++ r :: rest).filter fun g => g.body.kind == k).length =
      ((front ++ g :: rest).filter fun g => g.body.kind == k).length := by
    simp only [List.filter_append, List.length_append, List.filter_cons, hk]
    split <;> rfl
  have hrank : r.rank = g.rank := by simp [QFrame.rank, hk]
  refine ⟨by simpa using hl, hcount _ ▸ h1, hcount _ ▸ h2,
    hcount _ ▸ h3, ?_, ?_⟩
  · simpa [List.pairwise_append, List.pairwise_cons, hrank] using ho
  · intro x hx
    rw [List.mem_append, List.mem_cons] at hx
    obtain hx | rfl | hx := hx
    · exact hn x (by simp [hx])
    · exact hr
    · exact hn x (by simp [hx])

/-- R149: the head marked in its attempt keeps the rules. -/
theorem QueueOk.markHead {q : List QFrame} (h : QueueOk q) : QueueOk (markHead q) := by
  cases q with
  | nil => exact h
  | cons g rest => exact h.replace (front := []) (g := g) rfl (h.2.2.2.2.2 g List.mem_cons_self)

/-- The kind that a frame renewed in its attempt takes up is its own. -/
theorem QueueOk.renewed_kind {q : List QFrame} {g : QFrame} {b : QBody} (h : QueueOk q) (hg : g ∈ q)
    (hb : g.renewed = some b) : b.kind = g.body.kind := by
  simpa [hb] using h.2.2.2.2.2 g hg

/-- R149, R151, R153: the queue after a completed or missed attempt: one frame gone, or renewed. -/
theorem leaveQueue_cases (q : List QFrame) :
    leaveQueue q = q ∨ ∃ front g rest, q = front ++ g :: rest ∧
      (leaveQueue q = front ++ rest ∨ ∃ b, g.renewed = some b ∧ leaveQueue q = front ++ g.asRenewed b :: rest) := by
  induction q with
  | nil => exact .inl rfl
  | cons g rest ih =>
    by_cases ha : g.inAttempt = true
    · refine .inr ⟨[], g, rest, rfl, ?_⟩
      cases hr : g.renewed with
      | none => exact .inl (by simp [leaveQueue, ha, hr])
      | some b => exact .inr ⟨b, rfl, by simp [leaveQueue, ha, hr]⟩
    · have he : leaveQueue (g :: rest) = g :: leaveQueue rest := by simp [leaveQueue, ha]
      rw [he]
      obtain ih | ⟨front, x, back, rfl, ih⟩ := ih
      · exact .inl (by rw [ih])
      · refine .inr ⟨g :: front, x, back, rfl, ?_⟩
        obtain ih | ⟨b, hb, ih⟩ := ih
        · exact .inl (by rw [ih]; rfl)
        · exact .inr ⟨b, hb, by rw [ih]; rfl⟩

/-- R149, R151, R153: the queue after a completed or missed attempt keeps the rules. -/
theorem QueueOk.leaveQueue {q : List QFrame} (h : QueueOk q) : QueueOk (leaveQueue q) := by
  obtain he | ⟨front, g, rest, rfl, he | ⟨b, hb, he⟩⟩ := leaveQueue_cases q
  · rwa [he]
  · rw [he]
    exact h.sublist ((List.sublist_cons_self g rest).append_left front)
  · rw [he]
    exact h.replace (h.renewed_kind (by simp) hb) rfl

/-- R150, R153: the queue after a collision: one frame dropped, or kept as it is sent next. -/
theorem collideQueue_cases (q : List QFrame) :
    collideQueue q = q ∨ ∃ front g rest, q = front ++ g :: rest ∧ collideQueue q = front ++ g.collided.toList ++ rest := by
  induction q with
  | nil => exact .inl rfl
  | cons g rest ih =>
    by_cases ha : g.inAttempt = true
    · exact .inr ⟨[], g, rest, rfl, by simp [collideQueue, ha]⟩
    · have he : collideQueue (g :: rest) = g :: collideQueue rest := by simp [collideQueue, ha]
      rw [he]
      obtain ih | ⟨front, x, back, rfl, ih⟩ := ih
      · exact .inl (by rw [ih])
      · exact .inr ⟨g :: front, x, back, rfl, by rw [ih]; rfl⟩

/-- R150, R153: a frame after a collision is of its kind, and no renewal waits on it. -/
theorem collided_some {g r : QFrame} (h : g.collided = some r)
    (hk : (g.renewed.map QBody.kind).getD g.body.kind = g.body.kind) : r.body.kind = g.body.kind ∧ r.renewed = none := by
  unfold QFrame.collided at h
  split at h
  next b hb =>
    obtain rfl := Option.some.inj h
    exact ⟨by simpa [QFrame.asRenewed, hb] using hk, rfl⟩
  next hnone =>
    split at h
    · simp at h
    · obtain rfl := Option.some.inj h
      exact ⟨rfl, hnone⟩

/-- R150, R153: the queue after a collision keeps the rules. -/
theorem QueueOk.collideQueue {q : List QFrame} (h : QueueOk q) : QueueOk (collideQueue q) := by
  obtain he | ⟨front, g, rest, rfl, he⟩ := collideQueue_cases q
  · rwa [he]
  · rw [he]
    cases hc : g.collided with
    | none => simpa using h.sublist ((List.sublist_cons_self g rest).append_left front)
    | some r =>
      obtain ⟨hk, hr⟩ := collided_some hc (h.2.2.2.2.2 g (by simp))
      simpa using h.replace hk (by simp [hr])

end Sys2Proof.Proofs

namespace Sys2Proof.Proofs

open Sys2Proof.Machine Sys2Proof.Safety

/-- What holds with and without a change holds of the change made on a condition. -/
theorem when_keeps {P : State → Prop} {s : State} {c : Bool} {f : State → State} (hs : P s)
    (hf : c = true → P (f s)) : P (s.when c f) := State.when_induct s c f hs hf

namespace KeptByPartsIn

variable {w : Scope} {P : State → Prop} (h : KeptByPartsIn w P) {s : State}
include h

/-! ## Frames, records and the restart state -/

theorem enqueue (b : QBody) (hs : P s) : P (s.enqueue b) := by
  unfold State.enqueue
  split
  · exact hs
  · exact h.bus _ rfl (.inl rfl) (fun hq => hq.enqueueFrame _ _) hs

theorem queueState (hs : P s) : P s.queueState := h.enqueue _ hs

theorem queueSummary (hs : P s) : P s.queueSummary := by
  unfold State.queueSummary
  split
  · exact hs
  · exact h.roster _ rfl (.inl rfl) (h.enqueue _ hs)

theorem emptyQueue (hs : P s) : P s.emptyQueue := h.bus _ rfl (.inl rfl) (fun _ => queueOk_nil) hs

theorem withdrawSteps (hs : P s) : P s.withdrawSteps :=
  h.bus _ rfl (.inl rfl) (fun hq => hq.sublist List.filter_sublist) hs

theorem changeRecord (f : Port → Port) (hs : P s) : P (s.changeRecord f) := h.port _ hs

theorem clearRecord (hs : P s) : P s.clearRecord := when_keeps hs fun _ => h.changeRecord _ hs

theorem buildRecord (c : Plan) (hs : P s) : P (s.buildRecord c) := when_keeps hs fun _ => h.changeRecord _ hs

theorem withdrawSwitch (hs : P s) : P s.withdrawSwitch := h.port _ (h.changeRecord _ hs)

theorem switchRecords (c : Plan) (hs : P s) : P (s.switchRecords c) := h.port _ (h.changeRecord _ hs)

theorem endCatch (o : CatchOutcome) (f : Int) (a : Option Half) (t : Time) (hs : P s) : P (s.endCatch o f a t) :=
  h.catching (fun c => (c.decide s.round.epoch o f a t).stopped) (Scanner.toDefault s.now)
    (by simp [CatchUnit.stopped]) (by simp [CatchUnit.stopped]) id (by simp) hs

theorem abandonCatch (hs : P s) : P s.abandonCatch :=
  when_keeps hs fun _ =>
    h.catching CatchUnit.stopped (Scanner.toDefault s.now) (by simp [CatchUnit.stopped]) (by simp [CatchUnit.stopped]) id
      (by simp) hs

theorem setExpired (hs : P s) : P s.setExpired := by
  unfold State.setExpired
  split
  · exact h.endCatch _ _ _ _ hs
  · exact h.catcher _ rfl id hs

theorem overdueExpiry (hs : P s) : P s.overdueExpiry :=
  when_keeps hs fun _ => h.catcher _ rfl id (h.setExpired hs)

end KeptByPartsIn

@[simp] theorem budgetTripped_active (now budget : Time) (b : Bool) (c : CatchUnit) :
    (c.budgetTripped now budget b).active = c.active := by
  unfold CatchUnit.budgetTripped; repeat' split
  all_goals rfl

@[simp] theorem budgetTripped_crossings (now budget : Time) (b : Bool) (c : CatchUnit) :
    (c.budgetTripped now budget b).crossings = c.crossings := by
  unfold CatchUnit.budgetTripped; repeat' split
  all_goals rfl

/-- R110: no catch is ACTIVE at the line station. -/
def CatchIdle (s : State) : Prop := (s.isLine && s.catcher.active) = false

theorem CatchIdle.congr {r s : State} (hl : r.isLine = s.isLine) (hc : r.catcher.active = s.catcher.active)
    (h : CatchIdle s) : CatchIdle r := by
  unfold CatchIdle
  rw [hl, hc]
  exact h

/-- R110: after an abandoned catch none is ACTIVE. -/
theorem abandonCatch_idle (s : State) : CatchIdle s.abandonCatch := by
  unfold CatchIdle State.abandonCatch
  cases hc : s.isLine && s.catcher.active
  · exact hc
  · simp [CatchUnit.stopped]

/-- R99, R101: the context saved leaves no catch ACTIVE. -/
theorem saveContext_idle {s : State} (h : CatchIdle s) : CatchIdle s.saveContext :=
  when_keeps h fun _ =>
    (abandonCatch_idle (s.onCatcher fun c => { c with context := s.tripContext })).congr
      (by simp [State.isLine]) (by simp [CatchUnit.resetRecord])

/-- R110: once CATCHING is left no catch is ACTIVE. -/
theorem catchIdle_on_entry (p : Phase) {s : State} (h : s.round.phase = .catching) :
    CatchIdle ((((s.leaveArming p).leaveCatching).leaveRevising).contextOnEntry p) := by
  have hleft : CatchIdle (s.leaveArming p).leaveCatching := by
    rw [State.leaveCatching, State.leaveArming_frame .. |>.2.2.2.2.1]
    simpa [h] using abandonCatch_idle (s.leaveArming p)
  have hrev : CatchIdle ((s.leaveArming p).leaveCatching).leaveRevising :=
    hleft.congr (by simp [State.isLine]) (by simp)
  exact when_keeps hrev fun _ => saveContext_idle hrev

namespace KeptByPartsIn

variable {w : Scope} {P : State → Prop} (h : KeptByPartsIn w P) {s : State}
include h

theorem saveContext (hs : P s) : P s.saveContext :=
  when_keeps hs fun _ =>
    h.clearRecord (h.catcher _ (by simp [CatchUnit.resetRecord]) (by simp [CatchUnit.resetRecord, crossingsOk_nil])
      (h.abandonCatch (h.catcher _ rfl id hs)))

/-! ## Entry to a phase -/

theorem leaveArming (p : Phase) (hs : P s) : P (s.leaveArming p) :=
  when_keeps hs fun _ => by
    have hw : P ((s.onWatch fun w => { w with check := .idle, sentArmed := false, sentRefused := false }).onPort
        fun q => { q with stepDecision := none }) := h.port _ (h.watch _ rfl rfl hs)
    exact when_keeps hw fun _ => h.withdrawSteps hw

theorem leaveCatching (hs : P s) : P s.leaveCatching := when_keeps hs fun _ => h.abandonCatch hs

theorem leaveRevising (hs : P s) : P s.leaveRevising := when_keeps hs fun _ => h.withdrawSwitch hs

theorem contextOnEntry (p : Phase) (hs : P s) : P (s.contextOnEntry p) :=
  when_keeps hs fun _ => h.saveContext hs

theorem framesOnEntry (p0 p : Phase) (hs : P s) : P (s.framesOnEntry p0 p) := by
  have h1 : P (s.when p.outside State.emptyQueue) := when_keeps hs fun _ => h.emptyQueue hs
  have h2 := h.queueState h1
  exact when_keeps h2 fun _ => h.queueSummary h2

theorem walkOnEntry {p : Phase} (hp : s.round.phase = p) (hs : P s) : P (s.walkOnEntry p) := by
  cases p
  case settling => exact when_keeps hs fun _ => h.startWalk (by rw [hp]; rfl) hs
  case planning =>
    exact when_keeps (f := fun s => (s.onPlan PlanUnit.discard).startWalk) hs fun _ =>
      h.startWalk (s := s.onPlan PlanUnit.discard) (by simp [hp, Phase.clearsPlan]) (h.discard hs)
  case revising => exact when_keeps hs fun _ => h.startWalk (by rw [hp]; rfl) hs
  all_goals exact hs

theorem enterBase (p : Phase) (ho : p.outside = true → w.diff) (hs : P s) : P (s.enterBase p) := by
  have h1 := h.contextOnEntry p (h.leaveRevising (h.leaveCatching (h.leaveArming p hs)))
  have h2 := h.blocks p (fun hp => catchIdle_on_entry p (by simpa using hp)) ho h1
  exact h.walkOnEntry (by simp [State.blocksOnEntry, Round.onEntry]) (h.framesOnEntry _ p h2)

/-! ## Commands to the bypass and the arming check -/

theorem timeRest (c : Condition) (hs : P s) : P (s.timeRest c) := h.watch _ rfl rfl hs

theorem writeEntry (i : Nat) (e : RosterEntry) (hs : P s) : P (s.writeEntry i e) :=
  h.roster _ (by simp [Roster.withEntries, setAt]) (.inl rfl) hs

theorem resettle (hs : P s) : P s.resettle := by
  unfold State.resettle
  dsimp only
  split <;> exact h.enterBase _ nofun (h.countResettle hs)

theorem takeTrip
    (hr : ∀ {r : State}, (pruneAttempts r.now (sec r.params.window) r.round.attempts).length < r.params.rounds → P r →
      P (r.onRound fun x => { x with
        attempts := recordAttempt r.now (pruneAttempts r.now (sec r.params.window) r.round.attempts) }))
    (hs : P s) : P s.takeTrip := by
  by_cases hrounds : s.params.rounds ≤ (pruneAttempts s.now (sec s.params.window) s.round.attempts).length
  · rw [State.takeTrip_lockout s hrounds]
    exact h.enterBase _ nofun (h.round _ rfl rfl rfl (Nat.le_refl _) (List.dropWhile_sublist _) id (.inl ⟨rfl, rfl⟩) hs)
  · rw [State.takeTrip_tripped s (Nat.lt_of_not_le hrounds)]
    exact h.enterBase _ nofun (hr (Nat.lt_of_not_le hrounds) hs)

/-- A predicate that every change of epoch and every recorded trip keeps is kept. -/
theorem kept (he : ∀ {r : State} (e : Half), P r → P (r.setEpoch e))
    (hr : ∀ {r : State}, (pruneAttempts r.now (sec r.params.window) r.round.attempts).length < r.params.rounds → P r →
      P (r.onRound fun x => { x with
        attempts := recordAttempt r.now (pruneAttempts r.now (sec r.params.window) r.round.attempts) })) : KeptIn w P :=
  { h with
    epochTrip := fun e hs => h.takeTrip hr (he e hs)
    epochEnter := fun e p _ hp hs => h.enterBase p hp (he e hs) }

end KeptByPartsIn

namespace KeptIn

variable {w : Scope} {P : State → Prop} (h : KeptIn w P) {s : State}
include h

theorem localAlarm (k : FaultClass) (hs : P s) : P (s.localAlarm k) := by
  unfold State.localAlarm
  split
  · exact hs
  · exact h.enqueue _ (h.epochTrip _ hs)

theorem lineStationLost (hs : P s) : P s.lineStationLost := by
  unfold State.lineStationLost
  split
  · exact h.localAlarm _ hs
  · exact h.localAlarm _ hs
  · exact h.enterBase _ nofun hs
  · exact h.enterBase _ nofun hs
  · exact h.enterBase _ nofun hs
  · exact h.enterBase _ nofun hs
  · exact h.enterBase _ nofun hs
  · exact hs

theorem checkPresence (hw : w.presence) (hs : P s) : P s.checkPresence := by
  unfold State.checkPresence
  split
  · exact h.round _ rfl rfl rfl (Nat.le_refl _) (List.Sublist.refl _) id (.inr hw) hs
  · split
    · exact h.lineStationLost (h.round _ rfl rfl rfl (Nat.le_refl _) (List.Sublist.refl _) id (.inr hw) hs)
    · exact hs

theorem cancelSwitch (hs : P s) : P s.cancelSwitch := when_keeps hs fun _ => h.withdrawSwitch hs

theorem entryChange (o : Origin) (hs : P s) : P (s.entryChange o) := by
  unfold State.entryChange
  split
  · exact hs
  · exact hs
  · exact hs
  · exact hs
  · exact hs
  · exact h.enterBase _ nofun hs
  · exact h.resettle hs
  · exact h.round _ rfl rfl rfl (Nat.le_refl _) (List.Sublist.refl _) id (.inl ⟨rfl, rfl⟩) hs
  · exact h.round _ rfl rfl rfl (Nat.le_refl _) (List.Sublist.refl _) id (.inl ⟨rfl, rfl⟩) hs
  · split
    · exact h.localAlarm _ hs
    · exact h.enterBase _ nofun hs
  · split
    · exact h.localAlarm _ hs
    · exact h.cancelSwitch hs

theorem handChange (o : Origin) (i : Nat) (hs : P s) : P (s.handChange o i) := h.entryChange o (h.planEntryChange i hs)

/-! ## Owner writes, marks and merges -/

theorem assertEntry (i : Nat) (c : Condition) (k : FaultClass) (hs : P s) : P (s.assertEntry i c k) :=
  h.queueSummary (h.handChange _ _ (h.timeRest _ (h.writeEntry _ _ hs)))

theorem requestWrite (c : Condition) (k : FaultClass) (hs : P s) : P (s.requestWrite c k) := by
  unfold State.requestWrite
  split
  · split
    · exact hs
    · exact h.assertEntry _ _ _ hs
  · exact hs

theorem followFaulted (hs : P s) : P s.followFaulted := when_keeps hs fun _ => h.requestWrite _ _ hs

theorem ownerWrite (c : Condition) (k : FaultClass) (hs : P s) : P (s.ownerWrite c k) :=
  h.followFaulted (h.requestWrite c k hs)

theorem checkIndex (i : Nat) (hs : P s) : P (s.checkIndex i) :=
  when_keeps hs fun _ => h.queueSummary (h.handChange _ _ (h.writeEntry _ _ hs))

theorem checkIndices (l : List Nat) (hs : P s) : P (s.checkIndices l) := by
  unfold State.checkIndices
  induction l generalizing s with
  | nil => exact hs
  | cons i l ih => exact ih (h.checkIndex i hs)

theorem silenceCheck (hs : P s) : P s.silenceCheck := when_keeps hs fun _ => h.checkIndices _ hs

theorem silenceCheckOf (n : Nat) (hs : P s) : P (s.silenceCheckOf n) :=
  when_keeps hs fun _ => h.checkIndices _ hs

theorem answer (hs : P s) : P s.answer := by
  unfold State.answer
  split
  · exact hs
  · split
    · exact h.roster _ rfl (.inl rfl) hs
    · exact h.roster _ rfl (.inl rfl) (h.queueSummary hs)

theorem answerTick (hs : P s) : P s.answerTick := by
  unfold State.answerTick
  dsimp only
  split
  · exact h.roster _ rfl (.inl rfl) (h.queueSummary (h.roster _ rfl (.inl rfl) hs))
  · exact h.roster _ rfl (.inl rfl) hs

theorem handMerge (l : List Nat) (hs : P s) : P (s.handMerge l) := by
  cases l with
  | nil => exact hs
  | cons i _ => exact h.handChange _ _ hs

theorem mergeSummary (items : List SummaryItem) (hs : P s) : P (s.mergeSummary items) := by
  unfold State.mergeSummary
  split
  · split
    · have hm := h.handMerge (mergeFrom s.ownedIndex s.now 1 ‹_› s.roster.entries).changed
        (h.roster (fun r => { r.withEntries s.now (mergeFrom s.ownedIndex s.now 1 ‹_› s.roster.entries).entries with
          mismatch := (mergeFrom s.ownedIndex s.now 1 ‹_› s.roster.entries).mismatch })
          (by simp [Roster.withEntries, mergeFrom_length]) (.inl rfl) hs)
      exact when_keeps hm fun _ => h.answer hm
    · exact hs
  · exact hs

/-! ## The arming check's answers and the Bypass Controller -/

theorem enqueueStep (code reason : Byte) (hs : P s) : P (s.enqueueStep code reason) := by
  unfold State.enqueueStep
  split
  · exact h.enqueue _ hs
  · exact hs

theorem checkArmed (hs : P s) : P s.checkArmed :=
  h.watch _ rfl rfl (when_keeps hs fun _ => h.enqueueStep _ _ hs)

theorem checkRefused (reason : Byte) (hs : P s) : P (s.checkRefused reason) :=
  h.watch _ rfl rfl (when_keeps hs fun _ => h.enqueueStep _ _ hs)

theorem trigger (now : Time) (k : Trigger) (hs : P s) : P (s.onScanner (Scanner.trigger now k)) :=
  h.scanner _ (by simp) (by simp) hs

theorem senseStep (hs : P s) : P s.senseStep := h.trigger _ .arm (h.watch _ rfl rfl hs)

theorem confirmOpen (hs : P s) : P s.confirmOpen := when_keeps hs fun _ => h.senseStep hs

theorem confirmClosed (hs : P s) : P s.confirmClosed := by
  have h1 : P (s.when s.faultedWithLatch fun s => s.requestWrite .bypassed s.watch.leading) :=
    when_keeps hs fun _ => h.requestWrite _ _ hs
  exact when_keeps h1 fun _ => h.checkArmed h1

omit h in
theorem counts_endCheck (w : Watch) : counts w.endCheck = counts w := by
  unfold Watch.endCheck
  split <;> rfl

omit h in
theorem levels_endCheck (w : Watch) : levels w.endCheck = levels w := by
  unfold Watch.endCheck
  split <;> rfl

theorem latchLeading_endCheck (k : FaultClass) (hs : P s) : P (s.onWatch fun w => (w.latchLeading k).endCheck) :=
  h.watch _ (counts_endCheck _) (levels_endCheck _) hs

theorem reportStuckOpen (hs : P s) : P s.reportStuckOpen := by
  have h1 := h.ownerWrite .faulted FaultClass.bypass (h.latchLeading_endCheck FaultClass.bypass hs)
  exact when_keeps h1 fun _ => h.localAlarm _ h1

theorem reportClosedFault (hs : P s) : P s.reportClosedFault := by
  unfold State.reportClosedFault
  split
  · exact h.localAlarm _ (h.ownerWrite _ _ (h.latchLeading_endCheck _ hs))
  · exact h.watch _ (counts_endCheck _) (levels_endCheck _) hs

theorem openCmd (p : Purpose) (hs : P s) : P (s.openCmd p) := by
  unfold State.openCmd
  split
  · exact hs
  · split
    next hb => exact h.bypass _ rfl (fun ho => ho.opens _ _ (by simp [hb])) hs
    next hb => exact h.bypass _ rfl (fun ho => ho.opens _ _ (by simp [hb])) hs
    next => exact hs
    next => exact h.confirmOpen hs
    next => exact h.bypass _ rfl id hs
    next => exact hs

theorem closeCmd (hs : P s) : P s.closeCmd := by
  unfold State.closeCmd
  split
  · exact hs
  · split
    next => exact h.confirmClosed hs
    next hb => exact h.confirmClosed (h.bypass _ rfl (fun ho => ho.closed_of_stuckClosed hb) hs)
    next => exact h.bypass _ rfl (fun _ => bypassOk_closesNow _ _ _) hs
    next hb => exact h.bypass _ rfl (fun ho => ho.closesGated _ hb) hs
    next => exact h.bypass _ rfl id hs
    next => exact hs

theorem refuseStuckClosed (hs : P s) : P s.refuseStuckClosed :=
  h.closeCmd (h.ownerWrite _ _ (h.watch _ rfl rfl (h.checkRefused _ hs)))

theorem reportStuckClosed (hs : P s) : P s.reportStuckClosed := by
  unfold State.reportStuckClosed
  split
  · exact h.refuseStuckClosed hs
  · exact h.reportClosedFault hs

theorem takePending (hs : P s) : P s.takePending := by
  unfold State.takePending
  split
  · have h1 : P (s.onBypass fun b => { b with pending := none }) := h.bypass _ rfl id hs
    exact when_keeps h1 fun _ => h.openCmd _ h1
  · exact hs

theorem feedbackOpen (hs : P s) : P s.feedbackOpen := by
  unfold State.feedbackOpen
  split
  next => exact h.bypass _ rfl (fun _ => bypassOk_closesNow _ _ _) hs
  next => exact h.bypass _ rfl (fun _ => bypassOk_closesNow _ _ _) hs
  next hb => exact h.confirmOpen (h.bypass _ rfl (fun ho => ho.opened hb) hs)
  all_goals exact hs

theorem closedNow (hs : P s) : P (s.onBypass Bypass.closedNow) := h.bypass _ rfl (fun _ => bypassOk_closedNow _) hs

theorem feedbackClosed (hs : P s) : P s.feedbackClosed := by
  unfold State.feedbackClosed
  split
  · exact hs
  · exact hs
  · exact hs
  · exact h.reportClosedFault (h.closedNow hs)
  · exact h.takePending (h.confirmClosed (h.closedNow hs))
  · exact h.confirmClosed (h.closedNow hs)

theorem feedbackChange (hfb : ∀ {r : State} (a : Bool), P r → P (r.onBypass fun b => { b with feedback := some a }))
    (a : Bool) (hs : P s) : P (s.feedbackChange a) := by
  unfold State.feedbackChange
  split
  · exact hs
  · dsimp only
    split
    · exact h.feedbackClosed (hfb _ hs)
    · exact h.feedbackOpen (hfb _ hs)

theorem contactExpires (hc : s.bypass.contact.isSome = true) (hs : P s) : P s.contactExpires := by
  unfold State.contactExpires
  split
  next hb => exact h.reportStuckClosed (h.bypass _ rfl (fun ho => ho.stuckClosed hb) hs)
  next hb => exact h.reportStuckOpen (h.bypass _ rfl (fun ho => ho.stuckOpen hb hc) hs)
  next => exact hs

/-! ## Cell Watch -/

theorem hardFault (k : FaultClass) (hs : P s) : P (s.hardFault k) := by
  unfold State.hardFault
  split
  · exact h.localAlarm _ (h.ownerWrite _ _ (h.closeCmd (h.latchLeading_endCheck _ hs)))
  · exact h.watch _ rfl rfl hs

theorem faultInput (hl : ∀ {r : State} (i : FaultInput) (a : Bool), P r → P (r.onWatch (Watch.setLevel i a)))
    (i : FaultInput) (a : Bool) (hs : P s) : P (s.faultInput i a) := by
  unfold State.faultInput
  split
  · exact hs
  · have h1 := h.trigger s.now .edge (hl i a hs)
    exact when_keeps h1 fun _ => h.hardFault _ h1

theorem closeUnlessClosed (hs : P s) : P s.closeUnlessClosed := when_keeps hs fun _ => h.closeCmd hs

theorem softEffect (p : Phase) (role : CellRole) (k : FaultClass) (hs : P s) : P (s.softEffect p role k) := by
  unfold State.softEffect
  split
  · split
    · split
      · exact hs
      · exact h.localAlarm _ (h.closeCmd hs)
    · exact h.closeUnlessClosed hs
  · split
    · split
      · exact h.closeCmd (h.checkRefused _ hs)
      · exact h.closeUnlessClosed hs
    · exact h.closeCmd hs

theorem softFault (k : FaultClass) (hs : P s) : P (s.softFault k) :=
  when_keeps hs fun _ => h.softEffect _ _ _ (h.ownerWrite _ _ hs)

theorem testReadmission (hs : P s) : P s.testReadmission := when_keeps hs fun _ => h.ownerWrite _ _ hs

theorem evaluateCheck (v : PassValues) (hs : P s) : P (s.evaluateCheck v) := by
  unfold State.evaluateCheck
  split
  · exact h.checkArmed hs
  · exact h.closeCmd (h.ownerWrite _ _ (h.checkRefused _ hs))

theorem beginActive (hs : P s) : P s.beginActive := by
  unfold State.beginActive
  split
  · exact h.senseStep hs
  · exact h.openCmd _ (h.watch _ rfl rfl hs)

theorem beginSpare (hs : P s) : P s.beginSpare := by
  unfold State.beginSpare
  split
  · exact h.checkArmed hs
  · exact h.closeCmd (h.watch _ rfl rfl hs)

theorem beginCheck {go : State → State} (hgo : ∀ {r : State}, P r → P (go r)) (hs : P s) : P (s.beginCheck go) := by
  unfold State.beginCheck
  split
  · split
    · split
      · exact hgo hs
      · exact h.closeCmd (h.checkRefused _ hs)
    · exact h.closeCmd (h.checkRefused _ hs)
  · exact hs

theorem startCheck (hs : P s) : P s.startCheck := by
  have h1 : P (s.onWatch fun w => { w with check := .idle, sentArmed := false, sentRefused := false }) :=
    h.watch _ rfl rfl hs
  unfold State.startCheck
  dsimp only
  split
  · exact h.beginCheck h.beginActive h1
  · exact h.beginCheck h.beginSpare h1
  · exact h1
  · exact h1

theorem handleAssertions (w : Watch) (v : PassValues) (hs : P s) : P (s.handleAssertions w v) := by
  have h1 : P (s.when (assertsNow s.params.persist (condTripHigh s.params v) w.tripHigh)
      (State.hardFault FaultClass.linkHigh)) := when_keeps hs fun _ => h.hardFault _ hs
  unfold State.handleAssertions
  dsimp only
  split
  · exact h.softFault _ h1
  · exact h1

theorem classifyPass
    (hm : ∀ {r : State} (f : Watch → Watch), levels (f r.watch) = levels r.watch → P r → P (r.onWatch f)) (start : Time)
    (v : PassValues) (hs : P s) : P (s.classifyPass start v) := by
  have h2 := h.testReadmission (hm (Watch.banded s.params.persist (inBandPass s.params v)) rfl
    (h.handleAssertions s.watch v (hm (Watch.counted s.params v) rfl hs)))
  exact when_keeps h2 fun _ => h.evaluateCheck v h2

theorem passEnd
    (hm : ∀ {r : State} (f : Watch → Watch), levels (f r.watch) = levels r.watch → P r → P (r.onWatch f)) (start : Time)
    (hs : P s) : P (s.passEnd start) := by
  have h1 : P ((s.onScanner Scanner.takeAll).onWatch fun w => { w with passSeen := true }) :=
    hm _ rfl (h.scanner Scanner.takeAll rfl SlotsOk.takeAll hs)
  exact when_keeps h1 fun _ => h.classifyPass hm _ _ h1

theorem joinAssertion (hs : P s) : P s.joinAssertion := by
  unfold State.joinAssertion
  split
  · exact h.followFaulted (h.assertEntry _ _ _ hs)
  · exact hs

theorem escalate (hs : P s) : P s.escalate := by
  unfold State.escalate
  split
  · exact when_keeps hs fun _ => h.localAlarm _ hs
  · exact hs

theorem resetBypassed (hs : P s) : P s.resetBypassed := by
  unfold State.resetBypassed
  split
  · exact h.ownerWrite _ _ (h.watch _ rfl rfl hs)
  · split
    · exact h.watch _ rfl rfl hs
    · exact h.ownerWrite _ _ (h.watch _ rfl rfl hs)

theorem faultReset (hs : P s) : P s.faultReset := when_keeps hs fun _ => h.resetBypassed hs

/-! ## The Catch Unit -/

theorem startCatch (hp : s.round.phase = .catching) (hl : s.isLine = true) (hs : P s) : P s.startCatch := by
  unfold State.startCatch
  split
  · exact hs
  · split
    · exact h.endCatch _ _ _ _ hs
    · split
      · exact h.endCatch _ _ _ _ hs
      · exact h.catching (CatchUnit.begin s.now (ms s.params.catchTime))
          (fun c => c.takeAll.request s.now 0 2 .continuous .free) (fun _ => ⟨hl, hp⟩) rfl (fun _ => crossingsOk_nil)
          (fun ho => by simpa [Scanner.takeAll] using ho.takeAll) hs

theorem checkCatch (n : Nat) (fwd : Bool) (t : Time) (hs : P s) : P (s.checkCatch n fwd t) := by
  unfold State.checkCatch
  split
  · split <;> exact h.endCatch _ _ _ _ hs
  · exact h.endCatch _ _ _ _ hs

theorem dropOldest (hs : P s) : P s.dropOldest := h.catcher _ rfl (fun ho => ho.drop 1) hs

theorem evaluateCatch (hs : P s) : P s.evaluateCatch := by
  unfold State.evaluateCatch
  split
  · exact hs
  · split
    · exact h.dropOldest hs
    · dsimp only
      split
      · exact h.checkCatch _ _ _ hs
      · exact h.checkCatch _ _ _ hs
      · exact h.dropOldest hs
      · exact h.checkCatch _ _ _ (h.free _ hs)

omit h in
@[simp] theorem setTracker_active (ch : Nat) (k : Tracker) (c : CatchUnit) : (c.setTracker ch k).active = c.active := by
  unfold CatchUnit.setTracker; repeat' split
  all_goals rfl

omit h in
@[simp] theorem setTracker_crossings (ch : Nat) (k : Tracker) (c : CatchUnit) :
    (c.setTracker ch k).crossings = c.crossings := by
  unfold CatchUnit.setTracker; repeat' split
  all_goals rfl

theorem overrunSample (ch : Nat) (x : Int) (hs : P s) : P (s.overrunSample ch x) := by
  unfold State.overrunSample
  dsimp only
  split
  · exact h.endCatch _ _ _ _ (h.catcher _ rfl (fun _ => crossingsOk_nil) hs)
  · exact h.catcher _ (by simp) (by simp) (h.catcher _ rfl (fun _ => crossingsOk_nil) hs)

theorem plainSample (ch : Nat) (x : Int) (hs : P s) : P (s.plainSample ch x) := by
  unfold State.plainSample
  split
  next => exact h.catcher _ (by simp) (by simp) hs
  next y _ =>
    have h1 : P (s.onCatcher fun c => c.setTracker ch ((c.tracker ch).crossed x s.now)) :=
      h.catcher _ (by simp) (by simp) hs
    dsimp only
    split
    next henters =>
      simp only [crossingEnters, Bool.and_eq_true, Bool.not_eq_true', List.any_eq_false, beq_iff_eq] at henters
      exact h.evaluateCatch (h.catcher _ rfl (fun ho => ho.enter henters.2) h1)
    next => exact h1

theorem takeSample (ch : Nat) (hs : P s) : P (s.takeSample ch) := by
  have h1 : P (s.onScanner (Scanner.takeSlot ch)) := h.scanner _ rfl (fun ho => ho.set _ (by simp [Slot.take])) hs
  unfold State.takeSample
  dsimp only
  split
  · exact h.overrunSample _ _ h1
  · exact h.plainSample _ _ h1

theorem residualOutcome (hs : P s) : P s.residualOutcome := by
  unfold State.residualOutcome
  split
  · split <;> exact h.endCatch _ _ _ _ hs
  · split
    · split <;> exact h.endCatch _ _ _ _ hs
    · exact h.endCatch _ _ _ _ hs

theorem brakeDrop (hs : P s) : P s.brakeDrop := by
  unfold State.brakeDrop
  split
  · exact h.endCatch _ _ _ _ hs
  · split
    · exact h.catcher _ rfl id hs
    · exact hs

theorem supplyCatch (hs : P s) : P s.supplyCatch := by
  unfold State.supplyCatch
  exact h.catcher _ rfl id (h.changeRecord _ hs)

theorem retireExpired (hs : P s) : P s.retireExpired :=
  when_keeps hs fun _ => h.catcher _ (by split <;> rfl) (by split <;> exact id) hs

/-! ## Entry to a phase with what follows -/

theorem decideStep (hs : P s) : P s.decideStep := by
  unfold State.decideStep
  split
  · exact h.port _ (h.enqueue _ hs)
  · exact hs

theorem isolationWrite (hs : P s) : P s.isolationWrite :=
  when_keeps hs fun _ => by
    have h1 := h.ownerWrite .resting FaultClass.isolation hs
    exact when_keeps h1 fun _ => h.timeRest _ h1

theorem commandsOnEntry (p0 : Phase) {p : Phase} (hp : s.round.phase = p) (hs : P s) : P (s.commandsOnEntry p0 p) := by
  unfold State.commandsOnEntry
  split
  · split
    · exact h.decideStep hs
    · exact h.startCheck hs
  · exact when_keeps hs fun hl => h.startCatch hp hl hs
  · exact when_keeps hs fun _ => h.supplyCatch hs
  · exact h.closeCmd hs
  · exact h.isolationWrite (h.closeCmd hs)
  · exact hs

theorem enterPhase (p : Phase) (ho : p.outside = true → w.diff) (hs : P s) : P (s.enterPhase p) :=
  h.commandsOnEntry _ (by rw [State.enterBase_round]; rfl) (h.enterBase p ho hs)

theorem afterRemoval (l : List Nat) (hs : P s) : P (s.afterRemoval l) :=
  when_keeps hs fun _ => h.overdueExpiry hs

theorem recordStep (n : Nat) (armed : Bool) (hs : P s) : P (s.recordStep n armed) := by
  refine h.afterRemoval _ (h.round _ ?_ ?_ ?_ ?_ ?_ ?_ (.inl ⟨?_, ?_⟩) hs) <;> unfold Round.recordStep <;> split <;> simp

theorem recordEarly (d : Half) (hs : P s) : P (s.recordEarly d) := by
  refine h.round _ rfl rfl rfl (Nat.le_refl _) (List.Sublist.refl _) id (.inl ⟨rfl, rfl⟩) ?_
  induction s.round.early.filter fun e => e.digest == d generalizing s with
  | nil => exact hs
  | cons e l ih => exact ih (h.recordStep _ _ hs)

theorem clearArmed (d : Half) (hs : P s) : P (s.clearArmed d) :=
  h.recordEarly _ (h.afterRemoval _ (h.round _ rfl rfl rfl (Nat.le_refl _) (List.Sublist.refl _) id (.inl ⟨rfl, rfl⟩) hs))

theorem closeIfOut (hs : P s) : P s.closeIfOut := when_keeps hs fun _ => h.closeCmd hs

theorem adoptCandidate {c : Plan} {d : Half} (hc : s.viableCandidate = some (c, d))
    (hp : s.round.phase.clearsPlan = false) (hs : P s) : P (s.adoptCandidate c d) :=
  h.buildRecord _ (h.closeIfOut (h.clearArmed _ (h.adopt hc hp hs)))

omit h in
/-- The state from which a transition on entry is made is the state itself, with a plan adopted in PLANNING, or with the
deferred change taken in RUNNING. -/
theorem entryTransition_cases {r : State} {p : Phase} (ht : s.entryTransition = some (r, p)) :
    r = s ∨ r = s.onRound (fun x => { x with deferred := false }) ∨
      ∃ c d, s.viableCandidate = some (c, d) ∧ s.round.phase = .planning ∧ r = s.adoptCandidate c d := by
  unfold State.entryTransition at ht
  split at ht
  case h_1 => repeat' split at ht
              all_goals simp_all
  case h_2 hp =>
    repeat' split at ht
    all_goals try simp at ht
    · exact .inl ht.1.symm
    · exact .inr (.inr ⟨_, _, ‹_›, hp, ht.1.symm⟩)
  case h_3 => 
    simp only [Option.map_eq_some_iff, Prod.mk.injEq] at ht
    obtain ⟨_, _, rfl, _⟩ := ht
    exact .inl rfl
  case h_4 => repeat' split at ht
              all_goals simp_all
  case h_5 => 
    repeat' split at ht
    all_goals simp at ht
    · exact .inl ht.1.symm
    · exact .inr (.inl ht.1.symm)
  case h_6 => simp at ht

omit h in
/-- R49: CATCHING is left for ARMING or HALTED. -/
theorem catchExit_cases {p : Phase} (he : s.catchExit = some p) : p = .arming ∨ p = .halted := by
  unfold State.catchExit phaseAfterCatch State.lineStatePast at he
  repeat' split at he
  all_goals simp_all

omit h in
/-- R47: the phase after an adoption is in the drive. -/
theorem phaseAfterAdoption_inside (r : State) : r.phaseAfterAdoption.outside = false := by
  unfold State.phaseAfterAdoption
  repeat' split
  all_goals rfl

omit h in
/-- R41, R46, R49, R51, R52: no transition on entry leads out of the drive. -/
theorem entryTransition_inside {r : State} {p : Phase} (ht : s.entryTransition = some (r, p)) : p.outside = false := by
  unfold State.entryTransition at ht
  split at ht
  case h_3 =>
    obtain ⟨q, hq, he⟩ := Option.map_eq_some_iff.mp ht
    obtain ⟨-, rfl⟩ := Prod.mk.inj he
    obtain rfl | rfl := catchExit_cases hq <;> rfl
  case h_2 =>
    repeat' split at ht
    all_goals simp only [Option.some.injEq, Prod.mk.injEq, reduceCtorEq] at ht
    · rw [← ht.2]
      rfl
    · rw [← ht.2]
      exact phaseAfterAdoption_inside _
  all_goals repeat' split at ht
  all_goals simp only [Option.some.injEq, Prod.mk.injEq, reduceCtorEq] at ht
  all_goals obtain ⟨rfl, rfl⟩ := ht
  all_goals rfl

theorem entryTransition {r : State} {p : Phase} (ht : s.entryTransition = some (r, p)) (hs : P s) : P r := by
  obtain rfl | rfl | ⟨c, d, hc, hp, rfl⟩ := entryTransition_cases ht
  · exact hs
  · exact h.round _ rfl rfl rfl (Nat.le_refl _) (List.Sublist.refl _) id (.inl ⟨rfl, rfl⟩) hs
  · exact h.adoptCandidate hc (by rw [hp]; rfl) hs

theorem settleEntry (fuel : Nat) (hs : P s) : P (State.settleEntry fuel s) := by
  induction fuel generalizing s with
  | zero => exact hs
  | succ n ih =>
    simp only [State.settleEntry]
    split
    next ht => exact ih (h.enterPhase _ (fun hp => absurd hp (by simp [entryTransition_inside ht]))
      (h.entryTransition ht hs))
    next => exact when_keeps hs fun _ => h.resettle hs

theorem enter (p : Phase) (ho : p.outside = true → w.diff) (hs : P s) : P (s.enter p) :=
  h.settleEntry _ (h.enterPhase p ho hs)

theorem enterIf (c : Bool) (p : Phase) (ho : p.outside = true → w.diff) (hs : P s) : P (s.enterIf c p) :=
  when_keeps hs fun _ => h.enter p ho hs

theorem testTransition (hs : P s) : P s.testTransition := h.settleEntry _ hs

theorem testRevision (hs : P s) : P s.testRevision := by
  unfold State.testRevision
  split
  · exact when_keeps hs fun _ => by
      unfold State.announce State.presentRecord
      exact h.changeRecord _ (h.port _ hs)
  · exact hs

theorem testAgreement (hs : P s) : P s.testAgreement := by
  unfold State.testAgreement
  split
  · exact h.enterIf _ _ nofun hs
  · exact h.testTransition hs
  · exact h.testRevision hs
  · exact hs

theorem handVerdict (hs : P s) : P s.handVerdict := by
  unfold State.handVerdict
  split
  · exact h.testTransition hs
  · split
    · split
      · exact h.escalate hs
      · exact h.testRevision hs
    · exact hs
  · exact hs

theorem roleAction (old : CellRole) (hs : P s) : P (s.roleAction old) := by
  unfold State.roleAction
  split
  · exact hs
  · split
    · split
      · exact hs
      · exact h.openCmd _ hs
    · split
      · exact hs
      · exact h.closeCmd hs

theorem adoptSwitch {c : Plan} {d : Half} (hc : s.viableCandidate = some (c, d)) (hp : s.round.phase = .revising)
    (hs : P s) : P (s.adoptSwitch c d) := by
  have h1 := h.roleAction s.cellRole (h.clearArmed d (h.adopt hc (by rw [hp]; rfl) hs))
  exact h.enter _ nofun (when_keeps h1 fun _ => h.switchRecords _ h1)

/-! ## Frames from other stations -/

theorem hear (f : Frame) (hs : P s) : P (s.hear f) := by
  have h1 : P (s.onBus (Bif.hear s.now f)) := h.bus _ (by simp [Bif.hear, setAt]) (.inr rfl) id hs
  exact when_keeps h1 fun _ => h.queueState h1

/-- R29: the epoch taken by a station that has noted the frame. -/
theorem takeEpoch_noted (f : Frame) (h1 : P (s.onRound fun r => { r with firstTaken := true })) : P (s.takeEpoch f) := by
  unfold State.takeEpoch
  dsimp only
  split
  next hj =>
    split
    · exact h.setEpochCleared _ (by simp [hj, Phase.clearsPlan]) h1
    · exact h1
  next =>
    split
    · exact h1
    · split
      next hl => exact h.setEpochCleared _ (by simp [hl, Phase.clearsPlan]) h1
      next =>
        unfold State.adoptEpoch
        dsimp only
        split
        · exact h.epochTrip _ h1
        · split
          · exact h.epochEnter _ _ rfl nofun h1
          · exact h.epochEnter _ _ rfl nofun h1
        · exact h.epochEnter _ _ rfl nofun h1

theorem takeEpoch (f : Frame) (hs : P s) : P (s.takeEpoch f) :=
  h.takeEpoch_noted f (h.round _ rfl rfl rfl (Nat.le_refl _) (List.Sublist.refl _) (fun _ => rfl) (.inl ⟨rfl, rfl⟩) hs)

theorem takeFrame (f : Frame) (hd : w.diff) (hs : P s) : P (s.takeFrame f) := 
  h.takeEpoch f (h.enterIf _ _ (fun _ => hd) (h.hear f hs))

theorem quiet (q : Option Time) (hs : P s) : P (s.onBus fun u => { u with quietStart := q }) :=
  h.bus _ rfl (.inl rfl) id hs

theorem receive {take : Frame → State → State} (ht : ∀ {r : State} (f : Frame), P r → P (take f r)) (k : Kind)
    (x : Transmission) (hs : P s) : P (s.receive k x take) := by
  unfold State.receive
  split
  · split
    · exact ht _ hs
    · exact h.quiet _ hs
  · exact h.quiet _ hs

theorem takeAlarm (f : Frame) (hd : w.diff) (hs : P s) : P (s.takeAlarm f) := by
  have h1 := h.takeFrame f hd hs
  exact when_keeps h1 fun _ => when_keeps h1 fun _ => h.epochTrip _ h1

theorem clearDiff (hd : w.diff) (hs : P s) : P s.clearDiff := h.roster _ rfl (.inr hd) hs

theorem takeSummary (f : Frame) (hd : w.diff) (hs : P s) : P (s.takeSummary f) := by
  unfold State.takeSummary
  split
  · exact h.mergeSummary _ (h.clearDiff hd (h.takeFrame f hd hs))
  · exact h.takeFrame f hd hs

theorem noteStep (n : Nat) (code : Byte) (d : Half) (hs : P s) : P (s.noteStep n code d) := by
  unfold State.noteStep
  split
  · split
    · exact h.recordStep _ _ hs
    · exact h.round _ rfl rfl rfl (Nat.le_refl _) (List.Sublist.refl _) id (.inl ⟨rfl, rfl⟩) hs
  · exact hs

theorem stepTaken (f : Frame) (hs : P s) : P (s.stepTaken f) := by
  unfold State.stepTaken
  split
  next code _ d _ _ =>
    refine when_keeps hs fun _ => ?_
    have h1 := h.noteStep f.number code d hs
    exact when_keeps h1 fun _ => h.testTransition h1
  next => exact hs

theorem takeStep (f : Frame) (hd : w.diff) (hs : P s) : P (s.takeStep f) := h.stepTaken f (h.takeFrame f hd hs)

theorem countDifference (n : Nat) (x : HeardState) (hd : w.diff) (hs : P s) : P (s.countDifference n x) := by
  unfold State.countDifference
  split
  · exact hs
  · split
    · split
      · exact h.roster _ rfl (.inr hd) hs
      · exact h.roster _ rfl (.inr hd) (h.queueSummary hs)
    · exact h.roster _ rfl (.inr hd) hs

theorem stateTaken (n : Nat) (x : HeardState) (hd : w.diff) (hp : w.presence) (hs : P s) : P (s.stateTaken n x) := by
  have h1 : P (s.spreadLockout x) := when_keeps hs fun _ => h.enterBase _ nofun hs
  have h2 := h.silenceCheckOf n (h.countDifference n x hd h1)
  have h3 : P (State.when (n == 0) State.checkPresence _) := when_keeps h2 fun _ => h.checkPresence hp h2
  have h4 : P (State.when (n == 0) State.testCatching _) :=
    when_keeps h3 fun _ => when_keeps h3 fun _ => h.testTransition h3
  have h5 := h.testAgreement h4
  exact when_keeps h5 fun _ => h.queueState h5

theorem takeState (f : Frame) (hd : w.diff) (hp : w.presence) (hs : P s) : P (s.takeState f) := by
  unfold State.takeState
  split
  · exact h.stateTaken _ _ hd hp (h.takeFrame f hd hs)
  · exact h.takeFrame f hd hs

theorem clearLockout (hp : s.round.phase = .lockout) (hs : P s) : P s.clearLockout := by
  have h1 := h.setEpochCleared (epochSucc s.round.epoch) (by simp [hp, Phase.clearsPlan]) hs
  have h2 := h.clearPlan (h.round (fun r => { r with attempts := [], resettle := 0 }) rfl rfl rfl (Nat.zero_le _)
    (List.nil_sublist _) id (.inl ⟨rfl, rfl⟩) h1)
  exact h.enter _ nofun (h.faultReset (h.round _ rfl rfl rfl (Nat.le_refl _) (List.Sublist.refl _) id (.inl ⟨rfl, rfl⟩)
    (h.clearRecord h2)))

theorem countAction (hs : P s) : P s.countAction := by
  unfold State.countAction
  split
  next hp => exact h.clearLockout hp hs
  next => exact h.faultReset hs
  next => exact hs

omit h in
/-- R77: a LINE frame adopts a VIABLE candidate in REVISING alone. -/
theorem switchAdopts_some {e m : Half} {w : SwitchBlock} {c : Plan} {d : Half}
    (hc : s.switchAdopts e m w = some (c, d)) : s.viableCandidate = some (c, d) ∧ s.round.phase = .revising := by
  unfold State.switchAdopts at hc
  split at hc
  next hp =>
    split at hc
    next hv =>
      split at hc
      · obtain ⟨rfl, rfl⟩ := Prod.mk.inj (Option.some.inj hc)
        exact ⟨hv, hp.1⟩
      · simp at hc
    next => simp at hc
  next => simp at hc

theorem testSwitch (e : Half) (l : LinePayload) (hs : P s) : P (s.testSwitch e l) := by
  unfold State.testSwitch
  split
  · split
    next hc => exact h.adoptSwitch (switchAdopts_some hc).1 (switchAdopts_some hc).2 hs
    next => exact hs
  · exact hs

theorem takeSwitch (e : Half) (l : LinePayload) (hs : P s) : P (s.takeSwitch e l) :=
  when_keeps hs fun _ => by
    have h1 := h.testSwitch e l hs
    refine when_keeps h1 fun _ => ?_
    have h2 : P ((s.testSwitch e l).onPlan fun u => { u with switchRecord := recordAfter e l u.inForce.isSome }) :=
      h.switchRecord _ h1
    exact when_keeps h2 fun _ => h.localAlarm _ h2

theorem actOnFacts (fresh : Bool) (hs : P s) : P (s.actOnFacts fresh) := by
  unfold State.actOnFacts
  split
  · exact when_keeps hs fun _ => h.testTransition hs
  · exact h.enterIf _ _ nofun hs
  · exact h.enterIf _ _ nofun hs
  · exact h.testTransition hs
  · exact h.testTransition hs
  · exact hs

theorem lineTaken (e : Half) (l : LinePayload) (hs : P s) : P (s.lineTaken e l) := by
  have h1 : P (s.onRound (Round.facing e l)) :=
    h.round _ rfl rfl rfl (Nat.le_refl _) (List.Sublist.refl _) id (.inl ⟨rfl, rfl⟩) hs
  have h2 : P (State.when (s.round.facts.countChanged l && !l.runReq) State.countAction _) :=
    when_keeps h1 fun _ => h.countAction h1
  exact h.actOnFacts _ (h.takeSwitch e l h2)

theorem takeLine (f : Frame) (hd : w.diff) (hs : P s) : P (s.takeLine f) := by
  have h1 := h.takeFrame f hd hs
  unfold State.takeLine
  split
  · exact when_keeps h1 fun _ => h.lineTaken _ _ h1
  · exact h1

/-! ## The report tick and the transmission attempt -/

theorem testMismatch (hs : P s) : P s.testMismatch :=
  when_keeps hs fun _ => h.round _ rfl rfl rfl (Nat.le_refl _) (List.Sublist.refl _) id (.inl ⟨rfl, rfl⟩) hs

theorem prepareExit (p : Phase) (hs : P s) : P (s.prepareExit p) := by
  have h1 : P (s.when (p == .settling) fun s => s.onRound fun r => { r with tripRound := s.brakeAtJoin }) :=
    when_keeps hs fun _ => h.round _ rfl rfl rfl (Nat.le_refl _) (List.Sublist.refl _) id (.inl ⟨rfl, rfl⟩) hs
  exact when_keeps h1 fun _ => h.round _ rfl rfl rfl (Nat.zero_le _) (List.Sublist.refl _) id (.inl ⟨rfl, rfl⟩) h1

theorem leaveJoining (p : Phase) (hd : w.diff) (hs : P s) : P (s.leaveJoining p) :=
  h.joinAssertion (h.enter p (fun _ => hd) (h.prepareExit p hs))

theorem testJoin (hd : w.diff) (hs : P s) : P s.testJoin := by
  unfold State.testJoin
  split
  · dsimp only
    split
    · exact h.leaveJoining _ hd (h.testMismatch hs)
    · exact h.testMismatch hs
  · exact hs

theorem countTick (hs : P s) : P s.countTick :=
  h.round _ rfl rfl rfl (Nat.le_refl _) (List.Sublist.refl _) id (.inl ⟨rfl, rfl⟩) (h.bus _ rfl (.inl rfl) id hs)

theorem queueLine (hs : P s) : P s.queueLine := by
  unfold State.queueLine
  split
  · exact h.enqueue _ (h.port _ hs)
  · exact hs

theorem renewInputs (hs : P s) : P s.renewInputs := when_keeps hs fun _ => h.port _ hs

/-- R158: what a report tick does once its LINE frame is queued. -/
theorem tickRest (inside : Bool) (hd : w.diff) (hp : w.presence) (hs : P s) :
    P (((((s.queueState).when inside State.answerTick).silenceCheck).checkPresence).testJoin).testAgreement := by
  have h1 := h.queueState hs
  exact h.testAgreement (h.testJoin hd (h.checkPresence hp (h.silenceCheck (when_keeps h1 fun _ => h.answerTick h1))))

theorem tick (hd : w.diff) (hp : w.presence) (hs : P s) : P s.tick :=
  h.tickRest _ hd hp (h.queueLine (h.trigger s.now .tick (h.renewInputs (h.countTick hs))))

theorem tryAttempt (hs : P s) : P s.tryAttempt := by
  unfold State.tryAttempt
  split
  next g _ _ =>
    refine when_keeps hs fun _ => ?_
    have h1 : P (s.onBus fun u => { u with queue := markHead u.queue, attempt := some ⟨s.stamp g.body, s.now⟩ }) :=
      h.bus _ rfl (.inl rfl) (fun hq => hq.markHead) hs
    exact when_keeps h1 fun _ => h.retireExpired h1
  next => exact hs

theorem takeOwn (f : Frame) (hd : w.diff) (hs : P s) : P (s.takeOwn f) := by
  unfold State.takeOwn
  split
  · exact when_keeps hs fun _ => h.lineTaken _ _ hs
  · exact h.stepTaken f hs
  · exact h.clearDiff hd hs
  · exact hs

theorem seeDuplicate (hd : w.diff) (hs : P s) : P s.seeDuplicate :=
  h.enter _ (fun _ => hd) (h.bus _ rfl (.inr rfl) id hs)

/-! ## The Line Port, the scanner and the timers -/

theorem inputEdge (i : LineInput) (a : Bool) (hs : P s) : P (s.inputEdge i a) := by
  unfold State.inputEdge
  split
  · exact when_keeps hs fun _ => h.localAlarm _ hs
  · exact h.catcher _ rfl id (h.brakeDrop hs)
  · exact h.port _ hs
  · exact hs

theorem inputChange (i : LineInput) (a : Bool) (hs : P s) : P (s.inputChange i a) := by
  unfold State.inputChange
  split
  · exact hs
  · split
    · exact h.port _ hs
    · split
      · exact hs
      · exact h.inputEdge _ _ (h.port _ hs)

theorem abandonRevision (hs : P s) : P s.abandonRevision :=
  h.escalate (h.enter _ nofun (h.switchRecord (fun _ => none) (h.discard hs)))

theorem ageCandidate {c : Plan} (hc : s.builtCandidate = some c) (hs : P s) : P (s.ageCandidate c) := by
  have h1 := h.age hc hs
  exact when_keeps h1 fun _ => h.handVerdict h1

theorem convert
    (hm : ∀ {r : State} (f : Watch → Watch), levels (f r.watch) = levels r.watch → P r → P (r.onWatch f)) (a : Activity)
    (v : Nat) (taken : Bool) (hs : P s) : P (s.convert a v taken) := by
  have h1 : P ((s.onScanner (Scanner.storeSlot a.channel (senseValue v))).onScanner (Scanner.moveOn s.now a)) :=
    h.scanner _ (by simp) (by simp) (h.scanner _ rfl (fun ho => ho.set _ (by simp [Slot.store])) hs)
  unfold State.convert
  dsimp only
  split
  · exact when_keeps h1 fun _ => h.takeSample _ h1
  · exact when_keeps h1 fun _ => h.passEnd hm _ h1

theorem quietMark (hs : P s) : P s.quietMark := by
  have h1 : P (s.onCatcher fun c => { c with quiet := none }) := h.catcher _ rfl id hs
  exact when_keeps h1 fun _ => h.residualOutcome h1

theorem budgetOver (hs : P s) : P s.budgetOver := by
  have h1 : P (s.onCatcher fun c => { c with budget := .spent, budgetTimer := none }) := h.catcher _ rfl id hs
  unfold State.budgetOver
  dsimp only
  split
  · exact h.catcher _ rfl id h1
  · exact h.setExpired h1

theorem restElapsed (hs : P s) : P s.restElapsed := h.testReadmission (h.watch _ rfl rfl hs)

end KeptIn

end Sys2Proof.Proofs

namespace Sys2Proof.Proofs

open Sys2Proof.Machine Sys2Proof.Safety

/-! ## Every command -/

/-- A command that one kind of state is left to: the resets and the loss of supply. -/
def resets : Instr → Bool
  | .powerOnReset _ _ => true
  | .pinReset _ _ _ => true
  | .lossOfSupply _ => true
  | _ => false

/-- What holds of a timer that is due. -/
theorem isSome_of_due {now : Time} {d : Option Time} (h : due now d = true) : d.isSome = true := by
  cases d
  · simp [due] at h
  · rfl

section

variable {P : State → Prop} {s s' : State} {t : Time} {f : State → State}

theorem keeps_runAt (hf : ∀ {r : State}, P r → P (f r)) (hs : P (s.advance t)) (he : s.runAt t f = .next s') : P s' := by
  obtain rfl := Host.Outcome.next.inj he
  exact when_keeps hs fun _ => hf hs

theorem keeps_runSupplied (hf : ∀ {r : State}, P r → P (f r)) (hs : P (s.advance t))
    (he : s.runSupplied t f = .next s') : P s' := by
  obtain rfl := Host.Outcome.next.inj he
  exact when_keeps hs fun _ => hf hs

end

/-- A predicate kept by a change of the Parameter Store that leaves the working copy, its validity and the role. -/
def KeptByStore (P : State → Prop) : Prop :=
  ∀ {s : State} (f : Store → Store), (f s.store).working = s.store.working → (f s.store).valid = s.store.valid →
    (f s.store).role = s.store.role → (StoreOk s.store → StoreOk (f s.store)) → P s → P (s.onStore f)

/-- R187: a write that is well formed stays within the 64 bytes. -/
theorem writeOperands_bound {bs : List Byte} {trailing : Bool} {o : Nat} {data : List Byte}
    (h : writeOperands bs trailing = some (o, data)) : o + data.length ≤ 64 := by
  unfold writeOperands at h
  split at h
  · simp at h
  · split at h
    next hw =>
      obtain ⟨rfl, rfl⟩ := Prod.mk.inj (Option.some.inj h)
      exact hw.2.2.2
    next => simp at h

/-- R187: bytes replaced within a list keep its length. -/
theorem replaceBytes_length {o : Nat} {data bs : List Byte} (h : o + data.length ≤ bs.length) :
    (replaceBytes o data bs).length = bs.length := by
  simp only [replaceBytes, List.length_append, List.length_take, List.length_drop]
  omega

/-- R187: a write completed keeps the store's rules. -/
theorem StoreOk.completeWrite {st : Store} {w : StoreWrite} (now : Time) (hw : st.write = some w) (h : StoreOk st) :
    StoreOk (st.completeWrite now w) := by
  obtain ⟨hi, hk, hb, hv, hd, -⟩ := h
  exact ⟨(replaceBytes_length (by rw [hi]; exact hb w hw)).trans hi, hk, by simp [Store.completeWrite], hv, hd, rfl⟩

namespace KeptIn

variable {P : State → Prop} (h : Kept P) {s s' : State}
include h

theorem portRead (hst : KeptByStore P) (c : PortCommand) (bs : List Byte) (a : Access) (o : Byte) (n : Nat) (hs : P s) :
    P (s.portRead c bs a o n) := by
  have hr {r : State} (out : List Byte) (hr : P r) : P (r.portReturns a out) := hst _ rfl rfl rfl id hr
  unfold State.portRead
  split
  · split
    · exact hr _ hs
    · exact hr _ (h.free _ hs)
  · exact hr _ hs

/-- A predicate kept by every kind of change is kept, from the moment of its event on, by every command that is neither a
reset nor the loss of supply; what an exceptional command writes besides is asked for at that command alone. -/
theorem exec (hst : KeptByStore P) {c : Instr}
    (hm : (∀ t v k, c ≠ .conversionComplete t v k) ∨
      ∀ {r : State} (f : Watch → Watch), levels (f r.watch) = levels r.watch → P r → P (r.onWatch f))
    (hl : (∀ t i a, c ≠ .faultInputChange t i a) ∨
      ∀ {r : State} (i : FaultInput) (a : Bool), P r → P (r.onWatch (Watch.setLevel i a)))
    (hfb : (∀ t a, c ≠ .bypassFbChange t a) ∨
      ∀ {r : State} (a : Bool), P r → P (r.onBypass fun b => { b with feedback := some a }))
    (hc : resets c = false) (hs : P (s.advance c.time)) (he : Machine.exec c s = .next s') : P s' := by
  cases c
  case powerOnReset => simp [resets] at hc
  case pinReset => simp [resets] at hc
  case lossOfSupply => simp [resets] at hc
  case pinResetCoilRelease =>
    exact keeps_runSupplied (fun hr => when_keeps hr fun hd =>
      h.bypass _ rfl (fun ho => ho.coilFalls (isSome_of_due hd)) hr) hs he
  case readImage => exact keeps_runSupplied (fun hr => h.portRead hst _ _ _ _ _ hr) hs he
  case readWorking => exact keeps_runSupplied (fun hr => h.portRead hst _ _ _ _ _ hr) hs he
  case status => exact keeps_runSupplied (fun hr => hst _ rfl rfl rfl id hr) hs he
  case write _ a _ _ =>
    refine keeps_runSupplied (fun {r} hr => ?_) hs he
    dsimp only
    have h1 : P (r.portReturns a []) := hst _ rfl rfl rfl id hr
    split
    next hw =>
      refine when_keeps h1 fun _ => hst _ rfl rfl rfl (fun ho => ?_) h1
      obtain ⟨hi, hk, -, hrest⟩ := ho
      exact ⟨hi, hk, by simpa using writeOperands_bound hw, hrest⟩
    next => exact h1
  case writeCompletion =>
    refine keeps_runSupplied (fun hr => ?_) hs he
    split
    next hw => exact when_keeps hr fun _ => hst _ rfl rfl rfl (fun ho => ho.completeWrite _ hw) hr
    next => exact hr
  case reportTick => exact keeps_runAt (fun hr => when_keeps hr fun _ => h.tick trivial trivial hr) hs he
  case joinWindowEnd => exact keeps_runAt (fun hr => when_keeps hr fun _ => h.tick trivial trivial hr) hs he
  case heardStatusTimeout => exact keeps_runAt (fun hr => h.bus _ (by simp [setAt]) (.inl rfl) id hr) hs he
  case isolateTimeout => exact keeps_runAt (fun hr => when_keeps hr fun _ => h.enter _ (fun _ => trivial) hr) hs he
  case transmissionAttempt => exact keeps_runAt h.tryAttempt hs he
  case defer => exact keeps_runAt (fun hr => when_keeps hr fun _ => h.quiet _ hr) hs he
  case attemptCompleted =>
    refine keeps_runAt (fun hr => ?_) hs he
    split
    · exact h.takeOwn _ trivial (h.bus _ rfl (.inl rfl) QueueOk.leaveQueue hr)
    · exact hr
  case collision =>
    exact keeps_runAt (fun hr => when_keeps hr fun _ => h.bus _ rfl (.inl rfl) QueueOk.collideQueue hr) hs he
  case echoMiss =>
    refine keeps_runAt (fun hr => when_keeps hr fun _ => ?_) hs he
    have h1 := h.bus Bif.missed rfl (.inl rfl) QueueOk.leaveQueue hr
    exact when_keeps h1 fun _ => h.enter _ (fun _ => trivial) h1
  case invalidTransmission => exact keeps_runAt (fun hr => when_keeps hr fun _ => h.quiet _ hr) hs he
  case duplicateAddress =>
    refine keeps_runAt (fun hr => ?_) hs he
    split
    · exact when_keeps hr fun _ => h.seeDuplicate trivial hr
    · exact hr
  case stateReceived => exact keeps_runAt (h.receive (fun f hr => h.takeState f trivial trivial hr) _ _) hs he
  case summaryReceived => exact keeps_runAt (h.receive (fun f hr => h.takeSummary f trivial hr) _ _) hs he
  case alarmReceived => exact keeps_runAt (h.receive (fun f hr => h.takeAlarm f trivial hr) _ _) hs he
  case stepReceived => exact keeps_runAt (h.receive (fun f hr => h.takeStep f trivial hr) _ _) hs he
  case lineReceived => exact keeps_runAt (h.receive (fun f hr => h.takeLine f trivial hr) _ _) hs he
  case dwellExpiry => exact keeps_runAt (fun hr => when_keeps hr fun _ => h.enter _ (fun _ => trivial) hr) hs he
  case settleExpiry =>
    refine keeps_runAt (fun hr => when_keeps hr fun hp => ?_) hs he
    split
    · exact h.resettle hr
    · simp only [State.phaseExpires, Bool.and_eq_true, beq_iff_eq] at hp
      exact h.restartSettle hp.1 hr
  case agreeExpiry => exact keeps_runAt (fun hr => when_keeps hr fun _ => h.resettle hr) hs he
  case armExpiry => exact keeps_runAt (fun hr => when_keeps hr fun _ => h.resettle hr) hs he
  case reviseExpiry => exact keeps_runAt (fun hr => when_keeps hr fun _ => h.abandonRevision hr) hs he
  case buildStart =>
    refine keeps_runAt (fun hr => when_keeps hr fun hb => h.startWalk ?_ hr) hs he
    simp only [Bool.and_eq_true, beq_iff_eq] at hb
    rw [hb.1.1.1]
    rfl
  case walkRead =>
    exact keeps_runAt (fun hr => when_keeps hr fun hb => h.walkOne (by simpa using hb) hr) hs he
  case finishingStep =>
    refine keeps_runAt (fun hr => when_keeps hr fun hb => ?_) hs he
    exact h.handVerdict (h.finishWalk (by simpa using hb) hr)
  case agingDeadline =>
    refine keeps_runAt (fun hr => ?_) hs he
    split
    next hb => exact when_keeps hr fun _ => h.ageCandidate hb hr
    next => exact hr
  case conversionComplete =>
    refine keeps_runAt (fun hr => ?_) hs he
    split
    · exact when_keeps hr fun _ => h.convert (hm.resolve_left fun hn => hn _ _ _ rfl) _ _ _ hr
    · exact hr
  case quietMarkExpiry => exact keeps_runAt (fun hr => when_keeps hr fun _ => h.quietMark hr) hs he
  case catchTimerExpiry => exact keeps_runAt (fun hr => when_keeps hr fun _ => h.endCatch _ _ _ _ hr) hs he
  case budgetExpiry => exact keeps_runAt (fun hr => when_keeps hr fun _ => h.budgetOver hr) hs he
  case faultInputChange =>
    exact keeps_runAt (fun hr => h.faultInput (hl.resolve_left fun hn => hn _ _ _ rfl) _ _ hr) hs he
  case restHoldoffExpiry => exact keeps_runAt (fun hr => when_keeps hr fun _ => h.restElapsed hr) hs he
  case bypassFbChange =>
    exact keeps_runAt (fun hr => h.feedbackChange (hfb.resolve_left fun hn => hn _ _ rfl) _ hr) hs he
  case contactExpiry =>
    exact keeps_runAt (fun hr => when_keeps hr fun hd => h.contactExpires (isSome_of_due hd) hr) hs he
  case gateOffWaitEnd =>
    exact keeps_runAt (fun hr => when_keeps hr fun hd =>
      h.bypass _ rfl (fun ho => ho.gateOffEnds _ _ (isSome_of_due hd)) hr) hs he
  case driveTripRising => exact keeps_runAt (h.inputChange _ _) hs he
  case brakeOpenFalling => exact keeps_runAt (h.inputChange _ _) hs he
  case faultRstFalling => exact keeps_runAt (h.inputChange _ _) hs he
  case discreteInputChange => exact keeps_runAt (h.inputChange _ _) hs he
  case transferStart => exact keeps_runAt (fun hr => when_keeps hr fun _ => h.port _ hr) hs he
  case transferEnd =>
    refine keeps_runAt (fun hr => ?_) hs he
    split
    · exact when_keeps hr fun _ => h.port _ hr
    · exact hr
  case switchPulseEnd => exact keeps_runAt (fun hr => when_keeps hr fun _ => h.port _ hr) hs he
  case lsckClockEdge => exact keeps_runAt (fun hr => h.port _ hr) hs he

end KeptIn

/-- A predicate kept by every kind of change and by what the resets and the loss of supply leave. -/
structure KeptByCommands (P : State → Prop) : Prop extends KeptIn .full P where
  advance : ∀ {s : State} (t : Time), P s → P (s.advance t)
  store : KeptByStore P
  measure : ∀ {s : State} (f : Watch → Watch), P s → P (s.onWatch f)
  feedback : ∀ {s : State} (f : Bypass → Bypass), (BypassOk s.bypass → BypassOk (f s.bypass)) → P s → P (s.onBypass f)
  supply : ∀ {s : State}, P s → P { s with powered := false }
  queue : ∀ {s : State} (cs : List Instr), P s → P { s with pending := cs }
  reset : ∀ {s : State} (now : Time) (st : Store) (b : Bypass), (StoreOk s.store → StoreOk st) →
    (BypassOk s.bypass → BypassOk b) → P s → P (State.afterReset now st b s.freeCount s.pending)

/-- R181, R182: the store after a power-on reset keeps its rules. -/
theorem StoreOk.powerOn {image : List Byte} (now : Time) (x : Straps) (low : Bool) (h : image.length = 64) :
    StoreOk (Store.powerOn now image x low) :=
  ⟨h, h, by simp [Store.powerOn], rfl, rfl, by simp [Store.powerOn]⟩

/-- R184: the store at the end of a pin reset keeps its rules. -/
theorem StoreOk.pinReset {st : Store} (x : Straps) (h : StoreOk st) : StoreOk (st.pinReset x) :=
  ⟨h.1, h.2.1, h.2.2.1, rfl, rfl, rfl⟩

/-- R184: the Bypass Controller from the start of a pin reset keeps its rules. -/
theorem bypassOk_inReset (now : Time) (b : Bypass) : BypassOk (b.inReset now) := by
  unfold Bypass.inReset
  split <;> simp [BypassOk, Bypass.init]

/-- R184: the Bypass Controller at the end of a pin reset keeps its rules. -/
theorem bypassOk_afterPinReset (b : Bypass) : BypassOk b.afterPinReset := by
  simp [BypassOk, Bypass.afterPinReset, Bypass.init]

namespace KeptByCommands

variable {P : State → Prop} (h : KeptByCommands P) {s s' : State}
include h

theorem resetEdge (e : ResetEdge) (x : Straps) (hs : P s) : P (s.resetEdge e x) := by
  have hpin {r : State} (low : Bool) (hr : P r) : P (r.resetPin low) := h.store _ rfl rfl rfl id hr
  unfold State.resetEdge
  split
  · refine when_keeps hs fun _ => ?_
    split
    · exact h.reset _ _ _ id (fun _ => bypassOk_inReset _ _) hs
    · exact hpin _ hs
  · refine when_keeps hs fun _ => ?_
    split
    · exact h.reset _ _ _ (StoreOk.pinReset x) (fun _ => bypassOk_afterPinReset _) hs
    · exact hpin _ hs

theorem unsupplied (hs : P s) : P s.unsupplied := by
  have h1 := h.store (fun st => { st with write := none, portAccess := none, portOut := [] }) rfl rfl rfl
    (fun ho => ⟨ho.1, ho.2.1, by simp, ho.2.2.2⟩) (h.supply hs)
  have h2 := h.bus (fun u => { u with queue := [], attempt := none }) rfl (.inl rfl) (fun _ => queueOk_nil) h1
  exact h.port _ (h.feedback _ (fun _ => bypassOk_init) h2)

/-- A predicate kept by every kind of change is kept by every step. -/
theorem step (hs : P s) (he : Machine.step s = .next s') : P s' := by
  unfold Machine.step at he
  split at he
  · obtain rfl := Host.Outcome.next.inj he
    exact hs
  next c rest hq =>
    clear hq
    have hr : P { s with pending := rest } := h.queue rest hs
    cases hc : resets c
    · exact h.exec h.store (.inr fun f _ => h.measure f) (.inr fun _ _ => h.measure _) (.inr fun _ => h.feedback _ id) hc
        (h.advance c.time hr) he
    · cases c <;> simp only [resets, Bool.false_eq_true] at hc
      case powerOnReset t x =>
        obtain rfl := Host.Outcome.next.inj he
        exact h.reset (s := { s with pending := rest }) _ _ _ (fun hst => StoreOk.powerOn _ x _ hst.1) (fun _ => bypassOk_init) hr
      case pinReset t e x =>
        obtain rfl := Host.Outcome.next.inj he
        exact h.resetEdge e x (h.advance t hr)
      case lossOfSupply t => exact keeps_runSupplied h.unsupplied (h.advance t hr) he

end KeptByCommands

end Sys2Proof.Proofs

/-! # The invariants

PROOFS that every step keeps each invariant of Safety.lean: for each, what the kinds of change of `KeptByCommands` make of
it. -/

namespace Sys2Proof.Proofs

open Sys2Proof.Machine Sys2Proof.Safety

/-! ## The transmit queue and the heard table (R152, R156) -/

theorem blocksOnEntry_bus (p : Phase) (s : State) : (s.blocksOnEntry p).bus = Bif.onEntry s.now p s.bus := by
  simp [State.blocksOnEntry]

theorem queueAndHeard_keptByParts : KeptByParts fun s => QueueSound s ∧ HeardSized s := by
  constructor
  case bus =>
    rintro s f hlen - hq ⟨hs, hh⟩
    exact ⟨hq hs, hlen.trans hh⟩
  case planEntryChange =>
    intro s i hs
    simpa [QueueSound, HeardSized] using hs
  case blocks =>
    intro s p _ _ hs
    unfold QueueSound HeardSized
    rw [blocksOnEntry_bus]
    exact hs
  case setEpochCleared =>
    intro s e _ hs
    simpa [QueueSound, HeardSized] using hs
  all_goals
    intros
    assumption

theorem queueAndHeard_kept : KeptByCommands fun s => QueueSound s ∧ HeardSized s :=
  { queueAndHeard_keptByParts.kept (by intro r e hr; simpa [QueueSound, HeardSized] using hr) fun _ hr => hr with
    advance := fun t hs => ⟨hs.1, by simpa [HeardSized, State.advance] using hs.2⟩
    store := fun _ _ _ _ _ hs => hs
    measure := fun _ hs => hs
    feedback := fun _ _ hs => hs
    supply := fun hs => hs
    queue := fun _ hs => hs
    reset := fun _ _ _ _ _ _ => ⟨queueOk_nil, rfl⟩ }

/-- Settles O55: the queue's rules and the heard table's size are kept by every kind of change. -/
theorem stepsKeepQueueAndHeardTable : Obligations.StepsKeepQueueAndHeardTable :=
  fun _ _ hq hh he => queueAndHeard_kept.step ⟨hq, hh⟩ he

/-! ## The roster and the round (R4, R35) -/

/-- R35: the trip times that remain in the window are of the list. -/
theorem pruneAttempts_sublist (now w : Time) (l : List Time) : (pruneAttempts now w l).Sublist l := List.dropWhile_sublist _

/-- R35: a trip recorded keeps the attempt list in order. -/
theorem recordAttempt_sound {now : Time} {l : List Time} (ho : l.Pairwise (· < ·)) (hn : ∀ t ∈ l, t ≤ now) :
    (recordAttempt now l).Pairwise (· < ·) ∧ ∀ t ∈ recordAttempt now l, t ≤ now := by
  unfold recordAttempt
  split
  · exact ⟨ho, hn⟩
  next hlast =>
    refine ⟨?_, by simpa [or_imp, forall_and] using hn⟩
    rw [List.pairwise_append]
    refine ⟨ho, List.pairwise_singleton _ _, fun t ht u hu => ?_⟩
    obtain rfl := List.mem_singleton.mp hu
    refine Nat.lt_of_le_of_ne (hn t ht) ?_
    rintro rfl
    refine hlast ?_
    obtain ⟨front, back, rfl⟩ := List.append_of_mem ht
    rw [List.pairwise_append] at ho
    have hback : back = [] := by
      rw [List.eq_nil_iff_forall_not_mem]
      intro u hu
      have hlt := (List.pairwise_cons.mp ho.2.1).1 u hu
      exact absurd (hn u (by simp [hu])) (Nat.not_le_of_lt hlt)
    simp [hback]

theorem attemptsSound_of_sublist {r s : State} (hs : AttemptsSound s) (hl : r.round.attempts.Sublist s.round.attempts)
    (hp : r.params = s.params) (hn : s.now ≤ r.now) : AttemptsSound r := by
  obtain ⟨hlen, ho, hnow⟩ := hs
  exact ⟨by rw [hp]; exact Nat.le_trans hl.length_le hlen, ho.sublist hl, fun t ht => Nat.le_trans (hnow t (hl.subset ht)) hn⟩

theorem rosterSized_congr {r s : State} (hs : RosterSized s) (hl : r.roster.entries.length = s.roster.entries.length)
    (hv : r.store.valid = s.store.valid) (hp : r.params = s.params) : RosterSized r := by
  unfold RosterSized
  rw [hl, hv, hp]
  exact hs

/-- R29: a change of epoch keeps the attempt list. -/
theorem setEpoch_attempts (e : Half) (s : State) : (s.setEpoch e).round.attempts = s.round.attempts := by
  by_cases he : e = s.round.epoch
  · rw [State.setEpoch, if_pos he]
  · rw [State.setEpoch_round he]

theorem rosterAndAttempts_setEpoch {s : State} (e : Half) (hs : RosterSized s ∧ AttemptsSound s) :
    RosterSized (s.setEpoch e) ∧ AttemptsSound (s.setEpoch e) :=
  ⟨rosterSized_congr hs.1 (by simp) (by simp) (State.params_congr (by simp)),
    attemptsSound_of_sublist hs.2 (by simp [setEpoch_attempts]) (State.params_congr (by simp)) (by simp)⟩

theorem rosterAndAttempts_keptByParts : KeptByParts fun s => RosterSized s ∧ AttemptsSound s := by
  constructor
  case roster =>
    rintro s f hlen - ⟨hr, ha⟩
    exact ⟨rosterSized_congr hr hlen rfl rfl, ha⟩
  case round =>
    rintro s f - - - - hsub - - ⟨hr, ha⟩
    exact ⟨hr, attemptsSound_of_sublist ha hsub rfl (Nat.le_refl _)⟩
  case planEntryChange =>
    rintro s i ⟨hr, ha⟩
    exact ⟨rosterSized_congr hr (by simp) (by simp) (State.params_congr (by simp)),
      attemptsSound_of_sublist ha (by simp) (State.params_congr (by simp)) (by simp)⟩
  case blocks =>
    rintro s p - - ⟨hr, ha⟩
    exact ⟨rosterSized_congr hr (by simp) (by simp) (State.params_congr (by simp)),
      attemptsSound_of_sublist ha (by simp [State.blocksOnEntry, Round.onEntry]) (State.params_congr (by simp)) (by simp)⟩
  case setEpochCleared => exact fun e _ hs => rosterAndAttempts_setEpoch e hs
  all_goals
    intros
    assumption

theorem rosterAndAttempts_kept : KeptByCommands fun s => RosterSized s ∧ AttemptsSound s := by
  refine { rosterAndAttempts_keptByParts.kept rosterAndAttempts_setEpoch ?record with
    advance := fun t hs => ⟨hs.1, attemptsSound_of_sublist hs.2 (List.Sublist.refl _) rfl (Nat.le_max_left _ _)⟩
    store := ?store
    measure := fun _ hs => hs
    feedback := fun _ _ hs => hs
    supply := fun hs => hs
    queue := fun _ hs => hs
    reset := ?reset }
  case record =>
    rintro s hroom ⟨hr, hlen, ho, hn⟩
    have hsub := pruneAttempts_sublist s.now (sec s.params.window) s.round.attempts
    obtain ⟨ho', hn'⟩ := recordAttempt_sound (ho.sublist hsub) fun t ht => hn t (hsub.subset ht)
    refine ⟨hr, ?_, ho', hn'⟩
    show (recordAttempt _ _).length ≤ _
    unfold recordAttempt
    split
    · exact Nat.le_of_lt hroom
    · rw [List.length_append]
      exact hroom
  case store =>
    rintro s f hw hv - - ⟨hr, ha⟩
    have hp : (s.onStore f).params = s.params := by
      show Params.effective (f s.store).valid (f s.store).working = _
      rw [hw, hv]
      rfl
    exact ⟨rosterSized_congr hr rfl hv hp, attemptsSound_of_sublist ha (List.Sublist.refl _) hp (Nat.le_refl _)⟩
  case reset =>
    intro s now st b _ _ _
    refine ⟨?_, by simp [AttemptsSound, State.afterReset, Round.init]⟩
    simp only [RosterSized, State.afterReset, Roster.init, State.params]
    split <;> simp [*]

/-! ## The phase timer and the resettle count (Tables 2-2 and 2-9) -/

/-- Table 2-9: an entry starts a timer in just the phases that have one. -/
theorem phaseDeadline_isSome (now : Time) (par : Params) (p : Phase) :
    (phaseDeadline now par p).isSome = timedPhase p := by cases p <;> rfl

/-- Table 2-2: the resettle count at an entry. -/
theorem onEntry_resettle_le (now : Time) (par : Params) (p : Phase) (r : Round) :
    (r.onEntry now par p).resettle ≤ r.resettle := by
  simp only [Round.onEntry]
  split <;> simp

theorem blocksOnEntry_round (p : Phase) (s : State) : (s.blocksOnEntry p).round = s.round.onEntry s.now s.params p := by
  simp [State.blocksOnEntry, State.params]

theorem roundSound_setEpoch {s : State} (e : Half) (hs : RoundSound s) : RoundSound (s.setEpoch e) := by
  have hp : (s.setEpoch e).params = s.params := State.params_congr (by simp)
  unfold RoundSound
  rw [hp]
  by_cases he : e = s.round.epoch
  · rw [State.setEpoch, if_pos he]
    exact hs
  · rw [State.setEpoch_round he]
    exact ⟨hs.1, Nat.zero_le _⟩

theorem roundSound_keptByParts : KeptByParts RoundSound := by
  constructor
  case round =>
    rintro s f hphase - htimer hle - - - ⟨ht, hr⟩
    exact ⟨by simpa [hphase, htimer] using ht, Nat.le_trans hle hr⟩
  case countResettle => exact fun hs => ⟨hs.1, Nat.min_le_right _ _⟩
  case restartSettle =>
    intro s hp hs
    refine ⟨?_, hs.2⟩
    simp [State.restartSettle, hp, timedPhase]
  case planEntryChange =>
    intro s i hs
    have hp : (s.planEntryChange i).params = s.params := State.params_congr (by simp)
    simpa [RoundSound, hp] using hs
  case blocks =>
    intro s p _ _ hs
    have hp : (s.blocksOnEntry p).params = s.params := State.params_congr (by simp)
    unfold RoundSound
    rw [blocksOnEntry_round, hp]
    exact ⟨phaseDeadline_isSome s.now s.params p, Nat.le_trans (onEntry_resettle_le ..) hs.2⟩
  case setEpochCleared => exact fun e _ hs => roundSound_setEpoch e hs
  all_goals
    intros
    assumption

theorem roundSound_kept : KeptByCommands RoundSound :=
  { roundSound_keptByParts.kept roundSound_setEpoch fun _ hr => hr with
    advance := fun _ hs => hs
    store := by
      intro s f hw hv _ _ hs
      have hp : (s.onStore f).params = s.params := by
        show Params.effective (f s.store).valid (f s.store).working = _
        rw [hw, hv]
        rfl
      unfold RoundSound
      rw [hp]
      exact hs
    measure := fun _ hs => hs
    feedback := fun _ _ hs => hs
    supply := fun hs => hs
    queue := fun _ hs => hs
    reset := fun _ _ _ _ _ _ => ⟨rfl, Nat.zero_le _⟩ }

/-- Settles O56: the roster's size, the attempt list, the phase timer and the resettle count are kept by every kind of
change. -/
theorem stepsKeepRosterAndRound : Obligations.StepsKeepRosterAndRound :=
  ⟨fun _ _ hr ha he => rosterAndAttempts_kept.step ⟨hr, ha⟩ he, fun _ _ hs he => roundSound_kept.step hs he⟩

end Sys2Proof.Proofs

namespace Sys2Proof.Proofs

open Sys2Proof.Machine Sys2Proof.Safety

/-! ## The Plan Unit (R64, R66, R76, R79) -/

/-- R64, R66, R76, R79: the rules of the Plan Unit beside an epoch, where a phase clears the plan or does not. -/
structure PlanOk (epoch : Half) (clears : Bool) (u : PlanUnit) : Prop where
  inForce   : ∀ p ∈ u.inForce, p.verdict = .viable ∧ p.body.isSome = true ∧ p.epoch = epoch
  candidate : ∀ c ∈ u.candidate, c.epoch = epoch
  none      : u.build = .none → u.candidate = .none
  cleared   : clears = true → u.inForce = .none ∧ u.build = .none
  tallies   : ∀ r ∈ u.tallies.pending, walkReason r = true

theorem planOk_iff (s : State) :
    PlanSound s ∧ TalliesSound s ↔ PlanOk s.round.epoch s.round.phase.clearsPlan s.plan :=
  ⟨fun ⟨⟨h1, h2, h3, h4⟩, h5⟩ => ⟨h1, h2, h3, h4, h5⟩, fun ⟨h1, h2, h3, h4, h5⟩ => ⟨⟨h1, h2, h3, h4⟩, h5⟩⟩

/-- R66: with the candidate discarded and no plan in force the rules hold in every epoch and phase. -/
theorem planOk_cleared (e : Half) (c : Bool) (u : PlanUnit) (hf : u.inForce = .none) (hc : u.candidate = .none)
    (hb : u.build = .none) (ht : u.tallies = Tallies.init) : PlanOk e c u := by
  constructor <;> simp [hf, hc, hb, ht, Tallies.init]

namespace PlanOk

variable {e : Half} {k : Bool} {u : PlanUnit}

theorem discard (h : PlanOk e k u) : PlanOk e k u.discard :=
  ⟨h.inForce, by simp [PlanUnit.discard], fun _ => rfl, fun hk => ⟨(h.cleared hk).1, rfl⟩,
    by simp [PlanUnit.discard, Tallies.init]⟩

theorem withSwitchRecord (r : Option SwitchRecord) (h : PlanOk e k u) : PlanOk e k { u with switchRecord := r } :=
  ⟨h.inForce, h.candidate, h.none, h.cleared, h.tallies⟩

/-- R63: a walk started beside a plan of the epoch. -/
theorem startWalk (r : Byte) (h : PlanOk e false u) :
    PlanOk e false { u with
      build := .walking, candidate := some (Plan.begun e r), cursor := 1, tallies := Tallies.init } :=
  ⟨h.inForce, by simp [Plan.begun], by simp, by simp, by simp [Tallies.init]⟩

/-- A phase that clears the plan holds no walk. -/
theorem not_clears (h : PlanOk e k u) (hb : u.build ≠ .none) : k = false := by
  cases hk : k
  · rfl
  · exact absurd (h.cleared hk).2 hb

/-- R64: an entry read adds reasons of Table 3-3 alone. -/
theorem classify_pending (n i : Nat) (d : Time) (x : RosterEntry) {t : Tallies}
    (ht : ∀ r ∈ t.pending, walkReason r = true) : ∀ r ∈ (classify n i d x t).pending, walkReason r = true := by
  unfold classify
  split
  · exact ht
  · exact ht
  · exact ht
  · simpa [or_imp, forall_and, walkReason] using ht
  · simp only [List.mem_append, List.mem_singleton]
    rintro r (hr | rfl)
    · exact ht r hr
    · split <;> rfl

/-- R76: a VIABLE candidate of the epoch becomes the plan in force. -/
theorem adoptPlan {c : Plan} (hc : c ∈ u.candidate) (hv : c.verdict = .viable) (hb : c.body.isSome = true)
    (h : PlanOk e false u) : PlanOk e false (u.adoptPlan c) :=
  ⟨by simpa [PlanUnit.adoptPlan] using ⟨hv, hb, h.candidate c hc⟩, by simp [PlanUnit.adoptPlan, PlanUnit.discard],
    fun _ => rfl, by simp, by simp [PlanUnit.adoptPlan, PlanUnit.discard, Tallies.init]⟩

/-- R30, R66, R79: the Plan Unit at an entry to a phase. -/
theorem onEntry (p0 p : Phase) (h : PlanOk e k u) : PlanOk e p.clearsPlan (u.onEntry p0 p) := by
  have key : PlanOk e p.clearsPlan (if p.clearsPlan then { u.discard with inForce := .none }
      else if p = .halted ∧ p0 = .revising then u.discard else u) := by
    cases hp : p.clearsPlan
    · have h' : PlanOk e false u := ⟨h.inForce, h.candidate, h.none, by simp, h.tallies⟩
      simp only [Bool.false_eq_true, if_false]
      split
      · exact h'.discard
      · exact h'
    · exact planOk_cleared e true _ rfl rfl rfl rfl
  unfold PlanUnit.onEntry
  dsimp only
  split
  · exact key
  · exact key.withSwitchRecord _

end PlanOk

/-- R68, R76: a VIABLE candidate with its digest is the candidate held, VIABLE and with a body. -/
theorem viableCandidate_some {s : State} {c : Plan} {d : Half} (h : s.viableCandidate = some (c, d)) :
    s.plan.build = .built ∧ s.plan.candidate = some c ∧ c.verdict = .viable ∧ ∃ b, c.body = some b ∧ d = b.digest := by
  unfold State.viableCandidate at h
  split at h
  next c' hc =>
    unfold State.builtCandidate at hc
    split at hc
    next hb =>
      split at h
      next b hv hbody =>
        obtain ⟨rfl, rfl⟩ := Prod.mk.inj (Option.some.inj h)
        exact ⟨hb, hc, hv, b, hbody, rfl⟩
      next => simp at h
    next => simp at hc
  next => simp at h

/-- The candidate, when BUILT, is the candidate held. -/
theorem builtCandidate_some {s : State} {c : Plan} :
    s.builtCandidate = some c ↔ s.plan.build = .built ∧ s.plan.candidate = some c := by
  unfold State.builtCandidate
  split <;> simp_all

@[simp] theorem finishPlan_epoch (p : Params) (w : Time) (t : Tallies) (c : Plan) : (finishPlan p w t c).epoch = c.epoch := by
  unfold finishPlan
  dsimp only
  split <;> rfl

/-- The Plan Unit's rules in a state. -/
def PlanHolds (s : State) : Prop := PlanOk s.round.epoch s.round.phase.clearsPlan s.plan

theorem planHolds_startWalk {s : State} (hp : s.round.phase.clearsPlan = false) (hs : PlanHolds s) :
    PlanHolds s.startWalk := by
  unfold PlanHolds at hs ⊢
  rw [hp] at hs
  show PlanOk s.round.epoch s.round.phase.clearsPlan s.startWalk.plan
  rw [hp]
  exact hs.startWalk s.buildRevision

/-- R66: an epoch taken in a phase that clears the plan. -/
theorem planHolds_setEpoch_cleared {s : State} (e : Half) (hp : s.round.phase.clearsPlan = true) (hs : PlanHolds s) :
    PlanHolds (s.setEpoch e) := by
  unfold State.setEpoch
  split
  · exact hs
  · refine when_keeps ?_ fun _ => ?_ <;>
    exact (planOk_cleared e _ _ (hs.cleared hp).1 rfl rfl rfl)

theorem blocksOnEntry_plan (p : Phase) (s : State) : (s.blocksOnEntry p).plan = s.plan.onEntry s.round.phase p := by
  simp [State.blocksOnEntry]

/-- R66, R79: an entry to a phase that clears the plan leaves the rules kept, whatever stood before. -/
theorem planHolds_enterBase {s : State} (p : Phase) (hp : p.clearsPlan = true) : PlanHolds (s.enterBase p) := by
  obtain ⟨hf, hc, hb, -⟩ := State.enterBase_plan p s hp
  refine planOk_cleared _ _ _ hf hc hb ?_
  have hw (r : State) : r.walkOnEntry p = r := by cases p <;> simp_all [Phase.clearsPlan, State.walkOnEntry]
  simp [State.enterBase, hw, blocksOnEntry_plan, PlanUnit.onEntry, hp, PlanUnit.discard, apply_ite PlanUnit.tallies]

theorem planHolds_keptByParts : KeptByParts PlanHolds := by
  constructor
  case round =>
    intro s f hphase hepoch _ _ _ _ _ hs
    unfold PlanHolds at hs ⊢
    simpa [hphase, hepoch] using hs
  case startWalk => exact planHolds_startWalk
  case planEntryChange =>
    intro s i hs
    unfold State.planEntryChange
    split
    next => exact hs
    next hb =>
      split
      · exact planHolds_startWalk (hs.not_clears (by simp [hb])) hs
      · exact hs
    next hb => exact planHolds_startWalk (hs.not_clears (by simp [hb])) hs
    next hb => exact planHolds_startWalk (hs.not_clears (by simp [hb])) hs
  case walkOne =>
    intro s hb hs
    have hk := hs.not_clears (by simp [hb])
    have ht := hs.tallies
    simp only [PlanHolds, State.walkOne, State.onPlan_plan, State.onPlan_round, hk]
    split
    · exact ⟨hs.inForce, by simpa using hs.candidate, by simp, by simp, PlanOk.classify_pending _ _ _ _ ht⟩
    · exact ⟨hs.inForce, hs.candidate, hs.none, by simp, PlanOk.classify_pending _ _ _ _ ht⟩
  case finishWalk =>
    intro s hb hs
    have hk := hs.not_clears (by simp [hb])
    simp only [PlanHolds, State.finishWalk, State.onPlan_plan, State.onPlan_round, hk]
    exact ⟨hs.inForce, by simpa using hs.candidate, by simp, by simp, hs.tallies⟩
  case age =>
    intro s c hc hs
    obtain ⟨hb, hc⟩ := builtCandidate_some.mp hc
    exact ⟨hs.inForce, by simpa [Plan.age] using hs.candidate c hc, by simp [hb], hs.cleared, hs.tallies⟩
  case discard => exact fun hs => hs.discard
  case clearPlan => exact fun hs => planOk_cleared _ _ _ rfl rfl rfl rfl
  case adopt =>
    intro s c d hc hp hs
    obtain ⟨-, hcand, hv, b, hb, -⟩ := viableCandidate_some hc
    unfold PlanHolds at hs
    rw [hp] at hs
    show PlanOk s.round.epoch s.round.phase.clearsPlan (s.plan.adoptPlan c)
    rw [hp]
    exact hs.adoptPlan (c := c) hcand hv (by simp [hb])
  case switchRecord => exact fun f hs => hs.withSwitchRecord _
  case blocks =>
    intro s p _ _ hs
    have := PlanOk.onEntry s.round.phase p hs
    unfold PlanHolds
    rw [blocksOnEntry_plan, blocksOnEntry_round]
    exact this
  case setEpochCleared => exact planHolds_setEpoch_cleared
  all_goals
    intros
    assumption

theorem planHolds_kept : KeptByCommands PlanHolds :=
  { planHolds_keptByParts with
    epochTrip := by
      intro s e _
      unfold State.takeTrip
      dsimp only
      split <;> exact planHolds_enterBase _ rfl
    epochEnter := fun _ p hp _ _ => planHolds_enterBase p hp
    advance := fun _ hs => hs
    store := fun _ _ _ _ _ hs => hs
    measure := fun _ hs => hs
    feedback := fun _ _ hs => hs
    supply := fun hs => hs
    queue := fun _ hs => hs
    reset := fun _ _ _ _ _ _ => planOk_cleared _ _ _ rfl rfl rfl rfl }

/-- Settles O57: the Plan Unit's rules are kept by every kind of change; a change of epoch inside the drive ends in a phase
that clears the plan. -/
theorem stepsKeepPlanOfEpoch : Obligations.StepsKeepPlanOfEpoch := by
  intro s s' hp ht he
  exact (planOk_iff s').mpr (planHolds_kept.step ((planOk_iff s).mp ⟨hp, ht⟩) he)

/-! ## The scanner and the catch (R104, R110, R120) -/

/-- The rules of the result slots, the crossing list and the catch in a state. -/
def SenseHolds (s : State) : Prop := SlotsSound s ∧ CrossingsSound s ∧ CatchSound s

theorem blocksOnEntry_catcher (p : Phase) (s : State) :
    (s.blocksOnEntry p).catcher =
      if s.isLine then s.catcher.onEntry s.round.epoch s.params.quietLimit p else s.catcher := by
  simp [State.blocksOnEntry, State.isLine, State.params]

@[simp] theorem catcherOnEntry_active (e : Half) (q : Nat) (p : Phase) (c : CatchUnit) : (c.onEntry e q p).active = c.active := by
  unfold CatchUnit.onEntry
  dsimp only
  repeat' split
  all_goals rfl

@[simp] theorem catcherOnEntry_crossings (e : Half) (q : Nat) (p : Phase) (c : CatchUnit) :
    (c.onEntry e q p).crossings = c.crossings := by
  unfold CatchUnit.onEntry
  dsimp only
  repeat' split
  all_goals rfl

/-- R110: beside a sound catch, none is ACTIVE where none is in CATCHING at the line station. -/
theorem catch_inactive {s : State} (hs : CatchSound s)
    (h : s.round.phase = .catching → (s.isLine && s.catcher.active) = false) : s.catcher.active = false := by
  cases ha : s.catcher.active
  · rfl
  · obtain ⟨hl, hp⟩ := hs.1 ha
    simpa [hl, ha] using h hp

theorem senseHolds_setEpoch {s : State} (e : Half) (hs : SenseHolds s) : SenseHolds (s.setEpoch e) := by
  unfold State.setEpoch
  split
  · exact hs
  · exact when_keeps hs fun _ => hs

theorem senseHolds_keptByParts : KeptByParts SenseHolds := by
  constructor
  case round =>
    rintro s f hphase - - - - - - ⟨h1, h2, h3⟩
    exact ⟨h1, h2, fun ha => ⟨(h3.1 ha).1, hphase.trans (h3.1 ha).2⟩, h3.2⟩
  case planEntryChange =>
    intro s i hs
    simpa [SenseHolds, SlotsSound, CrossingsSound, CatchSound, State.isLine] using hs
  case walkOne =>
    intro s _ hs
    exact hs
  case scanner =>
    rintro s f hmode hslots ⟨h1, h2, h3⟩
    exact ⟨hslots h1, h2, h3.1, hmode.trans h3.2⟩
  case catcher =>
    rintro s f hactive hcross ⟨h1, h2, h3⟩
    refine ⟨h1, hcross h2, fun ha => h3.1 (hactive ▸ ha), ?_⟩
    show s.scanner.mode = if (f s.catcher).active then .continuous else .single
    rw [hactive]
    exact h3.2
  case catching =>
    rintro s f g hactive hmode hcross hslots ⟨h1, h2, -⟩
    exact ⟨hslots h1, hcross h2, hactive, hmode⟩
  case blocks =>
    rintro s p hidle - ⟨h1, h2, h3⟩
    have hoff := catch_inactive h3 hidle
    have hmode : s.scanner.mode = .single := by simpa [hoff] using h3.2
    have hc : (s.blocksOnEntry p).catcher.active = s.catcher.active ∧
        (s.blocksOnEntry p).catcher.crossings = s.catcher.crossings := by
      rw [blocksOnEntry_catcher]
      split <;> simp
    refine ⟨?_, ?_, ?_⟩
    · simpa [SlotsSound] using h1
    · simpa [CrossingsSound, hc.2] using h2
    · simp [CatchSound, hc.1, hoff, hmode]
  case setEpochCleared => exact fun e _ hs => senseHolds_setEpoch e hs
  all_goals
    intros
    assumption

theorem senseHolds_kept : KeptByCommands SenseHolds :=
  { senseHolds_keptByParts.kept senseHolds_setEpoch fun _ hr => hr with
    advance := fun _ hs => hs
    store := by
      rintro s f - - hrole - ⟨h1, h2, h3⟩
      have hl : (s.onStore f).isLine = s.isLine := by
        show ((f s.store).role == .line) = _
        rw [hrole]
        rfl
      exact ⟨h1, h2, by rw [hl]; exact h3.1, h3.2⟩
    measure := fun _ hs => hs
    feedback := fun _ _ hs => hs
    supply := fun hs => hs
    queue := fun _ hs => hs
    reset := fun _ _ _ _ _ _ => ⟨⟨rfl, by simp [State.afterReset, Scanner.init, Slot.init]⟩, crossingsOk_nil,
      by simp [State.afterReset, CatchUnit.init], rfl⟩ }

/-- Settles O58: the rules of the slots, the crossing list and the catch are kept by every kind of change. -/
theorem stepsKeepScannerAndCatch : Obligations.StepsKeepScannerAndCatch :=
  fun _ _ h1 h2 h3 he => senseHolds_kept.step ⟨h1, h2, h3⟩ he

/-! ## The Bypass Controller (R137, R144) -/

/-- The Bypass Controller's rules in a state. -/
def BypassHolds (s : State) : Prop := BypassOk s.bypass

theorem bypassHolds_setEpoch {s : State} (e : Half) (hs : BypassHolds s) : BypassHolds (s.setEpoch e) := by
  simpa [BypassHolds] using hs

theorem bypassHolds_keptByParts : KeptByParts BypassHolds := by
  constructor
  case bypass => exact fun f _ hb hs => hb hs
  case planEntryChange =>
    intro s i hs
    simpa [BypassHolds] using hs
  case blocks =>
    intro s p _ _ hs
    simpa [BypassHolds] using hs
  case setEpochCleared => exact fun e _ hs => bypassHolds_setEpoch e hs
  all_goals
    intros
    assumption

theorem bypassHolds_kept : KeptByCommands BypassHolds :=
  { bypassHolds_keptByParts.kept bypassHolds_setEpoch fun _ hr => hr with
    advance := fun _ hs => hs
    store := fun _ _ _ _ _ hs => hs
    measure := fun _ hs => hs
    feedback := fun _ hb hs => hb hs
    supply := fun hs => hs
    queue := fun _ hs => hs
    reset := fun _ _ _ _ hb hs => hb hs }

/-- Settles O59: the Bypass Controller's rules are kept by every kind of change; GATE_EN asks for OPEN, in which the coil is
held. -/
theorem stepsKeepCoilHeldWhileGating : Obligations.StepsKeepCoilHeldWhileGating := by
  refine ⟨fun s s' hs he => ?_, fun s hs hg => ?_⟩
  · exact (bypassSound_iff s').mpr (bypassHolds_kept.step ((bypassSound_iff s).mp hs) he)
  · simp only [State.gateEn, Bool.and_eq_true, beq_iff_eq] at hg
    exact ((bypassSound_iff s).mp hs).hold_opened hg.1.2

/-! ## The Parameter Store (R181 to R187) -/

theorem storeSound_setEpoch {s : State} (e : Half) (hs : StoreSound s) : StoreSound (s.setEpoch e) := by
  simpa [StoreSound] using hs

theorem storeSound_keptByParts : KeptByParts StoreSound := by
  constructor
  case planEntryChange =>
    intro s i hs
    simpa [StoreSound] using hs
  case blocks =>
    intro s p _ _ hs
    simpa [StoreSound] using hs
  case setEpochCleared => exact fun e _ hs => storeSound_setEpoch e hs
  all_goals
    intros
    assumption

theorem storeSound_kept : KeptByCommands StoreSound :=
  { storeSound_keptByParts.kept storeSound_setEpoch fun _ hr => hr with
    advance := fun _ hs => hs
    store := fun _ _ _ _ ho hs => ho hs
    measure := fun _ hs => hs
    feedback := fun _ _ hs => hs
    supply := fun hs => hs
    queue := fun _ hs => hs
    reset := fun _ _ _ ho _ hs => ho hs }

/-- Settles O60: the store's rules are kept by every kind of change, a completed write and the resets among them. -/
theorem stepsKeepStoreConsistent : Obligations.StepsKeepStoreConsistent :=
  fun _ _ hs he => storeSound_kept.step hs he

end Sys2Proof.Proofs

/-! # What each command writes

PROOFS of what only certain commands write (O2): the counts, the levels of the fault inputs and the feedback by the kinds of
change of `Kept`; time, store, heard table, ticks and the Line Port's own registers by the frame of each operation. -/

namespace Sys2Proof.Proofs

open Sys2Proof.Machine Sys2Proof.Safety

/-! ## Counts, levels and feedback (R123, R124, R136) -/

theorem counts_keptByParts (k : Nat × Nat × Nat × Nat × Nat × Nat × Bool) :
    KeptByParts fun s => counts s.watch = k := by
  constructor
  case watch => exact fun f hc _ hs => hc.trans hs
  case planEntryChange =>
    intro s i hs
    simpa using hs
  case blocks =>
    intro s p _ _ hs
    simpa using hs
  case setEpochCleared =>
    intro s e _ hs
    simpa using hs
  all_goals
    intros
    assumption

theorem levels_keptByParts (k : Option Bool × Option Bool) : KeptByParts fun s => levels s.watch = k := by
  constructor
  case watch => exact fun f _ hl hs => hl.trans hs
  case planEntryChange =>
    intro s i hs
    simpa using hs
  case blocks =>
    intro s p _ _ hs
    simpa using hs
  case setEpochCleared =>
    intro s e _ hs
    simpa using hs
  all_goals
    intros
    assumption

theorem feedback_keptByParts (k : Option Bool) : KeptByParts fun s => s.bypass.feedback = k := by
  constructor
  case bypass => exact fun f hf _ hs => hf.trans hs
  case planEntryChange =>
    intro s i hs
    simpa using hs
  case blocks =>
    intro s p _ _ hs
    simpa using hs
  case setEpochCleared =>
    intro s e _ hs
    simpa using hs
  all_goals
    intros
    assumption

section

variable {c : Instr} {s s' : State} (hc : resets c = false) (he : exec c s = .next s')
include hc he

/-- R124: the counts change at the end of a conversion alone. -/
theorem exec_counts (hm : ∀ t v k, c ≠ .conversionComplete t v k) : counts s'.watch = counts s.watch :=
  ((counts_keptByParts (counts s.watch)).kept (fun _ hr => by simpa using hr) fun _ hr => hr).exec
    (fun _ _ _ _ _ hr => hr) (.inl hm) (.inr fun i _ hr => by cases i <;> exact hr) (.inr fun _ hr => hr) hc rfl he

/-- R123: the levels of the fault inputs change at their own changes alone. -/
theorem exec_levels (hl : ∀ t i a, c ≠ .faultInputChange t i a) : levels s'.watch = levels s.watch :=
  ((levels_keptByParts (levels s.watch)).kept (fun _ hr => by simpa using hr) fun _ hr => hr).exec
    (fun _ _ _ _ _ hr => hr) (.inr fun _ hf hr => hf.trans hr) (.inl hl) (.inr fun _ hr => hr) hc rfl he

/-- R136: the feedback changes at its own change alone. -/
theorem exec_feedback (hfb : ∀ t a, c ≠ .bypassFbChange t a) : s'.bypass.feedback = s.bypass.feedback :=
  ((feedback_keptByParts s.bypass.feedback).kept (fun _ hr => by simpa using hr) fun _ hr => hr).exec
    (fun _ _ _ _ _ hr => hr) (.inr fun _ _ hr => hr) (.inr fun _ _ hr => hr) (.inl hfb) hc rfl he

end

/-! ## Time, store and the registers that single commands write -/

/-- What a command that has no register of its own keeps. -/
structure Steady (a r : State) : Prop where
  now       : r.now = a.now
  pending   : r.pending = a.pending
  store     : r.store = a.store
  resetAt   : r.bus.resetAt = a.bus.resetAt
  nextTick  : r.bus.nextTick = a.bus.nextTick
  heard     : r.bus.heard = a.bus.heard
  duplicate : r.bus.duplicate = a.bus.duplicate
  lastMark  : r.port.lastMark = a.port.lastMark
  status    : r.port.status = a.port.status
  count     : r.port.faultCount = a.port.faultCount

/-- What the command `c` keeps, each register but where `c` is a command that writes it. -/
structure SteadyBut (c : Instr) (a r : State) : Prop where
  now       : r.now = a.now
  pending   : r.pending = a.pending
  straps    : r.store.role = a.store.role ∧ r.store.ph = a.store.ph ∧ r.store.pos = a.store.pos
  copy      : r.store.working = a.store.working ∧ r.store.valid = a.store.valid ∧ r.store.digest = a.store.digest
  resetLow  : r.store.resetLow = a.store.resetLow
  resetAt   : r.bus.resetAt = a.bus.resetAt
  ticks     : (∀ t, c ≠ .reportTick t ∧ c ≠ .joinWindowEnd t) →
    r.port.lastMark = a.port.lastMark ∧ r.bus.nextTick = a.bus.nextTick
  status    : (∀ t, c ≠ .transferEnd t) → r.port.status = a.port.status
  count     : (∀ t i b, c ≠ .faultRstFalling t ∧ c ≠ .discreteInputChange t i b) →
    r.port.faultCount = a.port.faultCount
  heard     : (∀ t x, c ≠ .stateReceived t x ∧ c ≠ .summaryReceived t x ∧ c ≠ .alarmReceived t x ∧
    c ≠ .stepReceived t x ∧ c ≠ .lineReceived t x) → r.bus.heard = a.bus.heard
  duplicate : (∀ t x, c ≠ .duplicateAddress t x) → r.bus.duplicate = a.bus.duplicate
  image     : (∀ t, c ≠ .writeCompletion t) → r.store.image = a.store.image ∧ r.store.freeSince = a.store.freeSince ∧
    ((∀ t x bs k, c ≠ .write t x bs k) → r.store.write = a.store.write)
  output    : (∀ t x o n bs k, c ≠ .readImage t x o n ∧ c ≠ .readWorking t x o n ∧ c ≠ .status t x n ∧
    c ≠ .write t x bs k) → r.store.portOut = a.store.portOut ∧ r.store.portAccess = a.store.portAccess

theorem Steady.but (c : Instr) {a r : State} (h : Steady a r) : SteadyBut c a r := by
  obtain ⟨hn, hp, hs, hr, hx, hh, hd, hm, hw, hc⟩ := h
  exact ⟨hn, hp, by simp [hs], by simp [hs], by simp [hs], hr, fun _ => ⟨hm, hx⟩, fun _ => hw, fun _ => hc, fun _ => hh,
    fun _ => hd, fun _ => by simp [hs], fun _ => by simp [hs]⟩

theorem Steady.refl (a : State) : Steady a a := ⟨rfl, rfl, rfl, rfl, rfl, rfl, rfl, rfl, rfl, rfl⟩

theorem Steady.when {k : Bool} {f : State → State} {a r : State} (h : Steady a r) (hf : Steady a (f r)) :
    Steady a (r.when k f) := when_keeps h fun _ => hf

/-- A command with no register of its own, run when the station acts. -/
theorem steadyBut_runAt {c : Instr} {t : Time} {f : State → State} {s s' : State}
    (hf : ∀ r, Steady r (f r)) (he : s.runAt t f = .next s') : SteadyBut c (s.advance t) s' := by
  obtain rfl := Host.Outcome.next.inj he
  exact ((Steady.refl _).when (hf _)).but c

/-- The frame of an exceptional command, run when the station acts. -/
theorem steadyBut_runAt_of {c : Instr} {t : Time} {f : State → State} {s s' : State}
    (hf : ∀ r, SteadyBut c r (f r)) (he : s.runAt t f = .next s') : SteadyBut c (s.advance t) s' := by
  obtain rfl := Host.Outcome.next.inj he
  exact when_keeps ((Steady.refl _).but c) fun _ => hf _

/-- The frame of a command of the port or the store, run with supply. -/
theorem steadyBut_runSupplied {c : Instr} {t : Time} {f : State → State} {s s' : State}
    (hf : ∀ r, SteadyBut c r (f r)) (he : s.runSupplied t f = .next s') : SteadyBut c (s.advance t) s' := by
  obtain rfl := Host.Outcome.next.inj he
  exact when_keeps ((Steady.refl _).but c) fun _ => hf _

/-- R157: brought to its age a second time at one moment, a heard entry stands. -/
theorem setAt_aged (now report quiet : Time) (l : List HeardEntry) (i : Nat) (d : HeardEntry) :
    setAt (l.map (HeardEntry.aged now report quiet)) i
      (((l.map (HeardEntry.aged now report quiet)).getD i d).aged now report quiet) =
      l.map (HeardEntry.aged now report quiet) := by
  unfold setAt
  by_cases hi : i < l.length
  · apply List.ext_getElem (by simp)
    intro j hj _
    rw [List.getElem_set]
    split
    next hij =>
      subst hij
      simp [hi, HeardEntry.aged, heardStatusOf]
    next => rfl
  · rw [List.set_eq_of_length_le (by simpa using Nat.le_of_not_lt hi)]

/-- What the commands of the port drive changes the port's output alone. -/
theorem steadyBut_portReturns {c : Instr} (a : Access) (bs : List Byte) (r : State)
    (hc : ¬ ∀ t x o n bs k, c ≠ .readImage t x o n ∧ c ≠ .readWorking t x o n ∧ c ≠ .status t x n ∧ c ≠ .write t x bs k) :
    SteadyBut c r (r.portReturns a bs) := by
  constructor
  case output => exact fun h => absurd h hc
  all_goals simp [State.portReturns]

theorem steadyBut_portRead {c : Instr} (k : PortCommand) (bs : List Byte) (a : Access) (o : Byte) (n : Nat) (r : State)
    (hc : ¬ ∀ t x o n bs k, c ≠ .readImage t x o n ∧ c ≠ .readWorking t x o n ∧ c ≠ .status t x n ∧ c ≠ .write t x bs k) :
    SteadyBut c r (r.portRead k bs a o n) := by
  unfold State.portRead
  split
  · split
    · exact steadyBut_portReturns _ _ _ hc
    · constructor
      case output => exact fun h => absurd h hc
      all_goals simp [State.portReturns]
  · exact steadyBut_portReturns _ _ _ hc

/-- Every operation's frame, in the words of `Steady`. -/
theorem steady_when {k : Bool} {f : State → State} {r : State} (h : Steady r (f r)) : Steady r (r.when k f) :=
  (Steady.refl r).when h

/-- A transmission received: what its kind does, or the medium alone. -/
theorem steadyBut_receive {c : Instr} {take : Frame → State → State} (k : Kind) (x : Transmission) (r : State)
    (hf : ∀ f, SteadyBut c r (take f r)) : SteadyBut c r (r.receive k x take) := by
  have hquiet : SteadyBut c r (r.onBus fun u => { u with quietStart := some r.now }) :=
    Steady.but c (by constructor <;> rfl)
  unfold State.receive
  split
  · split
    · exact hf _
    · exact hquiet
  · exact hquiet

/-- R175: no input but FAULT_RST# counts fault resets. -/
theorem inputChange_count {i : LineInput} {b : Bool} (hi : i ≠ .faultRst) (r : State) :
    (r.inputChange i b).port.faultCount = r.port.faultCount := by
  unfold State.inputChange
  split
  · rfl
  · split
    · simp
    · split
      · rfl
      · unfold State.inputEdge
        split <;> simp_all

/-- What each command keeps, from the moment of its event on. -/
theorem exec_steadyBut {c : Instr} {s s' : State} (hc : resets c = false) (he : exec c s = .next s') :
    SteadyBut c (s.advance c.time) s' := by
  cases c
  case powerOnReset => simp [resets] at hc
  case pinReset => simp [resets] at hc
  case lossOfSupply => simp [resets] at hc
  case pinResetCoilRelease => exact steadyBut_runSupplied (fun r => (steady_when (by constructor <;> rfl)).but _) he
  case readImage =>
    exact steadyBut_runSupplied (fun r => steadyBut_portRead _ _ _ _ _ _ fun h => (h _ _ _ _ [] false).1 rfl) he
  case readWorking =>
    exact steadyBut_runSupplied (fun r => steadyBut_portRead _ _ _ _ _ _ fun h => (h _ _ _ _ [] false).2.1 rfl) he
  case status =>
    exact steadyBut_runSupplied (fun r => steadyBut_portReturns _ _ _ fun h => (h _ _ 0 _ [] false).2.2.1 rfl) he
  case write t a bs k =>
    refine steadyBut_runSupplied (fun r => ?_) he
    have h0 : SteadyBut (.write t a bs k) r (r.portReturns a []) :=
      steadyBut_portReturns _ _ _ fun h => (h _ a 0 0 _ _).2.2.2 rfl
    dsimp only
    split
    · refine when_keeps h0 fun _ => ?_
      constructor
      case image => exact fun _ => ⟨rfl, rfl, fun h => absurd rfl (h _ _ _ _)⟩
      case output => exact fun h => absurd rfl (h _ a 0 0 _ _).2.2.2
      all_goals simp [State.beginWrite, State.portReturns]
    · exact h0
  case writeCompletion =>
    refine steadyBut_runSupplied (fun r => ?_) he
    split
    · refine when_keeps ((Steady.refl r).but _) fun _ => ?_
      constructor
      case image => exact fun h => absurd rfl (h _)
      all_goals simp [Store.completeWrite]
    · exact (Steady.refl r).but _
  case reportTick =>
    refine steadyBut_runAt_of (fun r => when_keeps ((Steady.refl r).but _) fun _ => ?_) he
    constructor
    case ticks => exact fun h => absurd rfl (h _).1
    all_goals simp
  case joinWindowEnd =>
    refine steadyBut_runAt_of (fun r => when_keeps ((Steady.refl r).but _) fun _ => ?_) he
    constructor
    case ticks => exact fun h => absurd rfl (h _).2
    all_goals simp
  case heardStatusTimeout t i =>
    obtain rfl := Host.Outcome.next.inj he
    refine when_keeps ((Steady.refl _).but _) fun _ => ?_
    constructor
    case heard => exact fun _ => setAt_aged _ _ _ _ _ _
    all_goals simp [Instr.time]
  case attemptCompleted =>
    refine steadyBut_runAt (fun r => ?_) he
    split
    · constructor <;> simp [Bif.completed]
    · exact Steady.refl r
  case echoMiss =>
    refine steadyBut_runAt (fun r => steady_when ?_) he
    dsimp only
    have h0 : Steady r (r.onBus Bif.missed) := by constructor <;> rfl
    exact h0.when (by constructor <;> simp [Bif.missed])
  case duplicateAddress =>
    refine steadyBut_runAt_of (fun r => ?_) he
    split
    · refine when_keeps ((Steady.refl r).but _) fun _ => ?_
      constructor
      case duplicate => exact fun h => absurd rfl (h _ _)
      all_goals simp [State.seeDuplicate]
    · exact (Steady.refl r).but _
  case stateReceived =>
    refine steadyBut_runAt_of (fun r => steadyBut_receive _ _ r fun f => ?_) he
    constructor
    case heard => exact fun h => absurd rfl (h _ _).1
    all_goals simp
  case summaryReceived =>
    refine steadyBut_runAt_of (fun r => steadyBut_receive _ _ r fun f => ?_) he
    constructor
    case heard => exact fun h => absurd rfl (h _ _).2.1
    all_goals simp
  case alarmReceived =>
    refine steadyBut_runAt_of (fun r => steadyBut_receive _ _ r fun f => ?_) he
    constructor
    case heard => exact fun h => absurd rfl (h _ _).2.2.1
    all_goals simp
  case stepReceived =>
    refine steadyBut_runAt_of (fun r => steadyBut_receive _ _ r fun f => ?_) he
    constructor
    case heard => exact fun h => absurd rfl (h _ _).2.2.2.1
    all_goals simp
  case lineReceived =>
    refine steadyBut_runAt_of (fun r => steadyBut_receive _ _ r fun f => ?_) he
    constructor
    case heard => exact fun h => absurd rfl (h _ _).2.2.2.2
    all_goals simp
  case agingDeadline =>
    refine steadyBut_runAt (fun r => ?_) he
    split
    · exact steady_when (by constructor <;> simp)
    · exact Steady.refl r
  case conversionComplete =>
    refine steadyBut_runAt (fun r => ?_) he
    split
    · exact steady_when (by constructor <;> simp)
    · exact Steady.refl r
  case settleExpiry =>
    refine steadyBut_runAt (fun r => steady_when ?_) he
    split <;> constructor <;> simp
  case driveTripRising =>
    refine steadyBut_runAt_of (fun r => ?_) he
    constructor
    case count => exact fun _ => inputChange_count (by simp) r
    all_goals simp
  case brakeOpenFalling =>
    refine steadyBut_runAt_of (fun r => ?_) he
    constructor
    case count => exact fun _ => inputChange_count (by simp) r
    all_goals simp
  case faultRstFalling =>
    refine steadyBut_runAt_of (fun r => ?_) he
    constructor
    case count => exact fun h => absurd rfl (h _ .faultRst false).1
    all_goals simp
  case discreteInputChange =>
    refine steadyBut_runAt_of (fun r => ?_) he
    constructor
    case count => exact fun h => absurd rfl (h _ _ _).2
    all_goals simp
  case transferEnd =>
    refine steadyBut_runAt_of (fun r => ?_) he
    split
    · refine when_keeps ((Steady.refl r).but _) fun _ => ?_
      constructor
      case status => exact fun h => absurd rfl (h _)
      all_goals simp [Port.endTransfer]
    · exact (Steady.refl r).but _
  case defer | invalidTransmission | collision | transferStart | switchPulseEnd | gateOffWaitEnd | isolateTimeout
      | dwellExpiry | agreeExpiry | armExpiry | reviseExpiry | buildStart | walkRead | finishingStep | quietMarkExpiry
      | catchTimerExpiry | budgetExpiry | restHoldoffExpiry | contactExpiry =>
    exact steadyBut_runAt (fun r => steady_when (by constructor <;> simp [Bif.collided])) he
  case transmissionAttempt | faultInputChange | bypassFbChange | lsckClockEdge =>
    exact steadyBut_runAt (fun r => by constructor <;> simp [Port.clockEdge]) he

/-- Every command answers a next state (logs 2 and 5). -/
theorem exec_next (c : Instr) (s : State) : ∃ s', exec c s = .next s' := by
  cases c <;> exact ⟨_, rfl⟩

/-- Two states of one time, one queue and one working copy. -/
def SameCopy (a r : State) : Prop := r.now = a.now ∧ r.pending = a.pending ∧ r.store.working = a.store.working

/-- R184: an edge of RESET# keeps the working copy, the time and the queue. -/
theorem resetEdge_sameCopy (e : ResetEdge) (x : Straps) (s : State) : SameCopy s (s.resetEdge e x) := by
  have hs : SameCopy s s := ⟨rfl, rfl, rfl⟩
  unfold State.resetEdge
  split
  · refine when_keeps hs fun _ => ?_
    split <;> exact hs
  · refine when_keeps hs fun _ => ?_
    split <;> exact hs

/-- Settles O2: the time, the queue and the single registers by what each command keeps; the counts, levels and feedback by
the kinds of change. -/
theorem everyCommandKeepsWhatOthersWrite : Obligations.EveryCommandKeepsWhatOthersWrite := by
  refine ⟨fun c s => ?_, fun c s s' he hpower hpin hloss => ?_⟩
  · obtain ⟨s', he⟩ := exec_next c s
    refine ⟨s', he, ?_⟩
    cases hc : resets c
    · have h := exec_steadyBut hc he
      exact ⟨h.now, h.pending, fun _ => ⟨h.copy.1, fun _ => ⟨h.straps.1, h.straps.2.1, h.straps.2.2, h.copy.2.1, h.copy.2.2⟩⟩⟩
    · cases c <;> simp only [resets, Bool.false_eq_true] at hc
      case powerOnReset t x =>
        obtain rfl := Host.Outcome.next.inj he
        exact ⟨rfl, rfl, fun h => absurd rfl (h _ _)⟩
      case pinReset t e x =>
        obtain rfl := Host.Outcome.next.inj he
        obtain ⟨hn, hq, hw⟩ := resetEdge_sameCopy e x (s.advance t)
        exact ⟨hn, hq, fun _ => ⟨hw, fun h => absurd rfl (h _ _ _)⟩⟩
      case lossOfSupply t =>
        obtain rfl := Host.Outcome.next.inj he
        cases s.powered <;> simp [Instr.time, State.unsupplied]
  · have hc : resets c = false := by
      cases c
      case powerOnReset => exact absurd rfl (hpower _ _)
      case pinReset => exact absurd rfl (hpin _ _ _)
      case lossOfSupply => exact absurd rfl (hloss _)
      all_goals rfl
    have h := exec_steadyBut hc he
    refine ⟨h.resetAt, h.resetLow, fun hm => ?_, fun hl => ?_, fun hfb => exec_feedback hc he hfb, h.ticks, h.status, h.count,
      h.heard, h.duplicate, h.image, h.output⟩
    · simpa [counts] using exec_counts hc he hm
    · simpa [levels] using exec_levels hc he hl

end Sys2Proof.Proofs

/-! # Resets, supply and the programming port

PROOFS about the resets, the loss of supply, the short waits and the port (R181 to R187): what each reset leaves, which
commands act in a pin reset and without supply, and what an access returns or begins. -/

namespace Sys2Proof.Proofs

open Sys2Proof.Machine Sys2Proof.Safety

/-! ## The step and the state after reset -/

/-- Settles O1: the step takes the queue's front by its definition. -/
theorem stepRunsFrontCommand : Obligations.StepRunsFrontCommand := by
  refine ⟨fun c rest s => rfl, fun s hs => ?_⟩
  unfold step
  rw [hs]

/-- R181, R182: the image of a new part is valid. -/
theorem defaultImage_valid : imageValid defaultImage = true := by decide +kernel

/-- R4, R7: the roster of a part whose copy is valid after a reset. -/
theorem afterReset_roster {now : Time} {st : Store} {b : Bypass} {n : Nat} {q : List Instr} (hv : st.valid = true) :
    (State.afterReset now st b n q).roster = Roster.init now true (Params.ofBytes st.working).cells := by
  simp [State.afterReset, hv, Params.effective]

/-- Table 11-1: the default image has 6 cells to a phase. -/
theorem defaultImage_cells : (Params.ofBytes defaultImage).cells = 6 := rfl

@[simp] theorem powerOn_valid (now : Time) (image : List Byte) (x : Straps) (low : Bool) :
    (Store.powerOn now image x low).valid = imageValid image := rfl

@[simp] theorem powerOn_working (now : Time) (image : List Byte) (x : Straps) (low : Bool) :
    (Store.powerOn now image x low).working = image := rfl

theorem reset_store : State.reset.store = Store.powerOn 0 defaultImage State.resetStraps false := rfl

theorem reset_valid : State.reset.store.valid = true := by rw [reset_store, powerOn_valid, defaultImage_valid]

theorem reset_roster : State.reset.roster = Roster.init 0 true 6 := by
  have hv : (Store.powerOn 0 defaultImage State.resetStraps false).valid = true := by
    rw [powerOn_valid, defaultImage_valid]
  rw [State.reset, afterReset_roster hv, powerOn_working, defaultImage_cells]

/-- R169: the first report is due one report after the reset. -/
theorem afterReset_nextTick (now : Time) (st : Store) (b : Bypass) (n : Nat) (q : List Instr) :
    (State.afterReset now st b n q).bus.nextTick =
      (State.afterReset now st b n q).now + (State.afterReset now st b n q).report := rfl

theorem reset_nextTick : State.reset.bus.nextTick = State.reset.now + State.reset.report := by
  rw [State.reset, afterReset_nextTick]

/-- R18: the digest of the roster is that of its entries. -/
theorem rosterInit_digest (now : Time) (n : Nat) :
    (Roster.init now true n).digest = rosterDigestOf (Roster.init now true n).entries := rfl

/-- Settles O3: every block of the state after reset is its reset value; the image of a new part is valid. -/
theorem resetStateHoldsTableValues : Obligations.ResetStateHoldsTableValues := by
  unfold Obligations.ResetStateHoldsTableValues
  rw [reset_roster, reset_valid]
  refine ⟨rfl, rfl, rfl, rfl, rfl, rfl, rfl, rfl, rfl, rfl, rfl, rfl, rfl, rfl, rfl, rfl, rfl, rfl, rfl, rfl, rfl,
    reset_nextTick, rfl, rosterInit_digest .., rfl, rfl, rfl, rfl, rfl, rfl, rfl, rfl, rfl, rfl, rfl, rfl, rfl, rfl, rfl,
    rfl, rfl, rfl, rfl, rfl, rfl, rfl, rfl, rfl, rfl, rfl, rfl, rfl⟩

/-- Settles O54: each rule holds of the blocks' reset values. -/
theorem resetStateIsSound : Obligations.ResetStateIsSound := by
  have hplan := (planOk_iff State.reset).mpr (planOk_cleared _ _ _ rfl rfl rfl rfl)
  have hround : State.reset.round = Round.init := rfl
  have hcatcher : State.reset.catcher = CatchUnit.init := rfl
  have hscanner : State.reset.scanner = Scanner.init := rfl
  refine ⟨queueOk_nil, rfl, ?roster, ?attempts, ?round, hplan.1, hplan.2, ?slots, crossingsOk_nil, ?catching,
    (bypassSound_iff _).mpr bypassOk_init, ?store⟩
  case roster =>
    have hc : State.reset.params.cells = 6 := by
      rw [State.params, reset_valid, reset_store, powerOn_working, Params.effective, if_pos rfl, defaultImage_cells]
    rw [RosterSized, reset_roster, reset_valid, hc]
    rfl
  case attempts => simp [AttemptsSound, hround, Round.init]
  case round => simp [RoundSound, hround, Round.init, timedPhase]
  case slots => simp [SlotsSound, hscanner, Scanner.init, Slot.init]
  case catching => simp [CatchSound, hcatcher, hscanner, CatchUnit.init, Scanner.init]
  case store =>
    rw [storeSound_iff, reset_store]
    exact StoreOk.powerOn 0 State.resetStraps false rfl

/-! ## Resets (R184, R185) -/

/-- Settles O4: a power-on reset is written out by its meaning. -/
theorem powerOnResetLoadsImage : Obligations.PowerOnResetLoadsImage := by
  intro t x s
  refine ⟨_, rfl, rfl, ?_, rfl, rfl, rfl, rfl, rfl, rfl, rfl, rfl, rfl, rfl, rfl⟩
  simp [State.runs, State.afterReset, Store.powerOn]

/-- A state in which every output is low: the part does not act. -/
theorem outputs_low {s : State} (h : s.runs = false) :
    s.gateEn = false ∧ s.btx = [] ∧ s.release = false ∧ s.lockoutOut = false ∧ s.reviseOut = false ∧
    s.switchOut = false ∧ s.rreadyOut = false ∧ s.lso = false := by
  refine ⟨by simp [State.gateEn, h], ?_, by simp [State.release, h], by simp [State.lockoutOut, h],
    by simp [State.reviseOut, h], by simp [State.switchOut, h], by simp [State.rreadyOut, h], by simp [State.lso, h]⟩
  unfold State.btx
  split <;> simp [h]

/-- R184: an edge of RESET# at a station that acts: a pulse under 1 µs and a rise change nothing. -/
theorem exec_pinReset_runs {t : Time} {x : Straps} {s : State} (h : s.runs = true) :
    exec (.pinReset t (.falls false) x) s = .next (s.advance t) ∧
    exec (.pinReset t .rises x) s = .next (s.advance t) ∧
    exec (.pinReset t (.falls true) x) s = .next (s.advance t).startReset := by
  obtain ⟨-, hr⟩ := State.runs_iff.mp h
  refine ⟨?_, ?_, ?_⟩
  · exact congrArg _ (State.resetEdge_short x _)
  · simp [exec, execPinReset, State.resetEdge, hr]
  · exact congrArg _ (State.resetEdge_falls (s := s.advance t) h)

/-- A command run when the station acts does nothing in a pin reset. -/
theorem exec_in_pinReset {c : Instr} {s : State} (hr : s.store.resetLow = true)
    (hc : ∀ t x e a o n bs r, c ≠ .powerOnReset t x ∧ c ≠ .pinReset t e x ∧ c ≠ .pinResetCoilRelease t ∧
      c ≠ .lossOfSupply t ∧ c ≠ .writeCompletion t ∧ c ≠ .readImage t a o n ∧ c ≠ .readWorking t a o n ∧
      c ≠ .status t a n ∧ c ≠ .write t a bs r) : exec c s = .next (s.advance c.time) := by
  have hrun : s.runs = false := by simp [State.runs, hr]
  cases c
  case powerOnReset t x => exact absurd rfl (hc t x .rises ⟨0, .low, 0⟩ 0 0 [] false).1
  case pinReset t e x => exact absurd rfl (hc t x e ⟨0, .low, 0⟩ 0 0 [] false).2.1
  case pinResetCoilRelease t => exact absurd rfl (hc t State.resetStraps .rises ⟨0, .low, 0⟩ 0 0 [] false).2.2.1
  case lossOfSupply t => exact absurd rfl (hc t State.resetStraps .rises ⟨0, .low, 0⟩ 0 0 [] false).2.2.2.1
  case writeCompletion t => exact absurd rfl (hc t State.resetStraps .rises ⟨0, .low, 0⟩ 0 0 [] false).2.2.2.2.1
  case readImage t a o n => exact absurd rfl (hc t State.resetStraps .rises a o n [] false).2.2.2.2.2.1
  case readWorking t a o n => exact absurd rfl (hc t State.resetStraps .rises a o n [] false).2.2.2.2.2.2.1
  case status t a n => exact absurd rfl (hc t State.resetStraps .rises a 0 n [] false).2.2.2.2.2.2.2.1
  case write t a bs r => exact absurd rfl (hc t State.resetStraps .rises a 0 0 bs r).2.2.2.2.2.2.2.2
  all_goals exact State.runAt_stopped hrun

/-- R184: in a pin reset a fall of RESET# is no edge, and its rise ends the reset. -/
theorem exec_pinReset_low {t : Time} {x : Straps} {s : State} (hp : s.powered = true) (hr : s.store.resetLow = true) :
    (∀ held, exec (.pinReset t (.falls held) x) s = .next (s.advance t)) ∧
    exec (.pinReset t .rises x) s = .next ((s.advance t).endReset x) :=
  ⟨fun held => by simp [exec, execPinReset, State.resetEdge, hr],
    congrArg _ (State.resetEdge_rises (s := s.advance t) hp hr)⟩

/-- The level of RESET# written as it stands changes nothing. -/
theorem advance_resetLow {t : Time} {s : State} {b : Bool} (h : s.store.resetLow = b) :
    s.advance t = { s.advance t with store := { s.store with resetLow := b } } := by
  subst h
  rfl

/-- R184: without supply an edge of RESET# moves its level alone. -/
theorem exec_pinReset_unpowered {t : Time} {x : Straps} {s : State} (hp : s.powered = false) :
    (∀ held, exec (.pinReset t (.falls held) x) s = .next
      { s.advance t with store := { s.store with resetLow := s.store.resetLow || held } }) ∧
    exec (.pinReset t .rises x) s = .next { s.advance t with store := { s.store with resetLow := false } } := by
  refine ⟨fun held => ?_, ?_⟩ <;> simp only [exec, execPinReset, State.resetEdge, State.advance_store]
  · cases held <;> cases hr : s.store.resetLow <;> refine congrArg _ ?_
    case true.false => simp [State.resetPin, State.onStore, hp]
    all_goals exact advance_resetLow hr
  · cases hr : s.store.resetLow <;> refine congrArg _ ?_
    · exact advance_resetLow hr
    · simp [State.resetPin, State.onStore, hp]

/-- Settles O5: an edge at a station that acts, the commands and an edge in a pin reset, and an edge without supply. -/
theorem pinResetKeepsWorkingCopy : Obligations.PinResetKeepsWorkingCopy := by
  refine ⟨fun t x s h => ?acts, fun c s _ hr hc => exec_in_pinReset hr hc, fun t x s hp hr => ?low,
    fun t x s hp => exec_pinReset_unpowered hp⟩
  case acts =>
    obtain ⟨hshort, hrise, hfall⟩ := exec_pinReset_runs (t := t) (x := x) h
    have hstop : (s.advance t).startReset.runs = false := by simp [State.runs, State.startReset, State.afterReset]
    obtain ⟨h1, h2, h3, h4, h5, h6, h7, h8⟩ := outputs_low hstop
    refine ⟨hshort, hrise, _, hfall, rfl, hstop, rfl, rfl, rfl, rfl, rfl, rfl, rfl, rfl, rfl, rfl, h1, h2, h3, h4, h5, h6,
      h7, h8, fun hh hc => ?_, fun hh => ?_⟩
    · simp [State.startReset, State.afterReset, Bypass.inReset, hh, hc, Config.gateOffWait]
    · simp [State.startReset, State.afterReset, Bypass.inReset, hh]
  case low =>
    obtain ⟨hfall, hrise⟩ := exec_pinReset_low (t := t) (x := x) hp hr
    refine ⟨hfall, _, hrise, ?_, rfl, rfl, rfl, rfl, rfl, rfl, rfl, rfl, rfl, rfl, ?_, fun hc => ?_, fun d hd => ?_⟩
    · simp [State.runs, State.endReset, State.afterReset, Store.pinReset]
    · exact State.gateEn_of_phase rfl
    · simp [State.endReset, State.afterReset, Bypass.afterPinReset, hc, Bypass.init]
    · simp [State.endReset, State.afterReset, Bypass.afterPinReset, hd]

/-- Settles O6: each wait's command, its moment come, is its effect on the state at its time. -/
theorem shortWaitsLowerTheirOutputs : Obligations.ShortWaitsLowerTheirOutputs := by
  refine ⟨fun t d s hp hd hle => ?_, fun t d s hr hd hle => ?_, fun t d s hr hd hle => ?_⟩
  · refine (State.runSupplied_powered hp).trans ?_
    simp [hd, due, hle, State.onBypass]
  · refine (State.runAt_runs hr).trans ?_
    simp [hd, due, hle, State.onBypass, Bypass.gateOffEnds, State.contactTime, ms]
  · refine (State.runAt_runs hr).trans ?_
    simp [hd, due, hle, State.onPort]

/-- A command without supply moves the time and the statuses alone. -/
theorem exec_unpowered {c : Instr} {s : State} (hp : s.powered = false)
    (hc : ∀ t e x, c ≠ .powerOnReset t x ∧ c ≠ .pinReset t e x) : exec c s = .next (s.advance c.time) := by
  have hrun : s.runs = false := by simp [State.runs, hp]
  cases c
  case powerOnReset t x => exact absurd rfl (hc t .rises x).1
  case pinReset t e x => exact absurd rfl (hc t e x).2
  case pinResetCoilRelease | readImage | readWorking | status | write | writeCompletion | lossOfSupply =>
    exact State.runSupplied_unpowered hp
  all_goals exact State.runAt_stopped hrun

/-- Settles O7: the loss of supply is written out by its meaning; without supply only the time moves. -/
theorem lossOfSupplyStopsPart : Obligations.LossOfSupplyStopsPart := by
  refine ⟨fun t s hp => ?_, fun c s hp hc => exec_unpowered hp hc⟩
  have hrun : (s.advance t).unsupplied.runs = false := rfl
  obtain ⟨h1, h2, h3, h4, h5, h6, h7, h8⟩ := outputs_low hrun
  exact ⟨_, State.runSupplied_powered hp, rfl, rfl, rfl, h2, rfl, h1, h3, h4, h5, h6, h7, h8, rfl, rfl, rfl, rfl, rfl,
    rfl⟩

end Sys2Proof.Proofs

/-! # The programming port

PROOFS about the port's accesses (R186) and its write (R187). -/

namespace Sys2Proof.Proofs

open Sys2Proof.Machine Sys2Proof.Safety

/-- R186: an access is taken as the command its first byte names, at a free store, with WP# low at its beginning. -/
theorem takes_iff {st : Store} {c : PortCommand} {a : Access} :
    st.takes c a = true ↔
      st.write = none ∧ st.freeSince ≤ a.began ∧ a.wp ≠ .high ∧ portCommandOf a.command = some c := by
  have hwp : wpLowAtFirst a.wp = true ↔ a.wp ≠ .high := by cases a.wp <;> simp [wpLowAtFirst]
  simp [Store.takes, hwp, and_assoc]

/-- Table 11-2: a command byte none of 01h to 04h. -/
theorem portCommandOf_none {b : Byte} (h : b = 0 ∨ 4 < b.toNat) : portCommandOf b = none := by
  have hne : b ≠ 1 ∧ b ≠ 2 ∧ b ≠ 3 ∧ b ≠ 4 := by refine ⟨?_, ?_, ?_, ?_⟩ <;> rintro rfl <;> simp at h
  obtain ⟨h1, h2, h3, h4⟩ := hne
  rw [portCommandOf, if_neg h1, if_neg h2, if_neg h3, if_neg h4]

/-- R186: an access that no command takes. -/
theorem takes_none {st : Store} {a : Access} (c : PortCommand)
    (h : a.wp = .high ∨ st.write.isSome = true ∨ a.began < st.freeSince ∨ a.command = 0 ∨ 4 < a.command.toNat) :
    st.takes c a = false := by
  rw [← Bool.not_eq_true, takes_iff]
  rintro ⟨hwrite, hfree, hwp, hcommand⟩
  rcases h with h | h | h | h
  · exact hwp h
  · simp [hwrite] at h
  · exact Nat.not_le.mpr h hfree
  · simp [portCommandOf_none h] at hcommand

/-- R186: a read taken from an offset within the bytes. -/
theorem portRead_within {c : PortCommand} {bs : List Byte} {a : Access} {o : Byte} {n : Nat} {s : State}
    (ht : s.store.takes c a = true) (ho : o.toNat ≤ 63) :
    s.portRead c bs a o n = s.portReturns a (readBytes bs o.toNat (bytesReturned a.wp n)) := by
  rw [State.portRead, if_pos ht, if_pos ho]

/-- Log 8: a read taken from an offset above 63. -/
theorem portRead_beyond {c : PortCommand} {bs : List Byte} {a : Access} {o : Byte} {n : Nat} {s : State}
    (ht : s.store.takes c a = true) (ho : 63 < o.toNat) :
    s.portRead c bs a o n = State.portReturns a (freeBytes s.freeCount (bytesReturned a.wp n))
      { s with freeCount := s.freeCount + bytesReturned a.wp n } := by
  rw [State.portRead, if_pos ht, if_neg (by omega)]

/-- R186: a read not taken returns nothing. -/
theorem portRead_ignored {c : PortCommand} {bs : List Byte} {a : Access} {o : Byte} {n : Nat} {s : State}
    (ht : s.store.takes c a = false) : s.portRead c bs a o n = s.portReturns a [] := by
  simp [State.portRead, ht]

/-- R186: the bits of the status byte. -/
theorem statusByte_bits (s : State) :
    s.statusByte.getLsbD 7 = true ∧ s.statusByte.getLsbD 6 = false ∧ s.statusByte.getLsbD 5 = false ∧
    s.statusByte.getLsbD 4 = s.bus.duplicate ∧ s.statusByte.getLsbD 3 = s.round.mismatchFlag ∧
    s.statusByte.getLsbD 2 = !s.fitted ∧ s.statusByte.getLsbD 1 = s.store.valid ∧
    s.statusByte.getLsbD 0 = s.store.differs := by
  unfold State.statusByte
  generalize s.bus.duplicate = b4, s.round.mismatchFlag = b3, s.fitted = b2, s.store.valid = b1, s.store.differs = b0
  cases b4 <;> cases b3 <;> cases b2 <;> cases b1 <;> cases b0 <;> decide

/-- R187: a write of a well-formed access. -/
theorem writeOperands_some {o : Byte} {data : List Byte} (h1 : 1 ≤ data.length) (h8 : data.length ≤ 8)
    (h64 : o.toNat + data.length ≤ 64) : writeOperands (o :: data) false = some (o.toNat, data) := by
  simp [writeOperands, h8, h64, Nat.one_le_iff_ne_zero.mp h1]

/-- R187: a malformed access begins no write. -/
theorem writeOperands_none {o : Byte} {data : List Byte} {trailing : Bool}
    (h : data.length = 0 ∨ 8 < data.length ∨ 64 < o.toNat + data.length ∨ trailing = true) :
    writeOperands (o :: data) trailing = none := by
  rw [writeOperands, if_neg]
  rintro ⟨h1, h8, ht, h64⟩
  rcases h with h | h | h | h
  · omega
  · omega
  · omega
  · simp [ht] at h

/-- R187: an access begins a write exactly when it is well formed and taken with WP# low throughout. -/
theorem exec_write {t : Time} {a : Access} {bs : List Byte} {tr : Bool} {s : State} (hp : s.powered = true) :
    exec (.write t a bs tr) s = .next (match writeOperands bs tr with
      | some (o, data) => ((s.advance t).portReturns a []).when (a.wp == .low && s.store.takes .write a)
          (State.beginWrite o data)
      | none => (s.advance t).portReturns a []) :=
  State.runSupplied_powered hp

/-- Settles O8: a read taken within the bytes, one beyond them, the status byte, and an access that no command takes. -/
theorem portReadsReturnStoreBytes : Obligations.PortReadsReturnStoreBytes := by
  refine ⟨fun t a o n s hp hw hf hwp => ⟨fun ho => ⟨fun hc => ?_, fun hc => ?_⟩, fun ho => ?_, fun hc => ?_⟩,
    fun t a o n bs tr s hp hno r hr => ?_⟩
  · exact (State.runSupplied_powered hp).trans
      (congrArg _ (portRead_within (takes_iff.mpr ⟨hw, hf, hwp, by simp [hc, portCommandOf]⟩) ho))
  · exact (State.runSupplied_powered hp).trans
      (congrArg _ (portRead_within (takes_iff.mpr ⟨hw, hf, hwp, by simp [hc, portCommandOf]⟩) ho))
  · refine ⟨freeBytes s.freeCount (bytesReturned a.wp n), by simp [freeBytes], ?_⟩
    rintro r rfl
    refine ⟨fun hc => ?_, fun hc => ?_⟩ <;>
    exact (State.runSupplied_powered hp).trans
      (congrArg _ (portRead_beyond (takes_iff.mpr ⟨hw, hf, hwp, by simp [hc, portCommandOf]⟩) ho))
  · have ht : (s.advance t).store.takes .status a = true := takes_iff.mpr ⟨hw, hf, hwp, by simp [hc, portCommandOf]⟩
    refine ⟨(s.advance t).statusByte, ?_⟩
    rintro d rfl
    refine ⟨(State.runSupplied_powered hp).trans ?_, statusByte_bits _⟩
    rw [if_pos ht]
    rfl
  · have ht : ∀ c, s.store.takes c a = false := fun c => takes_none c hno
    subst hr
    refine ⟨?_, ?_, ?_, ?_⟩
    · exact (State.runSupplied_powered hp).trans (congrArg _ (portRead_ignored (ht _)))
    · exact (State.runSupplied_powered hp).trans (congrArg _ (portRead_ignored (ht _)))
    · refine (State.runSupplied_powered hp).trans ?_
      rw [State.advance_store, ht]
      rfl
    · rw [exec_write hp, ht, Bool.and_false]
      cases writeOperands bs tr <;> rfl

/-! ## The write (R187) -/

/-- R187: a WRITE access that is not well formed, or not taken with WP# low throughout, begins no write. -/
theorem exec_write_none {t : Time} {a : Access} {bs : List Byte} {tr : Bool} {s : State} (hp : s.powered = true)
    (h : writeOperands bs tr = none ∨ a.wp ≠ .low) : exec (.write t a bs tr) s = .next ((s.advance t).portReturns a []) := by
  rw [exec_write hp]
  rcases h with h | h
  · rw [h]
  · cases writeOperands bs tr
    · rfl
    · rw [beq_false_of_ne h, Bool.false_and]
      rfl

/-- R187: where a byte of the image comes from once data replaces bytes from an offset. -/
theorem getElem?_replaceBytes {o : Nat} {data bs : List Byte} (h : o + data.length ≤ bs.length) (i : Nat) :
    (replaceBytes o data bs)[i]? = if o ≤ i ∧ i < o + data.length then data[i - o]? else bs[i]? := by
  have ho : (bs.take o).length = o := by simp; omega
  have hod : (bs.take o ++ data).length = o + data.length := by rw [List.length_append, ho]
  rw [replaceBytes]
  split
  case isTrue hi =>
    obtain ⟨hlow, hhigh⟩ := hi
    rw [List.getElem?_append_left (by omega), List.getElem?_append_right (by omega), ho]
  case isFalse hi =>
    rcases Nat.lt_or_ge i o with hlow | hlow
    · rw [List.getElem?_append_left (by omega), List.getElem?_append_left (by omega), List.getElem?_take_of_lt hlow]
    · rw [List.getElem?_append_right (by omega), List.getElem?_drop, hod]
      congr 1
      omega

/-- Settles O9: a well-formed access begins a write, each other none; the completion replaces the image's bytes. -/
theorem portWriteReplacesImageBytes : Obligations.PortWriteReplacesImageBytes := by
  refine ⟨fun t u o data s r hp hw hf hr => ?begins, fun t w s hp hw hdue hlen => ?completes⟩
  case begins =>
    subst hr
    refine ⟨fun h1 h8 h64 => ?_, fun h => ?_, ?_, ?_, fun n => ?_⟩
    · have ht : s.store.takes .write ⟨u, .low, 4⟩ = true := takes_iff.mpr ⟨hw, hf, nofun, rfl⟩
      rw [exec_write hp, writeOperands_some h1 h8 h64, ht]
      rfl
    · exact exec_write_none hp (.inl (writeOperands_none (by omega)))
    · exact exec_write_none hp (.inl (writeOperands_none (by simp)))
    · exact exec_write_none hp (.inl rfl)
    · exact exec_write_none hp (.inr nofun)
  case completes =>
    refine ⟨replaceBytes w.offset w.data s.store.image, (State.runSupplied_powered hp).trans ?_,
      replaceBytes_length hlen, getElem?_replaceBytes hlen⟩
    simp only [State.advance_store, State.advance_now, hw, hdue, decide_true, State.when_true]
    rfl

end Sys2Proof.Proofs

/-! # The Bus Interface: the queue, the heard table and isolation

PROOFS about the queue's frames (R149 to R153), the heard statuses (R157), the own address (R161) and isolation (R151,
R160). -/

namespace Sys2Proof.Proofs

open Sys2Proof.Machine Sys2Proof.Safety

/-! ## The queue -/

/-- R153: a frame of another kind than the one queued is not taken up. -/
theorem takeUp_other {b : QBody} {g : QFrame} (h : g.body.kind ≠ b.kind) : g.takeUp b = g := if_neg h

/-- R153: frames of other kinds are not taken up. -/
theorem map_takeUp_other {b : QBody} {l : List QFrame} (h : ∀ g ∈ l, g.body.kind ≠ b.kind) :
    l.map (QFrame.takeUp b) = l :=
  (List.map_congr_left fun g hg => takeUp_other (h g hg)).trans (List.map_id l)

/-- Settles O17: the held frame is taken up and no other. -/
theorem singleCopyFrameIsReplacedInPlace : Obligations.SingleCopyFrameIsReplacedInPlace := by
  intro now b g front back hkind hg hothers
  have hsingle : b.kind.single = true := by rcases hkind with h | h | h <;> rw [h] <;> rfl
  have hfront := map_takeUp_other fun x hx => hothers x (List.mem_append_left back hx)
  have hback := map_takeUp_other fun x hx => hothers x (List.mem_append_right front hx)
  have hheld : (front ++ g :: back).any (fun x => x.body.kind == b.kind) = true := by simp [hg]
  rw [enqueueFrame, hsingle, hheld, Bool.and_self, if_pos rfl, List.map_append, List.map_cons, hfront, hback,
    QFrame.takeUp, if_pos hg]

/-- R149, R151, R153: the frame in its attempt leaves the queue, or stays as the new frame. -/
theorem leaveQueue_split {front rest : List QFrame} {g : QFrame} (hfront : ∀ h ∈ front, h.inAttempt = false)
    (hg : g.inAttempt = true) :
    leaveQueue (front ++ g :: rest) = front ++ (match g.renewed with
      | some b => ⟨b, g.queuedAt, 0, false, none⟩ :: rest
      | none => rest) := by
  induction front with
  | nil => exact leaveQueue_head hg
  | cons x front ih =>
    have hx := hfront x List.mem_cons_self
    simp only [List.cons_append, leaveQueue, hx]
    exact congrArg (x :: ·) (ih fun y hy => hfront y (List.mem_cons_of_mem x hy))

/-- R150, R153: the frame in its attempt after a collision: the new frame, dropped at the limit, or one collision more. -/
theorem collideQueue_split {front rest : List QFrame} {g : QFrame} (hfront : ∀ h ∈ front, h.inAttempt = false)
    (hg : g.inAttempt = true) :
    collideQueue (front ++ g :: rest) = front ++ (match g.renewed with
      | some b => ⟨b, g.queuedAt, 0, false, none⟩ :: rest
      | none =>
        if g.body.kind ≠ .alarm ∧ 16 ≤ g.collisions + 1 then rest
        else { g with collisions := g.collisions + 1, inAttempt := false } :: rest) := by
  induction front with
  | nil =>
    simp only [List.nil_append, collideQueue, hg, if_true]
    cases hr : g.renewed with
    | some b => simp only [QFrame.collided, hr]; rfl
    | none =>
      have hlimit : Config.retryLimit = 16 := rfl
      simp only [QFrame.collided, hr, hlimit]
      split <;> rfl
  | cons x front ih =>
    have hx := hfront x List.mem_cons_self
    simp only [List.cons_append, collideQueue, hx]
    exact congrArg (x :: ·) (ih fun y hy => hfront y (List.mem_cons_of_mem x hy))

/-! ## The heard table -/

/-- Settles O11: the statuses follow the time of the event, and the named entry's has followed it already. -/
theorem heardStatusFollowsAge : Obligations.HeardStatusFollowsAge := by
  intro t n s hr
  refine (State.runAt_runs hr).trans (congrArg _ ?_)
  simp only [State.onBus, State.advance_now, State.advance_report, State.advance_quietTime, State.advance_bus_heard,
    setAt_aged]
  rfl

/-! ## Isolation -/

/-- R151: an echo miss during an attempt, below the limit and at it. -/
theorem exec_echoMiss {t : Time} {a : Attempt} {s : State} (hr : s.runs = true) (ha : s.bus.attempt = some a) :
    exec (.echoMiss t) s = .next (((s.advance t).onBus Bif.missed).when (decide (3 ≤ s.bus.echoMisses + 1)) State.isolate) := by
  refine (State.runAt_runs hr).trans (congrArg _ ?_)
  rw [State.advance_bus_attempt, ha]
  rfl

/-- Settles O15: the frame leaves the queue, and the third miss in a row enters ISOLATED. -/
theorem thirdEchoMissIsolates : Obligations.ThirdEchoMissIsolates := by
  intro t a g front rest s hr ha hq hfront hg
  rw [exec_echoMiss hr ha]
  refine ⟨fun hlow => congrArg _ ?_, fun hthird => ⟨_, rfl, ?_⟩⟩
  · rw [decide_eq_false (by omega), State.when_false, State.onBus, Bif.missed, State.advance_bus_queue, hq,
      leaveQueue_split hfront hg]
    rfl
  · rw [decide_eq_true hthird, State.when_true]
    obtain ⟨hround, hbus, -, -⟩ := State.enter_isolated ((s.advance t).onBus Bif.missed)
    simp only [State.isolate, hround, hbus]
    exact ⟨rfl, rfl, rfl, rfl⟩

/-- R40, R155: the round, the bus, the roster and the plan after an entry to JOINING. -/
theorem enter_joining (s : State) :
    (s.enter .joining).round = s.round.onEntry s.now s.params .joining ∧
    (s.enter .joining).bus = (Bif.onEntry s.now .joining s.bus).emptied s.now ∧
    (s.enter .joining).plan.inForce = none ∧ (s.enter .joining).roster.authority = false := by
  have he : s.enter .joining = (s.enterBase .joining).closeCmd := State.enter_of_stays _ _ rfl
  obtain ⟨hbus, hplan, hround, hauthority, -, -⟩ := State.closeCmd_outside (State.enterBase_outsideDrive .joining s rfl)
  obtain ⟨hforce, -, -, -⟩ := State.enterBase_plan .joining s rfl
  rw [he, hbus, hplan, hround, hauthority, hforce, State.enterBase_round, State.enterBase_bus_outside _ _ rfl,
    State.enterBase_roster_outside _ _ rfl]
  exact ⟨rfl, rfl, rfl, rfl⟩

/-- Settles O16: a frame with the own number enters JOINING with the flag set. -/
theorem duplicateAddressForcesJoining : Obligations.DuplicateAddressForcesJoining := by
  intro t x f s hr hx hf ha
  refine ⟨_, State.runAt_runs hr, ?_⟩
  have hown : (s.advance t).fromAnother f = false := decide_eq_false (not_not_intro hf)
  simp only [hx, hown, State.advance_bus_attempt, ha, Option.isNone_none, Bool.not_false, Bool.and_self, State.when_true,
    State.seeDuplicate]
  obtain ⟨hround, hbus, hplan, hauthority⟩ := enter_joining ((s.advance t).onBus fun u =>
    { u with duplicate := true, isoClock := (s.advance t).now, quietStart := some (s.advance t).now })
  rw [hround, hbus, hplan, hauthority]
  exact ⟨rfl, rfl, rfl, rfl, rfl, rfl, rfl, rfl, rfl⟩

/-! ## The isolation write -/

@[simp] theorem checkArmed_rest (s : State) : s.checkArmed.watch.rest = s.watch.rest := by
  simp [State.checkArmed]

/-- R9: a station without own-entry authority writes nothing. -/
theorem requestWrite_unowned {c : Condition} {k : FaultClass} {s : State} (h : s.ownedIndex = none) :
    s.requestWrite c k = s := by
  simp [State.requestWrite, h]

/-- R9: a content already carried is no write. -/
theorem requestWrite_carried {c : Condition} {k : FaultClass} {s : State} {i : Nat} (h : s.ownedIndex = some i)
    (hc : (s.entryAt i).carries c k = true) : s.requestWrite c k = s := by
  simp [State.requestWrite, h, hc]

/-- R9: a content not yet carried is written. -/
theorem requestWrite_new {c : Condition} {k : FaultClass} {s : State} {i : Nat} (h : s.ownedIndex = some i)
    (hc : (s.entryAt i).carries c k = false) : s.requestWrite c k = s.assertEntry i c k := by
  simp [State.requestWrite, h, hc]

/-- R141: confirm closed writes the own entry of a FAULTED owner with a latched class, and no other. -/
theorem confirmClosed_keeps {s : State} (h : s.ownedIndex = none ∨ s.faultedWithLatch = false) :
    s.confirmClosed.roster = s.roster ∧ s.confirmClosed.watch.rest = s.watch.rest ∧
      s.confirmClosed.watch.latch = s.watch.latch := by
  have hnone : s.when s.faultedWithLatch (fun s => s.requestWrite .bypassed s.watch.leading) = s := by
    unfold State.when
    split
    next hf =>
      rcases h with h | h
      · exact requestWrite_unowned h
      · simp [h] at hf
    next => rfl
  unfold State.confirmClosed
  rw [hnone]
  unfold State.when
  split
  · simp [State.checkArmed]
  · exact ⟨rfl, rfl, rfl⟩

/-- R137: a CLOSE writes nothing unless it confirms a closed contactor. -/
theorem closeCmd_keeps {s : State} (h : s.ownedIndex = none ∨ (s.bypass.confirmedClosed && s.faultedWithLatch) = false) :
    s.closeCmd.roster = s.roster ∧ s.closeCmd.watch.rest = s.watch.rest ∧ s.closeCmd.watch.latch = s.watch.latch := by
  have hfault : s.bypass.confirmedClosed = true → s.ownedIndex = none ∨ s.faultedWithLatch = false := by
    intro hc
    simpa [hc] using h
  unfold State.closeCmd
  split
  · exact ⟨rfl, rfl, rfl⟩
  · split
    next hs => exact confirmClosed_keeps (hfault (by simp [Bypass.confirmedClosed, hs]))
    next hs =>
      exact confirmClosed_keeps (s := s.onBypass _) (hfault (by simp [Bypass.confirmedClosed, hs]))
    all_goals exact ⟨rfl, rfl, rfl⟩

/-- Table 2-3: an entry leaves the latch and the rest hold-off as they are. -/
theorem enterBase_watch (p : Phase) (s : State) :
    (s.enterBase p).watch.rest = s.watch.rest ∧ (s.enterBase p).watch.latch = s.watch.latch := by
  have h : ∀ r : State, (r.leaveArming p).watch.rest = r.watch.rest ∧ (r.leaveArming p).watch.latch = r.watch.latch := by
    intro r
    unfold State.leaveArming State.when
    dsimp only
    repeat' split
    all_goals simp
  simp [State.enterBase, State.blocksOnEntry, h]

/-- R1, R8: the roster entry of an index in the table. -/
theorem entryAt_of_getElem? {s : State} {i : Nat} {e : RosterEntry} (h : s.roster.entries[i - 1]? = some e) :
    s.entryAt i = e := by
  simp [State.entryAt, List.getD_eq_getElem?_getD, h]

/-- R8: the condition of the own entry. -/
theorem ownCond_eq {s : State} {i : Nat} {e : RosterEntry} (hi : s.ownIndex = some i)
    (he : s.roster.entries[i - 1]? = some e) (c : Condition) : s.ownCond c = (e.cond == c) := by
  simp [State.ownCond, State.ownEntry, hi, entryAt_of_getElem? he]

/-- R9: the own index under active authority. -/
theorem ownedIndex_of_authority {s : State} (h : s.roster.authority = true) : s.ownedIndex = s.ownIndex := if_pos h

/-- R9: no own index under inactive authority. -/
theorem ownedIndex_of_no_authority {s : State} (h : s.roster.authority = false) : s.ownedIndex = none := by
  simp [State.ownedIndex, h]

/-- R125, R141: nothing follows a write that leaves the own entry other than FAULTED. -/
theorem followFaulted_of_not {s : State} (h : s.faultedWithLatch = false) : s.followFaulted = s := by
  simp [State.followFaulted, h]

/-- R141: an own entry of another condition than FAULTED. -/
theorem faultedWithLatch_of_cond {s : State} {i : Nat} {e : RosterEntry} (hi : s.ownIndex = some i)
    (he : s.roster.entries[i - 1]? = some e) (hc : e.cond ≠ .faulted) : s.faultedWithLatch = false := by
  simp [State.faultedWithLatch, ownCond_eq hi he, hc]

/-- R9, R13: the entry written at an index of the table. -/
theorem getElem?_setAt_self {α : Type} {l : List α} {j : Nat} {x y : α} (h : l[j]? = some x) :
    (setAt l j y)[j]? = some y :=
  List.getElem?_set_self (List.getElem?_eq_some_iff.mp h).1

/-- R9: outside the drive an own entry written carries the next version. -/
theorem assertEntry_entry {s : State} {i : Nat} {e : RosterEntry} {c : Condition} {k : FaultClass} (h : OutsideDrive s)
    (he : s.roster.entries[i - 1]? = some e) : (s.assertEntry i c k).roster.entries[i - 1]? = some (e.owned c k) := by
  rw [State.assertEntry_outside _ _ _ _ h, entryAt_of_getElem? he]
  exact getElem?_setAt_self he

/-- R9: outside the drive a write of another condition than FAULTED, and nothing after it. -/
theorem ownerWrite_entry {s : State} {i : Nat} {e : RosterEntry} {c : Condition} {k : FaultClass} (hout : OutsideDrive s)
    (hi : s.ownedIndex = some i) (hown : s.ownIndex = some i) (he : s.roster.entries[i - 1]? = some e)
    (hc : c ≠ .faulted) :
    (e.carries c k = true → (s.ownerWrite c k).roster = s.roster) ∧
    (e.carries c k = false → (s.ownerWrite c k).roster.entries[i - 1]? = some (e.owned c k)) := by
  have hentry := entryAt_of_getElem? he
  refine ⟨fun hcarry => ?_, fun hnew => ?_⟩
  · have hcond : e.cond = c := by
      simp only [RosterEntry.carries, Bool.and_eq_true, beq_iff_eq] at hcarry
      exact hcarry.1.1
    rw [State.ownerWrite, requestWrite_carried hi (hentry ▸ hcarry),
      followFaulted_of_not (faultedWithLatch_of_cond hown he (hcond ▸ hc))]
  · have hw : (s.assertEntry i c k).roster.entries[i - 1]? = some (e.owned c k) := assertEntry_entry hout he
    have hindex : (s.assertEntry i c k).ownIndex = some i := by rw [← hown]; exact State.ownIndex_congr (by simp)
    rw [State.ownerWrite, requestWrite_new hi (hentry ▸ hnew),
      followFaulted_of_not (faultedWithLatch_of_cond hindex hw hc)]
    exact hw

/-- R160: the roster after the isolation write is the one after its owner write. -/
theorem isolationWrite_roster {s : State} (h : (s.ownCond .live || s.ownCond .resting) = true) :
    s.isolationWrite.roster = (s.ownerWrite .resting FaultClass.isolation).roster := by
  unfold State.isolationWrite
  rw [h, State.when_true]
  unfold State.when
  split <;> simp

/-- R160: without own-entry authority the isolation write is none. -/
theorem isolationWrite_unowned {s : State} (h : s.ownedIndex = none) : s.isolationWrite = s := by
  have hrequest : s.ownerWrite .resting FaultClass.isolation = s := by
    rw [State.ownerWrite, requestWrite_unowned h]
    unfold State.followFaulted State.when
    split
    · exact requestWrite_unowned h
    · rfl
  simp [State.isolationWrite, hrequest, h, State.when]

/-- R8: the own condition follows from the store and the entries. -/
theorem ownCond_congr {r s : State} (hs : r.store = s.store) (he : r.roster.entries = s.roster.entries) (c : Condition) :
    r.ownCond c = s.ownCond c := by
  simp [State.ownCond, State.ownEntry, State.ownIndex_congr hs, funext (State.entryAt_congr he)]

/-- R8: the index owned follows from the store and the authority. -/
theorem ownedIndex_congr {r s : State} (hs : r.store = s.store) (ha : r.roster.authority = s.roster.authority) :
    r.ownedIndex = s.ownedIndex := by
  rw [State.ownedIndex, State.ownedIndex, State.ownIndex_congr hs, ha]

/-- The state in which an entry to ISOLATED makes its commands. -/
theorem enter_isolated_eq (s : State) : s.enter .isolated = (s.enterBase .isolated).closeCmd.isolationWrite :=
  State.enter_of_stays _ _ rfl

/-- R8, R160: the roster at an entry to ISOLATED, before its commands. -/
theorem enterBase_isolated_roster (s : State) :
    (s.enterBase .isolated).roster.entries = s.roster.entries ∧ (s.enterBase .isolated).roster.digest = s.roster.digest ∧
    (s.enterBase .isolated).roster.authority = s.roster.authority := by
  rw [State.enterBase_roster_outside _ _ rfl]
  exact ⟨rfl, rfl, rfl⟩

/-- R137, R160: the CLOSE at an entry to ISOLATED, where it writes nothing. -/
theorem close_isolated_keeps {s : State}
    (h : s.ownedIndex = none ∨ (s.bypass.confirmedClosed && s.faultedWithLatch) = false) :
    (s.enterBase .isolated).closeCmd.roster = (s.enterBase .isolated).roster ∧
    (s.enterBase .isolated).closeCmd.watch.rest = s.watch.rest := by
  obtain ⟨hentries, -, hauthority⟩ := enterBase_isolated_roster s
  obtain ⟨hrest, hlatch⟩ := enterBase_watch .isolated s
  have hfault : (s.enterBase .isolated).faultedWithLatch = s.faultedWithLatch := by
    simp [State.faultedWithLatch, ownCond_congr (r := s.enterBase .isolated) (s := s) (by simp) hentries, hlatch]
  have hbypass : (s.enterBase .isolated).bypass = s.bypass := by simp
  have hkeeps := closeCmd_keeps (s := s.enterBase .isolated) (by
    rw [ownedIndex_congr (r := s.enterBase .isolated) (s := s) (by simp) hauthority, hfault, hbypass]
    exact h)
  exact ⟨hkeeps.1, hkeeps.2.1.trans hrest⟩

/-- R160: an entry to ISOLATED at a station that owns no entry, or one it keeps. -/
theorem enter_isolated_kept {s : State}
    (h : s.ownedIndex = none ∨ (s.bypass.confirmedClosed && s.faultedWithLatch) = false ∧
      (s.ownCond .live || s.ownCond .resting) = false) :
    (s.enter .isolated).roster.entries = s.roster.entries ∧ (s.enter .isolated).watch.rest = s.watch.rest := by
  obtain ⟨hentries, -, hauthority⟩ := enterBase_isolated_roster s
  obtain ⟨hroster, hrest⟩ := close_isolated_keeps (h.imp_right And.left)
  have hwrite : (s.enterBase .isolated).closeCmd.isolationWrite = (s.enterBase .isolated).closeCmd := by
    have hstore : (s.enterBase .isolated).closeCmd.store = s.store := by simp
    rcases h with h | ⟨-, hcond⟩
    · refine isolationWrite_unowned ?_
      rw [ownedIndex_congr hstore (by rw [hroster, hauthority]), h]
    · refine State.isolationWrite_of_not _ ?_
      rw [ownCond_congr hstore (by rw [hroster, hentries]), ownCond_congr hstore (by rw [hroster, hentries]), hcond]
  rw [enter_isolated_eq, hwrite, hroster, hrest]
  exact ⟨hentries, rfl⟩

/-- R160: an entry to ISOLATED at an owner whose entry is LIVE or RESTING. -/
theorem enter_isolated_rests {s : State} {i : Nat} {e : RosterEntry} (hown : s.ownIndex = some i)
    (hauthority : s.roster.authority = true) (he : s.roster.entries[i - 1]? = some e)
    (hc : e.cond = .live ∨ e.cond = .resting) :
    (s.enter .isolated).watch.rest = .running (s.now + sec s.params.rest) ∧
    (e.carries .resting FaultClass.isolation = true →
      (s.enter .isolated).roster.entries = s.roster.entries ∧ (s.enter .isolated).roster.digest = s.roster.digest) ∧
    (e.carries .resting FaultClass.isolation = false →
      (s.enter .isolated).roster.entries[i - 1]? = some (e.owned .resting FaultClass.isolation)) := by
  obtain ⟨hentries, hdigest, hauth⟩ := enterBase_isolated_roster s
  have hnot : e.cond ≠ .faulted := by rcases hc with h | h <;> rw [h] <;> simp
  obtain ⟨hroster, -⟩ := close_isolated_keeps (s := s) (.inr (by rw [faultedWithLatch_of_cond hown he hnot, Bool.and_false]))
  obtain ⟨-, -, -, -, -, hout⟩ := State.closeCmd_outside (State.enterBase_outsideDrive .isolated s rfl)
  rw [enter_isolated_eq]
  have hnow : (s.enterBase .isolated).closeCmd.now = s.now := by simp
  have hstore : (s.enterBase .isolated).closeCmd.store = s.store := by simp
  generalize (s.enterBase .isolated).closeCmd = r at hroster hout hnow hstore
  have hown' : r.ownIndex = some i := (State.ownIndex_congr hstore).trans hown
  have howned : r.ownedIndex = some i := by rw [ownedIndex_of_authority (by rw [hroster, hauth, hauthority]), hown']
  have he' : r.roster.entries[i - 1]? = some e := by rw [hroster, hentries, he]
  have hcond : (r.ownCond .live || r.ownCond .resting) = true := by
    rw [ownCond_eq hown' he', ownCond_eq hown' he']
    rcases hc with h | h <;> rw [h] <;> rfl
  obtain ⟨hcarried, hnew⟩ := ownerWrite_entry (c := .resting) (k := FaultClass.isolation) hout howned hown' he' (by simp)
  refine ⟨?_, fun h => ?_, fun h => ?_⟩
  · rw [State.isolationWrite_rest (by rw [howned]; rfl) hcond, hnow, State.params_congr hstore]
  · rw [isolationWrite_roster hcond, hcarried h, hroster]
    exact ⟨hentries, hdigest⟩
  · rw [isolationWrite_roster hcond, hnew h]

/-- R160: ISOLATE ms without a valid frame. -/
theorem exec_isolateTimeout {t : Time} {s : State} (hr : s.runs = true) (hphase : s.round.phase ≠ .isolated)
    (hdue : s.bus.isoClock + 1000 * s.params.isolate ≤ max s.now t) :
    exec (.isolateTimeout t) s = .next ((s.advance t).enter .isolated) := by
  refine (State.runAt_runs hr).trans (congrArg _ ?_)
  have hdue' : decide (s.bus.isoClock + ms s.params.isolate ≤ max s.now t) = true := decide_eq_true hdue
  rw [State.advance_round, bne_iff_ne.mpr hphase, State.advance_bus_isoClock, State.advance_params, State.advance_now, hdue',
    Bool.and_self, State.when_true, State.isolate]

/-- Settles O12: the entry to ISOLATED, with the isolation write of each own entry. -/
theorem isolateTimeoutIsolates : Obligations.IsolateTimeoutIsolates := by
  intro t s hr hphase hdue
  refine ⟨(s.advance t).enter .isolated, exec_isolateTimeout hr hphase hdue, ?_⟩
  obtain ⟨hround, hbus, hforce, hcandidate⟩ := State.enter_isolated (s.advance t)
  rw [hround, hbus, hforce, hcandidate]
  refine ⟨rfl, rfl, rfl, rfl, rfl, rfl, rfl, rfl, rfl, rfl, rfl, State.gateEn_of_phase (by rw [hround]; rfl), by simp,
    fun i e hi ha _ he => ⟨fun hc => ?_, fun hc => ?_⟩, fun ha => ?_⟩
  · obtain ⟨hrest, hcarried, hnew⟩ := enter_isolated_rests (s := s.advance t) hi ha he hc
    refine ⟨hrest, fun ⟨h1, h2, h3⟩ => hcarried (by simp [RosterEntry.carries, h1, h2, h3, sourceOf]), fun h => ?_⟩
    refine hnew ?_
    rw [← Bool.not_eq_true]
    intro hcarry
    simp only [RosterEntry.carries, Bool.and_eq_true, beq_iff_eq, sourceOf] at hcarry
    obtain ⟨⟨h1, h2⟩, h3⟩ := hcarry
    rcases h with h | h | h
    · simp [h] at h1
    · exact h h3
    · exact h h2
  · refine enter_isolated_kept (s := s.advance t) (.inr ⟨?_, ?_⟩)
    · rcases hc with h | ⟨-, h | h⟩
      · rw [faultedWithLatch_of_cond (s := s.advance t) hi he (by simp [h]), Bool.and_false]
      · simp [State.faultedWithLatch, h]
      · rw [State.advance_bypass, h, Bool.false_and]
    · rw [ownCond_eq (s := s.advance t) hi he, ownCond_eq (s := s.advance t) hi he]
      rcases hc with h | ⟨h, -⟩ <;> rw [h] <;> rfl
  · exact enter_isolated_kept (s := s.advance t) (.inl (ownedIndex_of_no_authority ha))

end Sys2Proof.Proofs

/-! # The transmission attempt

PROOFS about the start of an attempt (R148, R149, R167), the frame stamped (R75, R85, R168, R171), and the medium outside an
attempt (R146, R147). -/

namespace Sys2Proof.Proofs

open Sys2Proof.Machine Sys2Proof.Safety

/-! ## The frame stamped -/

/-- R75: the plan a STATE frame shows: a BUILT candidate not known NOT VIABLE in PLANNING and REVISING, else the plan in
force. -/
theorem shownPlan_eq_some_iff {s : State} {c : Plan} :
    s.shownPlan = some c ↔
      ((s.round.phase = .planning ∨ s.round.phase = .revising) ∧ s.plan.build = .built ∧ s.plan.candidate = some c ∧
        c.verdict ≠ .notViable) ∨
      (s.plan.inForce = some c ∧ ((s.round.phase ≠ .planning ∧ s.round.phase ≠ .revising) ∨ s.plan.build ≠ .built ∨
        ∀ d, s.plan.candidate = some d → d.verdict = .notViable)) := by
  unfold State.shownPlan State.shownCandidate State.builtCandidate
  by_cases hphase : s.round.phase = .planning ∨ s.round.phase = .revising
  · by_cases hbuilt : s.plan.build = .built
    · cases hc : s.plan.candidate with
      | none => simp [hphase, hbuilt, ← not_or]
      | some d =>
        by_cases hv : d.verdict = .notViable
        · simp [hphase, hbuilt, hv, ← not_or]
          rintro rfl h
          exact absurd hv h
        · simp [hphase, hbuilt, hv, ← not_or]
          rintro rfl
          exact hv
    · simp [hphase, hbuilt]
  · simp [hphase, ← not_or]

/-- R168: the plan fields of a STATE. -/
theorem planFields_holds {s : State} {shown : Option Plan} (h : s.shownPlan = shown) :
    (shown = none → s.planFields = (false, 0, 0)) ∧
    ∀ c, shown = some c → s.planFields = (true, c.revision, c.digest?.getD 0) := by
  subst h
  exact ⟨fun hn => by simp [State.planFields, hn], fun c hc => by simp [State.planFields, hc]⟩

/-- R101, R171: the catch block of a LINE frame. -/
theorem catchBlock_eq (s : State) :
    s.catchBlock =
      if s.catcher.record.epoch = some s.round.epoch ∧ s.catcher.record.outcome ≠ .none then
        some ⟨s.catcher.record.outcome.code, frequencyField s.catcher.record.freq⟩
      else none := by
  simp [State.catchBlock]

/-! ## The start of an attempt -/

/-- R148: the head's access wait, at a quiet medium. -/
theorem accessOver_iff {g : QFrame} {q : Time} {s : State} (hq : s.bus.quietStart = some q) :
    s.accessOver g = true ↔ q + 2 + (g.rank * 28 + s.number) ≤ s.now := by
  rw [State.accessOver, hq, Nat.add_assoc]
  exact decide_eq_true_iff

/-- R148: before the end of its access wait the head does not start. -/
theorem tryAttempt_waits {g : QFrame} {rest : List QFrame} {s : State} (hqueue : s.bus.queue = g :: rest)
    (hover : s.accessOver g = false) : s.tryAttempt = s := by
  simp [State.tryAttempt, hqueue, hover]

/-- R148: at the end of its access wait the head starts, sending not barred and no attempt running. -/
theorem tryAttempt_starts {g : QFrame} {rest : List QFrame} {s : State} (hqueue : s.bus.queue = g :: rest)
    (hbar : s.barred = false) (ha : s.bus.attempt = none) (hover : s.accessOver g = true) :
    s.tryAttempt = s.beginAttempt g := by
  simp [State.tryAttempt, hqueue, hbar, ha, hover]

/-- R149: the attempt begun changes the Bus Interface, and at a LINE frame the Catch Unit. -/
theorem beginAttempt_holds {g : QFrame} {rest : List QFrame} {s : State} (hqueue : s.bus.queue = g :: rest) :
    (s.beginAttempt g).bus =
      { s.bus with queue := { g with inAttempt := true } :: rest, attempt := some ⟨s.stamp g.body, s.now⟩ } ∧
    s.beginAttempt g = { s with bus := (s.beginAttempt g).bus, catcher := (s.beginAttempt g).catcher } ∧
    (g.body.kind ≠ .line → (s.beginAttempt g).catcher = s.catcher) := by
  refine ⟨?_, ?_, fun hk => ?_⟩
  · simp [State.beginAttempt, hqueue, markHead]
  · unfold State.beginAttempt State.retireExpired State.when
    dsimp only
    repeat' split
    all_goals rfl
  · simp [State.beginAttempt, hk]

/-- Settles O13: before the end of the access wait nothing starts; at its end the frame is stamped with its payload. -/
theorem attemptStartsAfterAccessWait : Obligations.AttemptStartsAfterAccessWait := by
  refine ⟨fun t q g rest s hr hqueue hbar ha hq => ⟨fun hwait => ?waits, fun hover => ?starts⟩,
    fun t x s hr ha => ⟨?defer, ?invalid⟩⟩
  case waits =>
    refine (State.runAt_runs hr).trans (congrArg _ (tryAttempt_waits hqueue ?_))
    rw [← Bool.not_eq_true, accessOver_iff (s := s.advance t) hq]
    exact Nat.not_le.mpr hwait
  case starts =>
    have hstart := tryAttempt_starts (s := s.advance t) hqueue hbar ha ((accessOver_iff (s := s.advance t) hq).mpr hover)
    obtain ⟨hbus, hrest, hcatcher⟩ := beginAttempt_holds (s := s.advance t) hqueue
    refine ⟨_, (s.advance t).stamp g.body, (State.runAt_runs hr).trans (congrArg _ hstart), hbus, rfl, rfl, ?alarm, ?step,
      ?summary, ?state, ?line, hrest, hcatcher⟩
    case alarm =>
      intro o c p h
      rw [h]
      rfl
    case step =>
      intro c r d w h
      rw [h]
      rfl
    case summary =>
      intro h
      rw [h]
      rfl
    case state =>
      intro h
      refine ⟨(s.advance t).statePayload, by rw [h]; rfl, rfl, rfl, rfl, rfl, fun shown hshown => ?_⟩
      have heq : (s.advance t).shownPlan = shown :=
        Option.ext fun c => (shownPlan_eq_some_iff (s := s.advance t)).trans (hshown c).symm
      obtain ⟨hnone, hsome⟩ := planFields_holds heq
      refine ⟨fun h => ?_, fun c hc => ?_⟩
      · simp only [State.statePayload, hnone h]
        exact ⟨trivial, trivial, trivial⟩
      · simp only [State.statePayload, hsome c hc]
        exact ⟨trivial, trivial, fun b hb => by simp [Plan.digest?, hb]⟩
    case line =>
      intro m h
      refine ⟨s.catchBlock, s.switchBlock m, by rw [h]; rfl, fun hepoch hout => ?_, fun hnone => ?_, fun hp => ?_,
        fun w hw => ?_⟩
      · rw [catchBlock_eq, if_pos ⟨hepoch, hout⟩]
      · rw [catchBlock_eq, if_neg fun ⟨hepoch, hout⟩ => hnone.elim (absurd hepoch) (fun h => hout h)]
      · simp [State.switchBlock, hp]
      · simp [State.switchBlock, hw]
  case defer =>
    refine (State.runAt_runs hr).trans (congrArg _ ?_)
    rw [State.advance_bus_attempt, ha]
    rfl
  case invalid =>
    refine (State.runAt_runs hr).trans (congrArg _ ?_)
    rw [State.advance_bus_attempt, ha]
    rfl

end Sys2Proof.Proofs

/-! # The Line Port

PROOFS about the filtered inputs (R174, R175), the serial link (R176, R178) and the bytes of the release record (Table
10-3). -/

namespace Sys2Proof.Proofs

open Sys2Proof.Machine Sys2Proof.Safety

/-! ## The filtered inputs -/

section
variable {s : State} {i : LineInput} {b : Bool}

/-- R174: the first level after a reset sets the sample alone. -/
theorem inputChange_first (hl : s.isLine = true) (h : s.port.sample i = none) :
    s.inputChange i b = s.onPort (Port.setSample i ⟨b, s.now⟩) := by
  simp [State.inputChange, hl, h]

/-- R174: a level already held is no change. -/
theorem inputChange_held {u : Sample} (hl : s.isLine = true) (h : s.port.sample i = some u) (hu : u.asserted = b) :
    s.inputChange i b = s := by
  simp [State.inputChange, hl, h, hu]

/-- R174: a change replaces the sample and is handed on. -/
theorem inputChange_changed {u : Sample} (hl : s.isLine = true) (h : s.port.sample i = some u) (hu : u.asserted ≠ b) :
    s.inputChange i b = (s.onPort (Port.setSample i ⟨b, s.now⟩)).inputEdge i b := by
  simp [State.inputChange, hl, h, hu]

/-- R174: the inputs whose changes are handed on to no block. -/
theorem inputEdge_silent (h : i = .runReq ∨ i = .dir ∨ i = .overhaul ∨ i = .slowZone) : s.inputEdge i b = s := by
  rcases h with rfl | rfl | rfl | rfl <;> rfl

/-- R174: a change of such an input replaces its sample alone. -/
theorem inputChange_silent (hl : s.isLine = true) (hu : ∀ u ∈ s.port.sample i, u.asserted ≠ b)
    (h : i = .runReq ∨ i = .dir ∨ i = .overhaul ∨ i = .slowZone) :
    s.inputChange i b = s.onPort (Port.setSample i ⟨b, s.now⟩) := by
  cases hs : s.port.sample i with
  | none => exact inputChange_first hl hs
  | some u => rw [inputChange_changed hl hs (hu u (by simp [hs])), inputEdge_silent h]

end

/-- Settles O51: the first level, a falling edge, a level held, and a change of each input that no block takes. -/
theorem inputChangesReplaceSamples : Obligations.InputChangesReplaceSamples := by
  intro t s hr hl
  refine ⟨fun h => ?_, fun u h hu => ?_, fun u h hu => ?_, fun i b hu hi => ?_, fun i b u h hu => ?_⟩
  · exact (State.runAt_runs hr).trans (congrArg _ (inputChange_first (s := s.advance t) hl h))
  · exact (State.runAt_runs hr).trans
      (congrArg _ (inputChange_changed (s := s.advance t) (i := .faultRst) hl h (by simp [hu])))
  · exact (State.runAt_runs hr).trans (congrArg _ (inputChange_held (s := s.advance t) hl h hu))
  · exact (State.runAt_runs hr).trans (congrArg _ (inputChange_silent (s := s.advance t) hl hu hi))
  · exact (State.runAt_runs hr).trans (congrArg _ (inputChange_held (s := s.advance t) hl h hu))

/-! ## Bytes and bits -/

/-- R164: a 16-bit field read back from its two bytes. -/
theorem halfOfBytes_bytesOfHalf (h : Half) : halfOfBytes (h.extractLsb' 8 8) (h.extractLsb' 0 8) = h := by
  unfold halfOfBytes
  ext i hi
  rw [BitVec.getElem_append]
  split
  · simp [*]
  next h8 =>
    have hsum : 8 + (i - 8) = i := by omega
    rw [BitVec.getElem_extractLsb', hsum, BitVec.getLsbD_eq_getElem hi]

@[simp] theorem bitsOfBytes_nil : bitsOfBytes [] = [] := rfl

@[simp] theorem bitsOfBytes_cons (b : Byte) (bs : List Byte) : bitsOfBytes (b :: bs) = bitsOfByte b ++ bitsOfBytes bs := rfl

@[simp] theorem bitsOfBytes_append (bs cs : List Byte) : bitsOfBytes (bs ++ cs) = bitsOfBytes bs ++ bitsOfBytes cs :=
  List.flatMap_append

theorem bitsOfBytes_length (bs : List Byte) : (bitsOfBytes bs).length = 8 * bs.length := by
  induction bs with
  | nil => rfl
  | cons b bs ih => simp [ih, bitsOfByte]; omega

/-- R176: bytes read back from a bit string that begins with their bits. -/
theorem wholeBytes_bitsOfBytes (bs : List Byte) (rest : List Bool) :
    wholeBytes (bitsOfBytes bs ++ rest) = bs ++ wholeBytes rest := by
  induction bs with
  | nil => rfl
  | cons b bs ih =>
    simp only [bitsOfBytes_cons, bitsOfByte, List.cons_append, List.nil_append, wholeBytes, byteOfBits_bits]
    rw [ih]

/-- The bits of a byte are those it is made of. -/
theorem bitsOfByte_byteOfBits (b7 b6 b5 b4 b3 b2 b1 b0 : Bool) :
    bitsOfByte (byteOfBits b7 b6 b5 b4 b3 b2 b1 b0) = [b7, b6, b5, b4, b3, b2, b1, b0] := by
  cases b7 <;> cases b6 <;> cases b5 <;> cases b4 <;> cases b3 <;> cases b2 <;> cases b1 <;> cases b0 <;> rfl

/-- R176: bits of a whole number of bytes read back from their bytes. -/
theorem bitsOfBytes_wholeBytes : ∀ (n : Nat) (l : List Bool), l.length = 8 * n →
    bitsOfBytes (wholeBytes l) = l ∧ (wholeBytes l).length = n
  | 0, l, h => by
    obtain rfl := List.length_eq_zero_iff.mp h
    exact ⟨rfl, rfl⟩
  | n + 1, b7 :: b6 :: b5 :: b4 :: b3 :: b2 :: b1 :: b0 :: l, h => by
    obtain ⟨hbits, hlen⟩ := bitsOfBytes_wholeBytes n l (by simp at h; omega)
    simp [wholeBytes, bitsOfByte_byteOfBits, hbits, hlen]
  | n + 1, [], h | n + 1, [_], h | n + 1, [_, _], h | n + 1, [_, _, _], h | n + 1, [_, _, _, _], h
  | n + 1, [_, _, _, _, _], h | n + 1, [_, _, _, _, _, _], h | n + 1, [_, _, _, _, _, _, _], h => by
    simp only [List.length_cons, List.length_nil] at h
    omega

/-! ## The release record -/

/-- Table 10-3, offsets 0 to 21: the fields before the slots. -/
def recordHead (r : ReleaseRecord) : List Byte :=
  [r.flags] ++ bytesOfHalf r.epoch ++ [r.revision] ++ bytesOfHalf r.digest
    ++ [BitVec.ofNat 8 r.counts.a, BitVec.ofNat 8 r.counts.b, BitVec.ofNat 8 r.counts.c]
    ++ recordHalf r.thetaAB ++ recordHalf r.thetaBC ++ recordHalf r.thetaCA ++ recordHalf r.fraction
    ++ [r.outcome.code] ++ bytesOfHalf r.freq ++ bytesOfHalf (r.angle.getD 0)

/-- Table 10-3, offsets 22 to 62: the bits of the slots and the four after them. -/
def slotBits (r : ReleaseRecord) : List Bool := r.slots.flatMap RecordSlot.bits ++ [false, false, false, false]

theorem recordBytes_eq (r : ReleaseRecord) :
    r.bytes = recordHead r ++ (wholeBytes (slotBits r) ++ bytesOfHalf (crc r.body)) :=
  List.append_assoc ..

theorem recordBody_eq (r : ReleaseRecord) : r.body = recordHead r ++ wholeBytes (slotBits r) := rfl

theorem recordHead_length (r : ReleaseRecord) : (recordHead r).length = 22 := rfl

/-- Table 10-3: the bits of one slot. -/
theorem slotBits_one (x : RecordSlot) :
    x.bits[0]? = some x.active ∧ ∀ j, j < 11 → x.bits[1 + j]? = some (x.offset.getLsbD (10 - j)) := by
  refine ⟨rfl, fun j hj => ?_⟩
  obtain rfl | rfl | rfl | rfl | rfl | rfl | rfl | rfl | rfl | rfl | rfl : j = 0 ∨ j = 1 ∨ j = 2 ∨ j = 3 ∨ j = 4 ∨ j = 5 ∨
    j = 6 ∨ j = 7 ∨ j = 8 ∨ j = 9 ∨ j = 10 := by omega
  all_goals rfl

/-- Lists of 12 laid end to end: an element of the list at an index. -/
theorem flatMap_bits_getElem? {l : List RecordSlot} {i k : Nat} {x : RecordSlot} (hx : l[i]? = some x) (hk : k < 12) :
    (l.flatMap RecordSlot.bits)[12 * i + k]? = x.bits[k]? := by
  induction l generalizing i with
  | nil => simp at hx
  | cons y l ih =>
    rw [List.flatMap_cons]
    cases i with
    | zero =>
      obtain rfl : y = x := by simpa using hx
      rw [Nat.mul_zero, Nat.zero_add, List.getElem?_append_left (by exact hk)]
    | succ i =>
      have hi : 12 * (i + 1) + k - y.bits.length = 12 * i + k := by
        show 12 * (i + 1) + k - 12 = _
        omega
      rw [List.getElem?_append_right (by show 12 ≤ _; omega), hi]
      exact ih (by simpa using hx)

theorem flatMap_bits_length (l : List RecordSlot) : (l.flatMap RecordSlot.bits).length = 12 * l.length := by
  induction l with
  | nil => rfl
  | cons x l ih =>
    have hx : x.bits.length = 12 := rfl
    rw [List.flatMap_cons, List.length_append, ih, hx, List.length_cons]
    omega

section
variable {r : ReleaseRecord} (h : r.slots.length = 27)
include h

theorem slotBits_length : (slotBits r).length = 8 * 41 := by
  rw [slotBits, List.length_append, flatMap_bits_length, h]
  rfl

theorem recordBody_length : r.body.length = 63 := by
  rw [recordBody_eq, List.length_append, recordHead_length, (bitsOfBytes_wholeBytes 41 _ (slotBits_length h)).2]

/-- R176: the bits of the record from bit 176 on are those of its slots. -/
theorem recordBits_slot {k : Nat} (hk : k < 328) : (bitsOfBytes r.bytes)[176 + k]? = (slotBits r)[k]? := by
  have hhead : (bitsOfBytes (recordHead r)).length = 176 := by rw [bitsOfBytes_length, recordHead_length]
  rw [recordBytes_eq, bitsOfBytes_append, List.getElem?_append_right (by omega), hhead, Nat.add_sub_cancel_left,
    bitsOfBytes_append, (bitsOfBytes_wholeBytes 41 _ (slotBits_length h)).1,
    List.getElem?_append_left (by rw [slotBits_length h]; exact hk)]

/-- Table 10-3: the bits of the slot at an index. -/
theorem recordBits_slotAt {i k : Nat} {x : RecordSlot} (hx : r.slots[i]? = some x) (hk : k < 12) :
    (bitsOfBytes r.bytes)[176 + 12 * i + k]? = x.bits[k]? := by
  have hi : i < 27 := h ▸ (List.getElem?_eq_some_iff.mp hx).1
  rw [Nat.add_assoc, recordBits_slot h (by omega), slotBits,
    List.getElem?_append_left (by rw [flatMap_bits_length, h]; omega), flatMap_bits_getElem? hx hk]

/-- Table 10-3: the four bits after the slots. -/
theorem recordBits_rest {j : Nat} (hj : j < 4) : (bitsOfBytes r.bytes)[500 + j]? = some false := by
  have hk : 500 + j = 176 + (324 + j) := by omega
  rw [hk, recordBits_slot h (by omega), slotBits,
    List.getElem?_append_right (by rw [flatMap_bits_length, h]; omega), flatMap_bits_length, h]
  obtain rfl | rfl | rfl | rfl : j = 0 ∨ j = 1 ∨ j = 2 ∨ j = 3 := by omega
  all_goals rfl

/-- R176, Table 10-3: the CRC of the 63 bytes before it ends the record. -/
theorem recordBytes_crc : r.bytes.take 63 = r.body ∧ halfAt r.bytes 63 = crc (r.bytes.take 63) ∧ r.bytes.length = 65 := by
  have hlen := recordBody_length h
  have htake : r.bytes.take 63 = r.body := by rw [ReleaseRecord.bytes, ← hlen, List.take_left]
  refine ⟨htake, ?_, ?_⟩
  · rw [htake]
    have hat : ∀ k, byteAt r.bytes (63 + k) = byteAt (bytesOfHalf (crc r.body)) k := by
      intro k
      rw [byteAt, byteAt, ReleaseRecord.bytes, List.getD_eq_getElem?_getD, List.getD_eq_getElem?_getD,
        List.getElem?_append_right (by omega), hlen, Nat.add_sub_cancel_left]
    rw [halfAt, ← Nat.add_zero 63, Nat.add_assoc, hat 0, hat 1]
    exact halfOfBytes_bytesOfHalf _
  · rw [ReleaseRecord.bytes, List.length_append, hlen]
    rfl

end

/-- Table 10-3: the eight flag bits. -/
theorem recordFlags_bits (r : ReleaseRecord) :
    bitsOfByte r.flags = [r.valid, decide (r.mode = .trim), r.angle.isSome, false, false, false, false, false] := by
  unfold ReleaseRecord.flags
  generalize r.angle.isSome = c
  cases r.valid <;> cases r.mode <;> cases c <;> rfl

/-- Table 10-3: the fields before the slots, each at its offset. -/
theorem recordHead_fields (r : ReleaseRecord) (tail : List Byte) :
    halfAt (recordHead r ++ tail) 1 = r.epoch ∧ byteAt (recordHead r ++ tail) 3 = r.revision ∧
    halfAt (recordHead r ++ tail) 4 = r.digest ∧ byteAt (recordHead r ++ tail) 6 = BitVec.ofNat 8 r.counts.a ∧
    byteAt (recordHead r ++ tail) 7 = BitVec.ofNat 8 r.counts.b ∧
    byteAt (recordHead r ++ tail) 8 = BitVec.ofNat 8 r.counts.c ∧
    halfAt (recordHead r ++ tail) 9 = BitVec.ofNat 16 r.thetaAB ∧
    halfAt (recordHead r ++ tail) 11 = BitVec.ofNat 16 r.thetaBC ∧
    halfAt (recordHead r ++ tail) 13 = BitVec.ofNat 16 r.thetaCA ∧
    halfAt (recordHead r ++ tail) 15 = BitVec.ofNat 16 r.fraction ∧
    byteAt (recordHead r ++ tail) 17 = r.outcome.code ∧ halfAt (recordHead r ++ tail) 18 = r.freq ∧
    halfAt (recordHead r ++ tail) 20 = r.angle.getD 0 := by
  simp only [recordHead, recordHalf, bytesOfHalf, List.cons_append, List.nil_append, halfAt, byteAt, List.getD_cons_succ,
    List.getD_cons_zero, halfOfBytes_bytesOfHalf, and_self]

/-- Table 10-3: the first eight bits. -/
theorem recordBits_flags (r : ReleaseRecord) :
    (bitsOfBytes r.bytes).take 8 =
      [r.valid, decide (r.mode = .trim), r.angle.isSome, false, false, false, false, false] := by
  rw [recordBytes_eq, recordHead]
  simp only [List.cons_append, List.nil_append, bitsOfBytes_cons, recordFlags_bits]
  rfl

/-! ## The serial link -/

/-- R176: the level of LSO within a transfer and while IDLE, at a line station. -/
theorem lso_eq {s : State} (hr : s.runs = true) (hl : s.isLine = true) :
    s.lso = match s.port.transfer with
      | some x => x.snapshot.bit x.lsoIndex
      | none => (s.port.presented.getD s.port.record).bit 0 := by
  rw [State.lso, hr, hl]
  rfl

/-- R176: outside a transfer an edge of LSCK changes nothing. -/
theorem clockEdge_idle {now : Time} {rising lsi : Bool} {p : Port} (h : p.transfer = none) :
    p.clockEdge now rising lsi = p := by
  cases p
  subst h
  rfl

/-- Settles O52: the edges of LSCK while IDLE and within a transfer, and the bytes of the record. -/
theorem linkEdgesShiftRecordAndWord : Obligations.LinkEdgesShiftRecordAndWord := by
  refine ⟨fun t b s hr hl => ⟨fun hnone => ⟨?_, fun r => ?_, ?_⟩, fun x hx => ⟨fun hlow => ?_, fun hhigh => ?_, ?_⟩⟩,
    fun r h => ?_⟩
  · refine (State.runAt_runs hr).trans (congrArg _ ?_)
    rw [State.advance_isLine, hl, State.advance_port, hnone]
    rfl
  · refine (State.runAt_runs hr).trans (congrArg _ ?_)
    rw [State.onPort, clockEdge_idle (by rw [State.advance_port, hnone])]
  · rw [lso_eq hr hl, hnone]
    exact List.getD_eq_getElem?_getD
  · refine (State.runAt_runs hr).trans (congrArg _ ?_)
    simp [State.onPort, Port.clockEdge, hx, Transfer.rise, hlow]
  · refine (State.runAt_runs hr).trans (congrArg _ ?_)
    simp [State.onPort, Port.clockEdge, hx, Transfer.fall, hhigh]
  · rw [lso_eq hr hl, hx]
    exact List.getD_eq_getElem?_getD
  · obtain ⟨-, hcrc, hlen⟩ := recordBytes_crc h
    obtain ⟨h1, h3, h4, h6, h7, h8, h9, h11, h13, h15, h17, h18, h20⟩ :=
      recordHead_fields r (wholeBytes (slotBits r) ++ bytesOfHalf (crc r.body))
    rw [← recordBytes_eq] at h1 h3 h4 h6 h7 h8 h9 h11 h13 h15 h17 h18 h20
    refine ⟨hlen, recordBits_flags r, h1, h3, h4, h6, h7, h8, h9, h11, h13, h15, h17, h18, h20, fun i x hx => ?_,
      fun j hj => recordBits_rest h hj, hcrc⟩
    obtain ⟨hactive, hoffset⟩ := slotBits_one x
    refine ⟨(recordBits_slotAt h (k := 0) hx (by omega)).trans hactive, fun j hj => ?_⟩
    rw [Nat.add_assoc, recordBits_slotAt h hx (by omega), hoffset j hj]

/-! ## The status word -/

/-- R176, Table 10-2: fewer than 8 bytes give no status word. -/
theorem statusWordOf_short {now : Time} {bs : List Byte} (h : bs.length < 8) : statusWordOf now bs = none := by
  unfold statusWordOf
  split
  · simp only [List.length_cons] at h
    omega
  · rfl

/-- R176, Table 10-2: a wrong CRC gives no status word. -/
theorem statusWordOf_wrong {now : Time} {bs : List Byte} (h : crc (bs.take 6) ≠ halfAt bs 6) :
    statusWordOf now bs = none := by
  unfold statusWordOf
  split
  · exact if_neg h
  · rfl

/-- R176, Table 10-2: three fields with their CRC, whatever follows them. -/
theorem statusWordOf_right (now : Time) (v a e : Half) (rest : List Byte) :
    statusWordOf now (bytesOfHalf v ++ bytesOfHalf a ++ bytesOfHalf e ++
      bytesOfHalf (crc (bytesOfHalf v ++ bytesOfHalf a ++ bytesOfHalf e)) ++ rest) = some ⟨v, a, e, now⟩ := by
  simp only [bytesOfHalf, List.cons_append, List.nil_append, statusWordOf, halfOfBytes_bytesOfHalf, if_true]

/-- R176, R178: the end of a transfer, LSCK low for 10 µs. -/
theorem exec_transferEnd {t : Time} {x : Transfer} {s : State} (hr : s.runs = true) (hx : s.port.transfer = some x)
    (hlow : x.high = false) (hend : x.lastFall + 10 ≤ max s.now t) :
    exec (.transferEnd t) s = .next ((s.advance t).onPort (Port.endTransfer (max s.now t) x)) := by
  refine (State.runAt_runs hr).trans (congrArg _ ?_)
  have hended : x.ended (max s.now t) = true := by
    rw [Transfer.ended, hlow]
    exact decide_eq_true hend
  simp only [State.advance_port, hx, State.advance_now, hended, State.when_true]

/-- Settles O53: the word taken is that of the bytes received. -/
theorem transferEndTakesStatusWord : Obligations.TransferEndTakesStatusWord := by
  intro t x s hr hx hlow hend
  refine ⟨_, exec_transferEnd hr hx hlow hend, rfl, rfl, rfl, rfl, rfl, fun v a e rest hlsi => ?_, fun h => ?_, fun h => ?_⟩
  · have hword : statusWordOf (max s.now t) (wholeBytes x.lsi) = some ⟨v, a, e, max s.now t⟩ := by
      rw [hlsi, wholeBytes_bitsOfBytes]
      exact statusWordOf_right ..
    exact congrArg (·.or s.port.status) hword
  · exact congrArg (·.or s.port.status) (statusWordOf_short h)
  · exact congrArg (·.or s.port.status) (statusWordOf_wrong h)

end Sys2Proof.Proofs

/-! # Conversions and the catch

PROOFS about the scanner's conversions (R118 to R120), the samples and crossings of a catch (R103, R104), its evaluation
(R105 to R107), the residual test (R108), the brake (R109) and the catch's timers (R110, R114). -/

namespace Sys2Proof.Proofs

open Sys2Proof.Machine Sys2Proof.Safety

/-! ## Conversions -/

/-- R118: the end of the conversion in progress. -/
theorem exec_conversionComplete {t : Time} {v : Nat} {k : Bool} {a : Activity} {s : State} (hr : s.runs = true)
    (ha : s.scanner.activity = some a) (he : a.convEnd ≤ max s.now t) :
    exec (.conversionComplete t v k) s = .next ((s.advance t).convert a v k) := by
  refine (State.runAt_runs hr).trans (congrArg _ ?_)
  simp [ha, he]

/-- The scanner after the conversion `a` has ended with the result `v`. -/
def converted (now : Time) (a : Activity) (v : Nat) (c : Scanner) : Scanner :=
  (c.storeSlot a.channel (senseValue v)).moveOn now a

/-- R118, R120: a conversion that no block takes. -/
theorem convert_untaken {a : Activity} {v : Nat} {k : Bool} {s : State}
    (h : (s.isLine = true ∧ (s.catcher.active && k) = false) ∨ (s.isLine = false ∧ a.channel < s.scanner.last)) :
    s.convert a v k = s.onScanner (converted s.now a v) := by
  unfold State.convert
  rcases h with ⟨hl, hactive⟩ | ⟨hl, hlast⟩
  · rw [hl, hactive]
    rfl
  · rw [hl, decide_eq_false (by omega)]
    rfl

/-- R103: a conversion that an ACTIVE catch takes. -/
theorem convert_taken {a : Activity} {v : Nat} {s : State} (hl : s.isLine = true) (hactive : s.catcher.active = true) :
    s.convert a v true = (s.onScanner (converted s.now a v)).takeSample a.channel := by
  unfold State.convert
  rw [hl, hactive]
  rfl

@[simp] theorem converted_mode (now : Time) (a : Activity) (v : Nat) (c : Scanner) :
    (converted now a v c).mode = c.mode := by
  simp [converted, Scanner.storeSlot]

/-- The slot of a channel in the table. -/
theorem slot_eq {c : Scanner} {ch : Nat} {y : Slot} (h : c.slots[ch]? = some y) : c.slot ch = y := by
  simp [Scanner.slot, List.getD_eq_getElem?_getD, h]

/-- R120: the slots after a conversion: the result stored, with OVERRUN where FRESH was set. -/
theorem converted_slots {now : Time} {a : Activity} {v : Nat} {c : Scanner} {y : Slot}
    (h : c.slots[a.channel]? = some y) :
    (converted now a v c).slots = c.slots.set a.channel ⟨min v 1000, true, y.overrun || y.fresh⟩ := by
  simp only [converted, moveOn_slots, Scanner.storeSlot, slot_eq h]
  rfl

/-- R118: before the pass end the next channel's conversion follows. -/
theorem converted_next {now : Time} {a : Activity} {v : Nat} {c : Scanner} (h : a.channel < c.last) :
    (converted now a v c).activity = some ⟨a.channel + 1, a.passStart, now + 5⟩ ∧
    (converted now a v c).pending = c.pending := by
  simp only [converted, Scanner.moveOn]
  rw [if_pos (by exact h)]
  exact ⟨rfl, rfl⟩

/-- R118, R119: at the pass end the pending trigger's pass follows, or IDLE. -/
theorem converted_passEnd {now : Time} {a : Activity} {v : Nat} {c : Scanner} (h : c.last ≤ a.channel)
    (hmode : c.mode = .single) :
    (converted now a v c).pending = none ∧
    (converted now a v c).activity = if c.pending.isSome then some ⟨c.first, now, now + 5⟩ else none := by
  have hmode' : (c.storeSlot a.channel (senseValue v)).mode = .single := hmode
  simp only [converted, Scanner.moveOn]
  rw [if_neg (by exact Nat.not_lt.mpr h), hmode']
  cases hp : c.pending with
  | none =>
    have hp' : (c.storeSlot a.channel (senseValue v)).pending = none := hp
    simp only [hp']
    exact ⟨trivial, rfl⟩
  | some k =>
    have hp' : (c.storeSlot a.channel (senseValue v)).pending = some k := hp
    simp only [hp']
    exact ⟨rfl, rfl⟩

/-- Settles O36: no block takes the result, and the scanner moves on. -/
theorem conversionStoresResult : Obligations.ConversionStoresResult := by
  intro t v k a x s hr ha he hx h
  refine ⟨_, exec_conversionComplete hr ha he, ?_⟩
  have huntaken := convert_untaken (a := a) (v := v) (k := k) (s := s.advance t)
    (h.imp_left fun ⟨hl, hactive⟩ => ⟨hl, by rw [State.advance_catcher, hactive, Bool.false_and]⟩)
  rw [huntaken]
  exact ⟨rfl, converted_slots hx, converted_mode .., converted_next, converted_passEnd⟩

/-! ## The end of a catch -/

@[simp] theorem endCatch_catcher (o : CatchOutcome) (f : Int) (angle : Option Half) (u : Time) (s : State) :
    (s.endCatch o f angle u).catcher =
      { s.catcher with
        record := ⟨some s.round.epoch, o, f, angle, u, false⟩, timer := none, quiet := none, active := false } := rfl

@[simp] theorem endCatch_scanner (o : CatchOutcome) (f : Int) (angle : Option Half) (u : Time) (s : State) :
    (s.endCatch o f angle u).scanner = s.scanner.toDefault s.now := rfl

/-- R111: the end of a catch changes the Catch Unit and the scanner alone. -/
theorem endCatch_eq (o : CatchOutcome) (f : Int) (angle : Option Half) (u : Time) (s : State) :
    s.endCatch o f angle u =
      { s with catcher := (s.endCatch o f angle u).catcher, scanner := (s.endCatch o f angle u).scanner } := rfl

/-- R111: the scanner's default mode. -/
theorem toDefault_continuous {now : Time} {c : Scanner} (h : c.mode = .continuous) :
    c.toDefault now = ⟨0, 3, .single, .tick, none, none, c.slots⟩ := by
  unfold Scanner.toDefault
  rw [h]
  rfl

/-! ## Evaluation -/

/-- R105: the two intervals differ too much. -/
theorem unsteady_iff {tol i j : Nat} :
    unsteady tol i j = true ↔ tol * max i j < 100 * (max i j - min i j) := decide_eq_true_iff

/-- R106: an offset in just one window says the direction. -/
theorem phaseOrder_of_window {tol p d : Nat} {fwd : Bool} (h1 : withinThird tol p d 1 = fwd)
    (h2 : withinThird tol p d 2 = !fwd) : phaseOrder tol p d = if fwd then .forward else .reverse := by
  cases fwd <;> simp [phaseOrder, h1, h2]

section
variable {s : State} {t1 t2 t3 tb : Nat} (h : evaluationTimes s.catcher.crossings = some (t1, t2, t3, tb))
include h

/-- R105: unsteady intervals remove the oldest entry. -/
theorem evaluateCatch_unsteady (hu : unsteady s.params.catchTol (t2 - t1) (t3 - t2) = true) :
    s.evaluateCatch = s.dropOldest := by
  simp [State.evaluateCatch, h, hu]

/-- R106: an offset in neither window removes the oldest entry. -/
theorem evaluateCatch_undetermined (hu : unsteady s.params.catchTol (t2 - t1) (t3 - t2) = false)
    (ho : phaseOrder s.params.catchTol (((t2 - t1) + (t3 - t2)) / 2)
      (phaseOffset (((t2 - t1) + (t3 - t2)) / 2) t3 tb) = .undetermined) : s.evaluateCatch = s.dropOldest := by
  simp [State.evaluateCatch, h, hu, ho]

/-- R106: an offset in one window alone is checked against the drive controller's view. -/
theorem evaluateCatch_window {fwd : Bool} (hu : unsteady s.params.catchTol (t2 - t1) (t3 - t2) = false)
    (ho : phaseOrder s.params.catchTol (((t2 - t1) + (t3 - t2)) / 2)
      (phaseOffset (((t2 - t1) + (t3 - t2)) / 2) t3 tb) = if fwd then .forward else .reverse) :
    s.evaluateCatch = s.checkCatch (((t2 - t1) + (t3 - t2)) / 2) fwd t3 := by
  cases fwd <;> simp [State.evaluateCatch, h, hu, ho]

end

/-- R107: encoder and DIR agree. -/
theorem checkCatch_caught {s : State} {p : Nat} {fwd : Bool} {u : Time} {w : StatusWord} (hw : s.currentWord = some w)
    (hnear : 100 * (frequencyOf p fwd - w.encFreq.toInt).natAbs ≤ w.encFreq.toInt.natAbs * s.params.catchTol)
    (hdir : sampledAsserted s.port.dir = fwd) :
    s.checkCatch p fwd u = s.endCatch .caught (frequencyOf p fwd) (some 0) u := by
  simp [State.checkCatch, hw, frequencyNear, hnear, hdir]

/-- R107: no current word, or one that does not agree. -/
theorem checkCatch_failed {s : State} {p : Nat} {fwd : Bool} {u : Time}
    (h : ∀ w, s.currentWord = some w →
      w.encFreq.toInt.natAbs * s.params.catchTol < 100 * (frequencyOf p fwd - w.encFreq.toInt).natAbs ∨
      sampledAsserted s.port.dir ≠ fwd) :
    s.checkCatch p fwd u = s.endCatch .failed 0 none s.now := by
  unfold State.checkCatch
  split
  next w hw =>
    refine if_neg fun hboth => ?_
    simp only [frequencyNear, Bool.and_eq_true, decide_eq_true_eq, beq_iff_eq] at hboth
    obtain ⟨hnear, hdir⟩ := hboth
    exact (h w hw).elim (fun hfar => Nat.not_lt.mpr hnear hfar) fun hne => hne hdir.symm
  next => rfl

/-- Settles O41: unsteady intervals, an offset in neither window, and one in one window alone. -/
theorem evaluationDecidesCatch : Obligations.EvaluationDecidesCatch := by
  intro s t1 t2 t3 tb p d h hp hd
  subst hp hd
  refine ⟨fun hu => evaluateCatch_unsteady h (unsteady_iff.mpr hu), fun hu => ?_⟩
  have hsteady : unsteady s.params.catchTol (t2 - t1) (t3 - t2) = false := by
    rw [← Bool.not_eq_true, unsteady_iff]
    exact Nat.not_lt.mpr hu
  refine ⟨fun h1 h2 => evaluateCatch_undetermined h hsteady (by simp [phaseOrder, h1, h2]), fun fwd h1 h2 f hf => ?_⟩
  rw [evaluateCatch_window h hsteady (phaseOrder_of_window h1 h2)]
  have hfreq : f = frequencyOf (((t2 - t1) + (t3 - t2)) / 2) fwd := hf
  subst hfreq
  refine ⟨fun w hw hnear hdir => ?_, fun hfail => ?_⟩
  · rw [checkCatch_caught hw hnear hdir]
    exact ⟨rfl, rfl⟩
  · rw [checkCatch_failed hfail]
    exact ⟨rfl, rfl⟩

/-! ## The catch's timers -/

/-- R114: outcome EXPIRED ends an ACTIVE catch, and replaces the record of another. -/
theorem setExpired_holds (s : State) :
    s.setExpired.catcher.record.epoch = some s.round.epoch ∧ s.setExpired.catcher.record.outcome = .expired ∧
    s.setExpired.catcher.record.freq = 0 ∧ s.setExpired.catcher.record.angle = none ∧
    s.setExpired.catcher.active = false ∧ s.setExpired.catcher.budget = s.catcher.budget ∧
    s.setExpired.catcher.budgetTimer = s.catcher.budgetTimer ∧
    s.setExpired = { s with catcher := s.setExpired.catcher, scanner := s.setExpired.scanner } := by
  unfold State.setExpired
  split
  next => exact ⟨rfl, rfl, rfl, rfl, rfl, rfl, rfl, rfl⟩
  next hidle => exact ⟨rfl, rfl, rfl, rfl, by simpa using hidle, rfl, rfl, rfl⟩

/-- R114: the end of the budget. -/
theorem exec_budgetExpiry {t d : Time} {s : State} (hr : s.runs = true) (hb : s.catcher.budget = .running)
    (hd : s.catcher.budgetTimer = some d) (hdue : d ≤ max s.now t) :
    exec (.budgetExpiry t) s = .next (s.advance t).budgetOver := by
  refine (State.runAt_runs hr).trans (congrArg _ ?_)
  simp [hb, hd, due, hdue]

/-- Settles O43: the end of the catch timer, and of the budget with station 0 in the armed set and without. -/
theorem catchTimersEndCatch : Obligations.CatchTimersEndCatch := by
  refine ⟨fun t d s hr hactive hd hdue hmode => ?_, fun t d s hr hb hd hdue => ⟨fun harmed => ?_, fun harmed => ?_⟩⟩
  · have hend : exec (.catchTimerExpiry t) s = .next ((s.advance t).endCatch .failed 0 none (s.advance t).now) := by
      refine (State.runAt_runs hr).trans (congrArg _ ?_)
      simp [hactive, hd, due, hdue]
    exact ⟨_, hend, rfl, toDefault_continuous hmode, rfl⟩
  · rw [exec_budgetExpiry hr hb hd hdue, State.budgetOver, State.advance_round,
      if_pos (List.contains_iff_mem.mpr harmed)]
    rfl
  · have hover : (s.advance t).budgetOver =
        ((s.advance t).onCatcher fun c => { c with budget := .spent, budgetTimer := none }).setExpired :=
      if_neg (mt List.contains_iff_mem.mp harmed)
    obtain ⟨hepoch, houtcome, hfreq, hangle, hidle, hbudget, htimer, hrest⟩ :=
      setExpired_holds ((s.advance t).onCatcher fun c => { c with budget := .spent, budgetTimer := none })
    refine ⟨_, exec_budgetExpiry hr hb hd hdue, ?_⟩
    rw [hover]
    exact ⟨hbudget, htimer, hepoch, houtcome, hfreq, hangle, hidle, hrest⟩

/-! ## The brake -/

/-- R109: a brake drop at an ACTIVE catch, or with an unused CAUGHT or CARRIED record of the epoch. -/
theorem brakeDrop_holds (s : State) :
    s.brakeDrop.catcher.active = false ∧
    (s.catcher.active = true ∨ (s.catcher.record.epoch = some s.round.epoch ∧ s.catcher.record.used = false ∧
        (s.catcher.record.outcome = .caught ∨ s.catcher.record.outcome = .carried)) →
      s.brakeDrop.catcher.record.outcome = .standstill ∧ s.brakeDrop.catcher.record.freq = 0 ∧
      s.brakeDrop.catcher.record.angle = none) ∧
    (s.catcher.active = false → (s.catcher.record.epoch ≠ some s.round.epoch ∨ s.catcher.record.used = true ∨
        (s.catcher.record.outcome ≠ .caught ∧ s.catcher.record.outcome ≠ .carried)) →
      s.brakeDrop.catcher.record = s.catcher.record) ∧
    s.brakeDrop = { s with catcher := s.brakeDrop.catcher, scanner := s.brakeDrop.scanner } := by
  unfold State.brakeDrop
  split
  next hactive =>
    exact ⟨rfl, fun _ => ⟨rfl, rfl, rfl⟩, fun hidle => absurd hactive (by simp [hidle]), rfl⟩
  next hactive =>
    have hidle : s.catcher.active = false := by simpa using hactive
    split
    next hheld =>
      simp only [Bool.and_eq_true, Bool.or_eq_true, beq_iff_eq, Bool.not_eq_true'] at hheld
      obtain ⟨⟨hepoch, hused⟩, hout⟩ := hheld
      refine ⟨hidle, fun _ => ⟨rfl, rfl, rfl⟩, fun _ hother => ?_, rfl⟩
      rcases hother with h | h | ⟨h1, h2⟩
      · exact absurd hepoch h
      · simp [h] at hused
      · exact (hout.elim h1 h2).elim
    next hother =>
      refine ⟨hidle, fun h => ?_, fun _ _ => rfl, rfl⟩
      rcases h with h | ⟨hepoch, hused, hout⟩
      · exact absurd h hactive
      · refine absurd ?_ hother
        simp only [Bool.and_eq_true, Bool.or_eq_true, beq_iff_eq, Bool.not_eq_true']
        exact ⟨⟨hepoch, hused⟩, hout⟩

/-- Settles O44: the brake drop, and the budget stopped. -/
theorem brakeDropGivesStandstill : Obligations.BrakeDropGivesStandstill := by
  intro t u s hr hl hu hasserted
  have hchange := inputChange_changed (s := s.advance t) (i := .brakeOpen) (b := false) hl hu (by simp [hasserted])
  refine ⟨_, (State.runAt_runs hr).trans (congrArg _ hchange), ?_⟩
  obtain ⟨hidle, hdrop, hkept, hrest⟩ := brakeDrop_holds
    ((s.advance t).onPort (Port.setSample .brakeOpen ⟨false, (s.advance t).now⟩))
  refine ⟨?_, rfl, rfl, rfl, hidle, hdrop, hkept, ?_⟩
  · show State.port (State.brakeDrop _) = _
    rw [hrest]
    rfl
  · simp only [State.inputEdge]
    rw [hrest]
    rfl

/-! ## The residual test -/

/-- R108: no crossing entered, and every peak below CATCH_FLOOR. -/
theorem residualAbsent_iff {floor : Nat} {c : CatchUnit} :
    residualAbsent floor c = true ↔ c.entered = 0 ∧ c.trackAB.peakStart < floor ∧ c.trackBC.peakStart < floor ∧
      c.trackCA.peakStart < floor := by
  simp [residualAbsent, and_assoc]

/-- R173: the latest word while it is younger than 2 report periods. -/
theorem currentWord_iff {s : State} {w : StatusWord} :
    s.currentWord = some w ↔ s.port.status = some w ∧ s.now - w.time < 2 * s.report := by
  unfold State.currentWord
  cases s.port.status with
  | none => simp
  | some u =>
    simp only [Option.ite_none_right_eq_some, Option.some.injEq]
    constructor
    · rintro ⟨hyoung, rfl⟩
      exact ⟨rfl, hyoung⟩
    · rintro ⟨rfl, hyoung⟩
      exact ⟨hyoung, rfl⟩

/-- R108: what allows CARRIED. -/
theorem carriedAllowed_iff {s : State} :
    s.carriedAllowed = true ↔
      s.catcher.context.statusTag = .valid ∧ s.catcher.context.planTag = .valid ∧
      (∃ u, s.catcher.context.capture = some u ∧ s.catcher.start - u < ms s.params.contextLife) ∧
      s.catcher.context.overhauling = false ∧ sampledAsserted s.port.overhaul = false ∧
      ∃ w, s.currentWord = some w ∧
        100 * (w.encFreq.toInt - s.catcher.context.encFreq.toInt).natAbs ≤
          s.catcher.context.encFreq.toInt.natAbs * s.params.catchTol := by
  have hyoung : contextYoung (ms s.params.contextLife) s.catcher = true ↔
      ∃ u, s.catcher.context.capture = some u ∧ s.catcher.start - u < ms s.params.contextLife := by
    unfold contextYoung
    cases s.catcher.context.capture <;> simp
  cases hw : s.currentWord <;> simp [State.carriedAllowed, hyoung, hw, frequencyNear, and_assoc]

/-- R108: the outcome of the residual test, as its three cases give it. -/
theorem residualOutcome_eq (s : State) :
    ∃ o f angle u, s.residualOutcome = s.endCatch o f angle u ∧
      (s.carriedAllowed = true → s.catcher.context.dir = sampledAsserted s.port.dir →
        o = .carried ∧ f = s.catcher.context.driveFreq.toInt ∧ angle = some s.catcher.context.driveAngle ∧
        u = s.catcher.context.sampleTime) ∧
      (s.carriedAllowed = true → s.catcher.context.dir ≠ sampledAsserted s.port.dir → o = .failed ∧ f = 0) ∧
      (∀ w, s.carriedAllowed = false → s.currentWord = some w → w.encFreq.toInt.natAbs ≤ s.params.coldLimit →
        o = .cold ∧ f = w.encFreq.toInt ∧ angle = none) ∧
      (s.carriedAllowed = false → (∀ w, s.currentWord = some w → s.params.coldLimit < w.encFreq.toInt.natAbs) →
        o = .failed ∧ f = 0 ∧ angle = none) := by
  unfold State.residualOutcome
  split
  next hallowed =>
    split
    next hdir =>
      exact ⟨_, _, _, _, rfl, fun _ _ => ⟨rfl, rfl, rfl, rfl⟩, fun _ hne => absurd (beq_iff_eq.mp hdir) hne,
        fun w hno => by simp [hallowed] at hno, fun hno => by simp [hallowed] at hno⟩
    next hdir =>
      exact ⟨_, _, _, _, rfl, fun _ heq => absurd (beq_iff_eq.mpr heq) hdir, fun _ _ => ⟨rfl, rfl⟩,
        fun w hno => by simp [hallowed] at hno, fun hno => by simp [hallowed] at hno⟩
  next hallowed =>
    split
    next w hw =>
      split
      next hcold =>
        refine ⟨_, _, _, _, rfl, fun h => absurd h hallowed, fun h => absurd h hallowed, fun v _ hv _ => ?_,
          fun _ hfar => absurd hcold (Nat.not_le.mpr (hfar w hw))⟩
        obtain rfl : w = v := Option.some.inj (hw.symm.trans hv)
        exact ⟨rfl, rfl, rfl⟩
      next hcold =>
        refine ⟨_, _, _, _, rfl, fun h => absurd h hallowed, fun h => absurd h hallowed, fun v _ hv hle => ?_,
          fun _ _ => ⟨rfl, rfl, rfl⟩⟩
        obtain rfl : w = v := Option.some.inj (hw.symm.trans hv)
        exact absurd hle hcold
    next hw =>
      exact ⟨_, _, _, _, rfl, fun h => absurd h hallowed, fun h => absurd h hallowed,
        fun v _ hv => by simp [hw] at hv, fun _ _ => ⟨rfl, rfl, rfl⟩⟩

@[simp] theorem toDefault_single (now : Time) (c : Scanner) : (c.toDefault now).mode = .single := by
  cases h : c.mode with
  | single => simp [Scanner.toDefault, h]
  | continuous => rw [toDefault_continuous h]

/-- R108: the quiet mark of an ACTIVE catch. -/
theorem exec_quietMarkExpiry {t d : Time} {s : State} (hr : s.runs = true) (hactive : s.catcher.active = true)
    (hd : s.catcher.quiet = some d) (hdue : d ≤ max s.now t) :
    exec (.quietMarkExpiry t) s = .next (((s.advance t).onCatcher fun c => { c with quiet := none }).when
      (residualAbsent s.params.catchFloor s.catcher) State.residualOutcome) := by
  refine (State.runAt_runs hr).trans (congrArg _ ?_)
  simp [hactive, hd, due, hdue, State.quietMark]

/-- Settles O42: the residual voltage present, and absent with each outcome. -/
theorem quietMarkDecidesResidualTest : Obligations.QuietMarkDecidesResidualTest := by
  intro t d s hr hactive hd hdue
  rw [exec_quietMarkExpiry hr hactive hd hdue]
  refine ⟨residualAbsent_iff, fun w => currentWord_iff, carriedAllowed_iff, fun hpresent => ?_, fun habsent => ?_⟩
  · rw [hpresent]
    rfl
  · rw [habsent, State.when_true]
    obtain ⟨o, f, angle, u, heq, hcarried, hopposed, hcold, hfailed⟩ :=
      residualOutcome_eq ((s.advance t).onCatcher fun c => { c with quiet := none })
    refine ⟨_, rfl, ?_⟩
    rw [heq]
    exact ⟨rfl, rfl, rfl, rfl, rfl, toDefault_single .., rfl, hcarried, hopposed, hcold, hfailed⟩

/-! ## Samples and crossings -/

/-- R103: a conversion's result taken from its slot as it is stored. -/
theorem takeSample_converted {a : Activity} {v : Nat} {y : Slot} {s : State} (hy : s.scanner.slots[a.channel]? = some y) :
    ∃ r : State, r = { s with scanner := r.scanner } ∧ r.scanner.mode = s.scanner.mode ∧
      r.scanner.slots = s.scanner.slots.set a.channel ⟨min v 1000, false, false⟩ ∧
      (s.onScanner (converted s.now a v)).takeSample a.channel =
        if y.overrun || y.fresh then r.overrunSample a.channel (signedSample (min v 1000))
        else r.plainSample a.channel (signedSample (min v 1000)) := by
  have hlen : a.channel < s.scanner.slots.length := (List.getElem?_eq_some_iff.mp hy).1
  have hslot : (converted s.now a v s.scanner).slot a.channel = ⟨min v 1000, true, y.overrun || y.fresh⟩ :=
    slot_eq (by rw [converted_slots hy, List.getElem?_set_self hlen])
  refine ⟨(s.onScanner (converted s.now a v)).onScanner (Scanner.takeSlot a.channel), rfl, converted_mode .., ?_, ?_⟩
  · refine (congrArg (fun z : Slot => setAt (converted s.now a v s.scanner).slots a.channel z.take) hslot).trans ?_
    rw [converted_slots hy]
    exact List.set_set ..
  · have hslot' : (s.onScanner (converted s.now a v)).scanner.slot a.channel = ⟨min v 1000, true, y.overrun || y.fresh⟩ :=
      hslot
    simp only [State.takeSample, hslot']

/-- R104: the crossing that a sample detects. -/
theorem detect_rising {k : Tracker} {l x : Int} {u now : Time} (hk : k.last = some (l, u)) (hl : l < 0) (hx : 0 ≤ x) :
    k.detect x now = some (u + ((now - u) * l.natAbs) / (x - l).natAbs, max k.peakCross x.natAbs) := by
  have h1 : (0 - l).toNat = l.natAbs := by omega
  have h2 : (x - l).toNat = (x - l).natAbs := by omega
  simp only [Tracker.detect, hk, hl, hx, and_self, if_true, crossingTime, h1, h2]

/-- R104: any other sample detects none. -/
theorem detect_none {k : Tracker} {x : Int} {now : Time} (h : ∀ l u, k.last = some (l, u) → 0 ≤ l ∨ x < 0) :
    k.detect x now = none := by
  unfold Tracker.detect
  split
  next l u hk => exact if_neg fun ⟨hl, hx⟩ => (h l u hk).elim (fun h => absurd h (by omega)) fun h => absurd h (by omega)
  next => rfl

/-- R104: a crossing of V_AB or V_BC, high enough, at a time no entry holds. -/
theorem crossingEnters_iff {ch floor : Nat} {y : Time × Nat} {l : List Crossing} :
    crossingEnters ch floor y l = true ↔ ch ≤ 1 ∧ floor ≤ y.2 ∧ ∀ z ∈ l, z.time ≠ y.1 := by
  simp [crossingEnters, and_assoc]

/-- R104: a crossing placed between the earlier entries and the later ones. -/
theorem insertCrossing_between {x : Crossing} {early late : List Crossing} (he : ∀ z ∈ early, z.time < x.time)
    (hl : ∀ z ∈ late, x.time < z.time) : insertCrossing x (early ++ late) = early ++ x :: late := by
  induction early with
  | nil =>
    cases late with
    | nil => rfl
    | cons z late => exact if_neg (Nat.lt_asymm (hl z List.mem_cons_self))
  | cons z early ih =>
    refine (if_pos (he z List.mem_cons_self)).trans ?_
    exact congrArg (z :: ·) (ih fun w hw => he w (List.mem_cons_of_mem z hw))

/-- R104: the list keeps the eight latest. -/
theorem capCrossings_insert {x : Crossing} {early late : List Crossing} (he : ∀ z ∈ early, z.time < x.time)
    (hl : ∀ z ∈ late, x.time < z.time) :
    capCrossings (insertCrossing x (early ++ late)) =
      (early ++ x :: late).drop (if 8 ≤ (early ++ late).length then 1 else 0) := by
  rw [insertCrossing_between he hl, capCrossings]
  have hlen : (early ++ x :: late).length = (early ++ late).length + 1 := by simp; omega
  have hcap : Config.crossingCapacity = 8 := rfl
  rw [hlen, hcap]
  by_cases h : 8 ≤ (early ++ late).length
  · rw [if_pos (by omega), if_pos h]
  · rw [if_neg (by omega), if_neg h]
    rfl

/-- R105: without the entries an evaluation asks for, none is attempted. -/
theorem evaluateCatch_none {s : State} (h : evaluationTimes s.catcher.crossings = none) : s.evaluateCatch = s := by
  simp [State.evaluateCatch, h]

@[simp] theorem setTracker_record (ch : Nat) (k : Tracker) (c : CatchUnit) :
    (c.setTracker ch k).record = c.record := by
  unfold CatchUnit.setTracker
  repeat' split
  all_goals rfl

@[simp] theorem setTracker_clearances (ch : Nat) (k : Tracker) (c : CatchUnit) :
    (c.setTracker ch k).clearances = c.clearances := by
  unfold CatchUnit.setTracker
  repeat' split
  all_goals rfl

@[simp] theorem setTracker_entered (ch : Nat) (k : Tracker) (c : CatchUnit) :
    (c.setTracker ch k).entered = c.entered := by
  unfold CatchUnit.setTracker
  repeat' split
  all_goals rfl

/-- R103: the trackers after a gap and the sample that follows it. -/
theorem tracker_setTracker {ch j : Nat} (k : Tracker) (c : CatchUnit) (hch : ch ≤ 2) (hj : j ≤ 2) :
    (c.setTracker ch k).tracker j = if j = ch then k else c.tracker j := by
  obtain rfl | rfl | rfl : ch = 0 ∨ ch = 1 ∨ ch = 2 := by omega
  all_goals
    obtain rfl | rfl | rfl : j = 0 ∨ j = 1 ∨ j = 2 := by omega
    all_goals rfl

/-- The Catch Unit after a sample that showed OVERRUN: the list emptied, the last samples cleared, one clearance more. -/
def gapped (c : CatchUnit) : CatchUnit :=
  { c with
    crossings := [], trackAB := c.trackAB.gap, trackBC := c.trackBC.gap, trackCA := c.trackCA.gap
    clearances := c.clearances + 1 }

/-- R103: the trackers after a gap. -/
theorem gapped_tracker (j : Nat) (c : CatchUnit) : (gapped c).tracker j = (c.tracker j).gap := by
  unfold CatchUnit.tracker
  split
  · rfl
  · split <;> rfl

section
variable {s r : State} {x : Int} {ch : Nat} (hrest : r = { s with scanner := r.scanner })
include hrest

/-- R104: a sample that detects no crossing moves the last sample and the peaks alone. -/
theorem plainSample_none (hx : ∀ l u, (s.catcher.tracker ch).last = some (l, u) → 0 ≤ l ∨ x < 0) :
    r.plainSample ch x = { s with
      scanner := r.scanner
      catcher := s.catcher.setTracker ch
        ⟨some (x, s.now), max (s.catcher.tracker ch).peakCross x.natAbs,
          max (s.catcher.tracker ch).peakStart x.natAbs⟩ } := by
  rw [hrest]
  simp only [State.plainSample, detect_none hx]
  rfl

/-- R104: a sample that detects a rising crossing: entered and evaluated, or not entered. -/
theorem plainSample_rising {l : Int} {u c : Time} {amplitude : Nat} {k : CatchUnit}
    (hlast : (s.catcher.tracker ch).last = some (l, u)) (hl : l < 0) (hx : 0 ≤ x)
    (hc : c = u + ((s.now - u) * l.natAbs) / (x - l).natAbs)
    (ha : amplitude = max (s.catcher.tracker ch).peakCross x.natAbs)
    (hk : k = s.catcher.setTracker ch ⟨some (x, s.now), x.natAbs, max (s.catcher.tracker ch).peakStart x.natAbs⟩) :
    r.plainSample ch x =
      if crossingEnters ch s.params.catchFloor (c, amplitude) s.catcher.crossings then
        State.evaluateCatch { s with
          scanner := r.scanner
          catcher := { k with
            crossings := capCrossings (insertCrossing ⟨ch == 0, c⟩ s.catcher.crossings)
            entered := s.catcher.entered + 1 } }
      else { s with scanner := r.scanner, catcher := k } := by
  subst hc ha hk
  rw [hrest]
  simp only [State.plainSample, detect_rising hlast hl hx, State.onCatcher, KeptIn.setTracker_crossings, setTracker_entered,
    CatchUnit.enter]
  rfl

/-- R103: a sample after a gap, below the limit of clearances, is the first of its channel. -/
theorem overrunSample_first (hcount : s.catcher.clearances + 1 < 3) :
    r.overrunSample ch x = { s with
      scanner := r.scanner
      catcher := (gapped s.catcher).setTracker ch
        ⟨some (x, s.now), x.natAbs, max (s.catcher.tracker ch).peakStart x.natAbs⟩ } := by
  have hfeed : ((gapped s.catcher).tracker ch).feed x s.now =
      ⟨some (x, s.now), x.natAbs, max (s.catcher.tracker ch).peakStart x.natAbs⟩ := by
    rw [gapped_tracker, Tracker.feed, Tracker.gap, Nat.zero_max]
  rw [hrest, ← hfeed]
  exact if_neg (Nat.not_le.mpr hcount)

/-- R103: the third clearance fails the catch. -/
theorem overrunSample_third (hcount : 3 ≤ s.catcher.clearances + 1) :
    r.overrunSample ch x =
      State.endCatch .failed 0 none s.now { s with scanner := r.scanner, catcher := gapped s.catcher } := by
  rw [hrest]
  exact if_pos hcount

end

/-- R103, R118: a conversion that an ACTIVE catch takes, its slot clear before and after. -/
theorem exec_sample {t : Time} {v : Nat} {x : Int} {a : Activity} {y : Slot} {s : State}
    (hx : x = 2 * ((min v 1000 : Nat) - 500 : Int)) (hr : s.runs = true) (hl : s.isLine = true)
    (hactive : s.catcher.active = true) (ha : s.scanner.activity = some a)
    (he : a.convEnd ≤ max s.now t) (hy : s.scanner.slots[a.channel]? = some y) :
    ∃ r : State, r = { s.advance t with scanner := r.scanner } ∧
      r.scanner.slots = s.scanner.slots.set a.channel ⟨min v 1000, false, false⟩ ∧
      exec (.conversionComplete t v true) s = .next
        (if y.overrun || y.fresh then r.overrunSample a.channel x else r.plainSample a.channel x) := by
  subst hx
  obtain ⟨r, hrest, -, hslots, htake⟩ := takeSample_converted (v := v) (s := s.advance t) hy
  refine ⟨r, hrest, hslots, (exec_conversionComplete hr ha he).trans (congrArg _ ?_)⟩
  rw [convert_taken (s := s.advance t) hl hactive, htake]
  rfl

/-- Settles O40: a missed result, a sample without OVERRUN that detects a crossing or none, and one with OVERRUN. -/
theorem samplesEnterRisingCrossings : Obligations.SamplesEnterRisingCrossings := by
  intro t v a y s x k slots hr hl hactive ha he hch hy hx hk hslots
  subst hk hslots
  refine ⟨?missed, fun hfresh hover => ⟨fun hnone => ?plain, fun l u c amplitude r hlast hneg hpos hc hamp hrk => ?rising⟩,
    fun hfresh => ⟨fun hcount => ?gap, fun hcount => ?third⟩⟩
  case missed =>
    refine ⟨_, exec_conversionComplete hr ha he, ?_⟩
    rw [convert_untaken (s := s.advance t) (.inl ⟨hl, Bool.and_false _⟩)]
    exact ⟨rfl, converted_slots hy⟩
  case plain =>
    obtain ⟨r, hrest, hslots, hexec⟩ := exec_sample hx hr hl hactive ha he hy
    rw [hover, hfresh, Bool.or_false, if_neg Bool.false_ne_true, plainSample_none hrest hnone] at hexec
    exact ⟨_, hexec, rfl, hslots, rfl⟩
  case rising =>
    obtain ⟨q, hrest, hslots, hexec⟩ := exec_sample hx hr hl hactive ha he hy
    rw [hover, hfresh, Bool.or_false, if_neg Bool.false_ne_true, plainSample_rising hrest hlast hneg hpos hc hamp hrk] at hexec
    refine ⟨fun hnot => ?_, fun hne hfloor htimes => ?_⟩
    · rw [if_neg] at hexec
      · exact ⟨_, hexec, rfl, hslots⟩
      rw [crossingEnters_iff]
      rintro ⟨hlow, hamp', htimes⟩
      rcases hnot with h | h | ⟨z, hz, hzc⟩
      · omega
      · exact Nat.not_le.mpr h hamp'
      · exact htimes z hz hzc
    · have hlow : a.channel ≤ 1 := by omega
      rw [if_pos (crossingEnters_iff.mpr ⟨hlow, hfloor, htimes⟩)] at hexec
      refine ⟨{ s.advance t with
        scanner := q.scanner
        catcher := { r with
          crossings := capCrossings (insertCrossing ⟨a.channel == 0, c⟩ s.catcher.crossings)
          entered := s.catcher.entered + 1 } }, rfl, hslots, hexec, evaluateCatch_none, ?_⟩
      intro early late hsplit hearly hlate
      show capCrossings (insertCrossing _ s.catcher.crossings) = _
      rw [hsplit]
      exact capCrossings_insert hearly hlate
  case gap =>
    obtain ⟨r, hrest, hslots, hexec⟩ := exec_sample hx hr hl hactive ha he hy
    rw [hfresh, Bool.or_true, if_pos rfl, overrunSample_first hrest hcount] at hexec
    have htracker := fun (j : Nat) (hj : j ≤ 2) => tracker_setTracker (j := j)
      ⟨some (x, max s.now t), x.natAbs, max (s.catcher.tracker a.channel).peakStart x.natAbs⟩ (gapped s.catcher) hch hj
    refine ⟨_, hexec, rfl, hslots, by simpa [gapped] using hactive, by simp [gapped], by simp [gapped], by simp [gapped],
      by simp [gapped], (htracker _ hch).trans (if_pos rfl), fun j hj hne => ?_⟩
    have hother := (htracker j hj).trans (if_neg hne)
    rw [gapped_tracker] at hother
    exact ⟨(congrArg Tracker.last hother :), (congrArg Tracker.peakStart hother :)⟩
  case third =>
    obtain ⟨r, hrest, hslots, hexec⟩ := exec_sample hx hr hl hactive ha he hy
    rw [hfresh, Bool.or_true, if_pos rfl, overrunSample_third hrest hcount] at hexec
    exact ⟨_, hexec, rfl, rfl, rfl, rfl, rfl, rfl, toDefault_single ..⟩

end Sys2Proof.Proofs

/-! # Entries, writes and alarms: what they leave

PROOFS: SUPPORT. What an entry to a phase leaves in the roster, in Cell Watch and in the queue; what an entry change, an
owner write and a local alarm do; that an alarm finds its place in a queue that held at most four frames. -/

namespace Sys2Proof.Proofs

open Sys2Proof.Machine Sys2Proof.Safety

/-! ## Frames in the queue -/

/-- A frame of a kind that is queued in one copy, and that an entry or a write queues. -/
def Reports (g : QFrame) : Prop := g.body.kind = .state ∨ g.body.kind = .summary

/-- A queue of at most four frames, and a STATE and a SUMMARY beside them. -/
def RoomLeft (q : List QFrame) : Prop :=
  q.length ≤ 4 ∨ (q.length ≤ 5 ∧ ∃ g ∈ q, Reports g) ∨
  (q.length ≤ 6 ∧ (∃ g ∈ q, g.body.kind = .state) ∧ (∃ g ∈ q, g.body.kind = .summary) ∧
    ∃ g ∈ q, g.inAttempt = false ∧ Reports g)

/-- R153: a frame taken up is of the same kind, in its attempt or not. -/
theorem takeUp_keeps (b : QBody) (g : QFrame) :
    (g.takeUp b).body.kind = g.body.kind ∧ (g.takeUp b).inAttempt = g.inAttempt := by
  unfold QFrame.takeUp
  split
  next hk =>
    split
    · exact ⟨rfl, rfl⟩
    · exact ⟨hk.symm, rfl⟩
  next => exact ⟨rfl, rfl⟩

/-- R153: a frame of a single-copy kind held in the queue is taken up, and no frame is added. -/
theorem enqueueFrame_held {now : Time} {b : QBody} {q : List QFrame} (hs : b.kind.single = true)
    (h : ∃ g ∈ q, g.body.kind = b.kind) : enqueueFrame now b q = q.map (QFrame.takeUp b) := by
  have hany : q.any (fun g => g.body.kind == b.kind) = true := by simpa using h
  rw [enqueueFrame, hs, hany, Bool.and_self, if_pos rfl]

/-- R152: with room in the queue a frame not held is placed by its rank. -/
theorem enqueueFrame_room {now : Time} {b : QBody} {q : List QFrame}
    (h : b.kind.single = false ∨ ¬∃ g ∈ q, g.body.kind = b.kind) (hlen : q.length < 6) :
    enqueueFrame now b q = insertByRank (QFrame.fresh b now) q := by
  have hnot : (b.kind.single && q.any fun g => g.body.kind == b.kind) = false := by
    rcases h with h | h
    · rw [h, Bool.false_and]
    · rw [show (q.any fun g => g.body.kind == b.kind) = false by simpa using h, Bool.and_false]
  rw [enqueueFrame, hnot, if_neg Bool.false_ne_true, if_pos (show q.length < Config.queueCapacity from hlen)]

/-- A frame of a kind that is queued in one copy is in the queue once it is queued, with room for it. -/
theorem RoomLeft.held {now : Time} {b : QBody} {q : List QFrame} (hb : b = .state ∨ b = .summary) (h : RoomLeft q) :
    ∃ g ∈ enqueueFrame now b q, g.body = b := by
  have hsingle : b.kind.single = true := by rcases hb with rfl | rfl <;> rfl
  have hbody : ∀ g : QFrame, g.body.kind = b.kind → g.body = b := by
    intro g
    rcases hb with rfl | rfl <;> cases g.body <;> simp [QBody.kind]
  by_cases hheld : ∃ g ∈ q, g.body.kind = b.kind
  · obtain ⟨g, hg, hk⟩ := hheld
    rw [enqueueFrame_held hsingle ⟨g, hg, hk⟩]
    exact ⟨_, List.mem_map_of_mem hg, hbody _ ((takeUp_keeps b g).1.trans hk)⟩
  · have hlen : q.length < 6 := by
      rcases h with h | ⟨h, -⟩ | ⟨-, hstate, hsummary, -⟩
      · omega
      · omega
      · rcases hb with rfl | rfl
        · exact absurd hstate hheld
        · exact absurd hsummary hheld
    rw [enqueueFrame_room (.inr hheld) hlen]
    exact ⟨_, insertByRank_mem _ _, rfl⟩

/-- A frame placed by its rank leaves the others in the queue. -/
theorem mem_insertByRank_of_mem {f g : QFrame} {q : List QFrame} (h : g ∈ q) : g ∈ insertByRank f q :=
  mem_insertByRank.mpr (.inr h)

/-- A frame of a kind that is queued in one copy keeps the room for an ALARM. -/
theorem RoomLeft.queued {now : Time} {b : QBody} {q : List QFrame} (hb : b = .state ∨ b = .summary) (h : RoomLeft q) :
    RoomLeft (enqueueFrame now b q) := by
  have hsingle : b.kind.single = true := by rcases hb with rfl | rfl <;> rfl
  by_cases hheld : ∃ g ∈ q, g.body.kind = b.kind
  · have hmap : ∀ {k : QFrame → Prop} (_ : ∀ g, k g → k (g.takeUp b)), (∃ g ∈ q, k g) →
        ∃ g ∈ q.map (QFrame.takeUp b), k g :=
      fun hk ⟨g, hg, hkg⟩ => ⟨_, List.mem_map_of_mem hg, hk g hkg⟩
    rw [enqueueFrame_held hsingle hheld, RoomLeft, List.length_map]
    have hreports : ∀ g, Reports g → Reports (g.takeUp b) := fun g hg => by rwa [Reports, (takeUp_keeps b g).1]
    refine h.imp_right (.imp (.imp_right (hmap hreports)) (.imp_right fun ⟨h1, h2, h3⟩ => ⟨hmap ?_ h1, hmap ?_ h2, hmap ?_ h3⟩))
    · exact fun g hg => (takeUp_keeps b g).1.trans hg
    · exact fun g hg => (takeUp_keeps b g).1.trans hg
    · exact fun g ⟨hw, hg⟩ => ⟨(takeUp_keeps b g).2.trans hw, hreports g hg⟩
  · have hfresh : Reports (QFrame.fresh b now) := by
      rcases hb with rfl | rfl
      · exact .inl rfl
      · exact .inr rfl
    have hmem := insertByRank_mem (QFrame.fresh b now) q
    rcases h with hlen | ⟨hlen, g, hg, hreport⟩ | ⟨-, hstate, hsummary, -⟩
    · rw [enqueueFrame_room (.inr hheld) (by omega)]
      exact .inr (.inl ⟨by rw [insertByRank_length]; omega, _, hmem, hfresh⟩)
    · rw [enqueueFrame_room (.inr hheld) (by omega)]
      refine .inr (.inr ⟨by rw [insertByRank_length]; omega, ?_, ?_, _, hmem, rfl, hfresh⟩)
      · rcases hb with rfl | rfl
        · exact ⟨_, hmem, rfl⟩
        · exact ⟨g, mem_insertByRank_of_mem hg, hreport.resolve_right fun hk => hheld ⟨g, hg, hk⟩⟩
      · rcases hb with rfl | rfl
        · exact ⟨g, mem_insertByRank_of_mem hg, hreport.resolve_left fun hk => hheld ⟨g, hg, hk⟩⟩
        · exact ⟨_, hmem, rfl⟩
    · rcases hb with rfl | rfl
      · exact absurd hstate hheld
      · exact absurd hsummary hheld

/-- R132, R180: STEP frames withdrawn keep the room for an ALARM. -/
theorem RoomLeft.withdrawn {q : List QFrame} (h : RoomLeft q) :
    RoomLeft (q.filter fun g => g.inAttempt || g.body.kind != .step) := by
  have hlen := List.length_filter_le (fun g : QFrame => g.inAttempt || g.body.kind != .step) q
  have hkeep : ∀ {k : QFrame → Prop} (_ : ∀ g, k g → Reports g), (∃ g ∈ q, k g) →
      ∃ g ∈ q.filter (fun g => g.inAttempt || g.body.kind != .step), k g := by
    rintro k hk ⟨g, hg, hkg⟩
    refine ⟨g, List.mem_filter.mpr ⟨hg, ?_⟩, hkg⟩
    rcases hk g hkg with h | h <;> simp [h]
  rcases h with h | ⟨h, hreport⟩ | ⟨h, hstate, hsummary, hwaits⟩
  · exact .inl (by omega)
  · exact .inr (.inl ⟨by omega, hkeep (fun _ h => h) hreport⟩)
  · exact .inr (.inr ⟨by omega, hkeep (fun _ h => .inl h) hstate, hkeep (fun _ h => .inr h) hsummary,
      hkeep (fun _ h => h.2) hwaits⟩)

/-- R154: an ALARM finds its place. -/
theorem RoomLeft.alarm {now : Time} {b : QBody} {q : List QFrame} (hb : b.kind = .alarm) (h : RoomLeft q) :
    ∃ g ∈ enqueueFrame now b q, g.body = b := by
  have hsingle : b.kind.single = false := by rw [hb]; rfl
  by_cases hlen : q.length < 6
  · rw [enqueueFrame_room (.inl hsingle) hlen]
    exact ⟨_, insertByRank_mem _ _, rfl⟩
  · obtain ⟨-, -, -, g, hg, hwaits, hreport⟩ := (h.resolve_left (by omega)).resolve_left fun h => hlen (by omega)
    have hany : q.any (fun g => !g.inAttempt && g.body.kind != .alarm) = true := by
      refine List.any_eq_true.mpr ⟨g, hg, ?_⟩
      rcases hreport with h | h <;> simp [hwaits, h]
    rw [enqueueFrame, hsingle, Bool.false_and, if_neg Bool.false_ne_true,
      if_neg (show ¬q.length < Config.queueCapacity from hlen), hb, hany]
    exact ⟨_, insertByRank_mem _ _, rfl⟩

/-- R155: nothing is barred in a phase inside the drive but by the own address. -/
theorem barred_inside {s : State} (h : s.round.phase.outside = false) :
    s.barred = (s.bus.duplicate || !s.fitted) := by
  have h1 : s.round.phase ≠ .isolated := by rintro h'; simp [h', Phase.outside] at h
  have h2 : s.round.phase ≠ .joining := by rintro h'; simp [h', Phase.outside] at h
  rw [State.barred, beq_eq_false_iff_ne.mpr h1, beq_eq_false_iff_ne.mpr h2, Bool.false_and, Bool.or_false, Bool.false_or]

/-- A frame queued keeps the room for an ALARM. -/
theorem roomLeft_enqueue {b : QBody} {s : State} (hb : b = .state ∨ b = .summary) (h : RoomLeft s.bus.queue) :
    RoomLeft (s.enqueue b).bus.queue := by
  unfold State.enqueue
  split
  · exact h
  · exact h.queued hb

theorem roomLeft_queueSummary {s : State} (h : RoomLeft s.bus.queue) : RoomLeft s.queueSummary.bus.queue := by
  unfold State.queueSummary
  split
  · exact h
  · exact roomLeft_enqueue (.inr rfl) h

/-- R26: a SUMMARY queued inside the drive, sending not barred, is in the queue. -/
theorem mem_queueSummary {s : State} (ho : s.round.phase.outside = false) (hb : s.barred = false)
    (h : RoomLeft s.bus.queue) : ∃ g ∈ s.queueSummary.bus.queue, g.body = .summary := by
  have hq : s.queueSummary.bus.queue = enqueueFrame s.now .summary s.bus.queue := by
    simp [State.queueSummary, ho, State.enqueue, hb]
  rw [hq]
  exact h.held (.inr rfl)

/-- R33: an ALARM queued, sending not barred, is in the queue. -/
theorem mem_enqueue_alarm {s : State} {b : QBody} (hk : b.kind = .alarm) (hb : s.barred = false)
    (h : RoomLeft s.bus.queue) : ∃ g ∈ (s.enqueue b).bus.queue, g.body = b := by
  have hq : (s.enqueue b).bus.queue = enqueueFrame s.now b s.bus.queue := by simp [State.enqueue, hb]
  rw [hq]
  exact h.alarm hk

/-! ## Entry to a phase -/

theorem roomLeft_leaveArming {s : State} (p : Phase) (h : RoomLeft s.bus.queue) :
    RoomLeft (s.leaveArming p).bus.queue := by
  unfold State.leaveArming State.when
  dsimp only
  split
  · split
    · exact h.withdrawn
    · exact h
  · exact h

/-- R152, R155: an entry keeps the room for an ALARM. -/
theorem roomLeft_enterBase {s : State} (p : Phase) (h : RoomLeft s.bus.queue) : RoomLeft (s.enterBase p).bus.queue := by
  have hblocks : ∀ r : State, RoomLeft r.bus.queue → RoomLeft (r.blocksOnEntry p).bus.queue := by
    intro r hr
    rw [blocksOnEntry_bus]
    exact hr
  have hframes : ∀ (p0 : Phase) (r : State), RoomLeft r.bus.queue → RoomLeft (r.framesOnEntry p0 p).bus.queue := by
    intro p0 r hr
    have h1 : RoomLeft (r.when p.outside State.emptyQueue).bus.queue :=
      when_keeps (P := fun r : State => RoomLeft r.bus.queue) hr fun _ => .inl (Nat.zero_le _)
    have h2 : RoomLeft (r.when p.outside State.emptyQueue).queueState.bus.queue := roomLeft_enqueue (.inl rfl) h1
    exact when_keeps (P := fun r : State => RoomLeft r.bus.queue) h2 fun _ => roomLeft_queueSummary h2
  unfold State.enterBase
  have hwalk : ∀ r : State, (r.walkOnEntry p).bus = r.bus := fun r => by simp
  rw [hwalk]
  refine hframes _ _ (hblocks _ ?_)
  have hleft : ((((s.leaveArming p).leaveCatching).leaveRevising).contextOnEntry p).bus = (s.leaveArming p).bus := by simp
  rw [hleft]
  exact roomLeft_leaveArming p h

/-- Two rosters with the same table: entries, digest and its change time, and mismatch list. -/
def SameTable (r q : Roster) : Prop :=
  r.entries = q.entries ∧ r.digest = q.digest ∧ r.digestChange = q.digestChange ∧ r.mismatch = q.mismatch

theorem SameTable.refl (r : Roster) : SameTable r r := ⟨rfl, rfl, rfl, rfl⟩

theorem SameTable.trans {r q p : Roster} (h1 : SameTable r q) (h2 : SameTable q p) : SameTable r p := by
  obtain ⟨he, hd, hc, hm⟩ := h2
  exact ⟨h1.1.trans he, h1.2.1.trans hd, h1.2.2.1.trans hc, h1.2.2.2.trans hm⟩

theorem sameTable_onEntry (p : Phase) (r : Roster) : SameTable (Roster.onEntry p r) r := by
  unfold Roster.onEntry
  dsimp only
  split <;> exact ⟨rfl, rfl, rfl, rfl⟩

theorem sameTable_queueSummary (s : State) : SameTable s.queueSummary.roster s.roster := by
  unfold State.queueSummary
  split
  · exact .refl _
  · simp [SameTable]

theorem queueSummary_authority (s : State) : s.queueSummary.roster.authority = s.roster.authority := by
  unfold State.queueSummary
  split
  · rfl
  · simp

/-- The Roster Unit after an entry, but for the answer flag that a SUMMARY clears. -/
theorem enterBase_roster (p : Phase) (s : State) :
    SameTable (s.enterBase p).roster s.roster ∧
    (s.enterBase p).roster.authority = (Roster.onEntry p s.roster).authority := by
  have hblocks : ∀ r : State, (r.blocksOnEntry p).roster = Roster.onEntry p r.roster := fun r => by
    simp [State.blocksOnEntry]
  have hframes : ∀ (p0 : Phase) (r : State), SameTable (r.framesOnEntry p0 p).roster r.roster ∧
      (r.framesOnEntry p0 p).roster.authority = r.roster.authority := by
    intro p0 r
    have hq : ((r.when p.outside State.emptyQueue).queueState).roster = r.roster := by simp
    have htable : SameTable ((r.when p.outside State.emptyQueue).queueState).roster r.roster := hq ▸ .refl _
    refine when_keeps (P := fun q : State => SameTable q.roster r.roster ∧ q.roster.authority = r.roster.authority)
      ⟨htable, congrArg Roster.authority hq⟩ fun _ => ?_
    exact ⟨(sameTable_queueSummary _).trans htable, (queueSummary_authority _).trans (congrArg Roster.authority hq)⟩
  have hwalk : ∀ r : State, (r.walkOnEntry p).roster = r.roster := fun r => by simp
  have hleft : ((((s.leaveArming p).leaveCatching).leaveRevising).contextOnEntry p).roster = s.roster := by simp
  unfold State.enterBase
  obtain ⟨htable, hauthority⟩ := hframes s.round.phase
    (((((s.leaveArming p).leaveCatching).leaveRevising).contextOnEntry p).blocksOnEntry p)
  rw [hwalk, hauthority]
  refine ⟨htable.trans ?_, ?_⟩ <;> rw [hblocks, hleft]
  exact sameTable_onEntry p _

/-- R8: inside the drive own-entry authority is active. -/
theorem enterBase_authority {p : Phase} (hp : p.outside = false) (s : State) :
    (s.enterBase p).roster.authority = true := by
  rw [(enterBase_roster p s).2]
  cases p <;> first | rfl | simp [Phase.outside] at hp

/-- R132: Cell Watch after an entry: ARMING left ends the arming check. -/
theorem enterBase_watch_eq (p : Phase) (s : State) :
    (s.enterBase p).watch = if s.round.phase = .arming then
      { s.watch with check := .idle, sentArmed := false, sentRefused := false } else s.watch := by
  have hleft : (s.leaveArming p).watch = if s.round.phase = .arming then
      { s.watch with check := .idle, sentArmed := false, sentRefused := false } else s.watch := by
    unfold State.leaveArming
    split
    next h => simp [h]
    next h => simp [h]
  rw [← hleft]
  simp [State.enterBase]

theorem enterBase_watch_of_not_arming {p : Phase} {s : State} (h : s.round.phase ≠ .arming) :
    (s.enterBase p).watch = s.watch := by
  rw [enterBase_watch_eq, if_neg h]

/-- The role follows from the store. -/
theorem isLine_congr {r s : State} (h : r.store = s.store) : r.isLine = s.isLine := by
  unfold State.isLine
  rw [h]

/-- At a cell station an entry leaves the scanner and the Catch Unit as they are. -/
theorem enterBase_cell {p : Phase} {s : State} (hl : s.isLine = false) :
    (s.enterBase p).scanner = s.scanner ∧ (s.enterBase p).catcher = s.catcher := by
  have hcell : ∀ {r : State}, r.store = s.store → r.isLine = false := fun h => (isLine_congr h).trans hl
  have hcatching : (s.leaveArming p).leaveCatching = s.leaveArming p := by
    have := hcell (r := s.leaveArming p) (by simp)
    simp [State.leaveCatching, State.abandonCatch, State.when, this]
  have hcontext : ∀ r : State, r.store = s.store → (r.contextOnEntry p).scanner = r.scanner ∧
      (r.contextOnEntry p).catcher = r.catcher := by
    intro r hr
    unfold State.contextOnEntry State.when
    split <;> simp [State.saveContext, hcell hr]
  have hblocks : ∀ r : State, r.store = s.store → (r.blocksOnEntry p).catcher = r.catcher := by
    intro r hr
    simp [State.blocksOnEntry, hcell hr]
  obtain ⟨hscanner, hcatcher⟩ := hcontext ((s.leaveArming p).leaveRevising) (by simp)
  have hb := hblocks (((s.leaveArming p).leaveRevising).contextOnEntry p) (by simp)
  unfold State.enterBase
  rw [hcatching]
  constructor
  · simp [hscanner]
  · simp [hb, hcatcher]

/-! ## Trips and local alarms -/

/-- The state in which a trip enters its phase. -/
theorem takeTrip_eq (s : State) : ∃ (l : List Time) (p : Phase), (p = .tripped ∨ p = .lockout) ∧
    s.takeTrip = (s.onRound fun r => { r with attempts := l }).enterBase p := by
  unfold State.takeTrip
  dsimp only
  split
  · exact ⟨_, _, .inr rfl, rfl⟩
  · exact ⟨_, _, .inl rfl, rfl⟩

/-- R33: what a local alarm leaves, where it is not dropped. -/
structure AlarmTaken (s : State) (k : FaultClass) (r : State) : Prop where
  epoch : r.round.epoch = s.round.epoch + 1#16
  phase : r.round.phase = .tripped ∨ r.round.phase = .lockout
  inForce : r.plan.inForce = none
  candidate : r.plan.candidate = none
  record : r.plan.switchRecord = none
  table : SameTable r.roster s.roster
  authority : r.roster.authority = true
  watch : r.watch = if s.round.phase = .arming then
    { s.watch with check := .idle, sentArmed := false, sentRefused := false } else s.watch
  cell : s.isLine = false → r.scanner = s.scanner ∧ r.catcher = s.catcher
  frame : s.bus.duplicate = false → s.fitted = true → RoomLeft s.bus.queue →
    ∃ g ∈ r.bus.queue, g.body = .alarm (BitVec.ofNat 8 s.number) k.byte s.round.phase.code

/-- Where a station is fitted follows from the store. -/
theorem fitted_congr {r s : State} (h : r.store = s.store) : r.fitted = s.fitted := by
  unfold State.fitted State.params
  rw [h]

/-- R33, R35: a local alarm outside JOINING, ISOLATED and LOCKOUT. -/
theorem localAlarm_taken {s : State} (k : FaultClass) (h : s.round.phase.dropsAlarm = false) :
    AlarmTaken s k (s.localAlarm k) := by
  have hne : epochSucc s.round.epoch ≠ s.round.epoch := by
    unfold epochSucc
    intro he
    simp at he
  obtain ⟨l, p, hp, htrip⟩ := takeTrip_eq (s.setEpoch (epochSucc s.round.epoch))
  have hclears : p.clearsPlan = true := by rcases hp with rfl | rfl <;> rfl
  have hinside : p.outside = false := by rcases hp with rfl | rfl <;> rfl
  have heq : s.localAlarm k = (((s.setEpoch (epochSucc s.round.epoch)).onRound
      fun r => { r with attempts := l }).enterBase p).enqueue
        (.alarm (BitVec.ofNat 8 s.number) k.byte s.round.phase.code) := by
    rw [State.localAlarm, h, if_neg Bool.false_ne_true, htrip]
  rw [heq]
  have hround : ((s.setEpoch (epochSucc s.round.epoch)).onRound fun r => { r with attempts := l }).round.epoch =
      s.round.epoch + 1#16 := by
    rw [State.onRound_round, State.setEpoch_round hne]
    rfl
  have hphase : ((s.setEpoch (epochSucc s.round.epoch)).onRound fun r => { r with attempts := l }).round.phase =
      s.round.phase := by
    rw [State.onRound_round, State.setEpoch_round hne]
  have hcatcher : s.isLine = false →
      ((s.setEpoch (epochSucc s.round.epoch)).onRound fun r => { r with attempts := l }).catcher = s.catcher := by
    intro hl
    simp [State.setEpoch, hne, hl]
  have hbus : ((s.setEpoch (epochSucc s.round.epoch)).onRound fun r => { r with attempts := l }).bus = s.bus := by simp
  have hroster : ((s.setEpoch (epochSucc s.round.epoch)).onRound fun r => { r with attempts := l }).roster = s.roster := by
    simp
  have hwatch : ((s.setEpoch (epochSucc s.round.epoch)).onRound fun r => { r with attempts := l }).watch = s.watch := by
    simp
  have hscanner : ((s.setEpoch (epochSucc s.round.epoch)).onRound fun r => { r with attempts := l }).scanner =
      s.scanner := by simp
  have hstore : ((s.setEpoch (epochSucc s.round.epoch)).onRound fun r => { r with attempts := l }).store = s.store := by
    simp
  generalize (s.setEpoch (epochSucc s.round.epoch)).onRound (fun r => { r with attempts := l }) = q at *
  obtain ⟨hforce, hcandidate, -, hrecord⟩ := State.enterBase_plan p q hclears
  obtain ⟨htable, -⟩ := enterBase_roster p q
  have hentered : (q.enterBase p).round.phase = p := by rw [State.enterBase_round]; rfl
  constructor
  case epoch => simp [State.enterBase_round, Round.onEntry, hround]
  case phase => simpa [hentered] using hp
  case inForce => simpa using hforce
  case candidate => simpa using hcandidate
  case record => simpa using hrecord
  case table => simpa [hroster] using htable
  case authority => simpa using enterBase_authority hinside q
  case watch => simp [enterBase_watch_eq, hphase, hwatch]
  case cell =>
    intro hl
    obtain ⟨h1, h2⟩ := enterBase_cell (p := p) ((isLine_congr hstore).trans hl)
    simp [h1, h2, hscanner, hcatcher hl]
  case frame =>
    intro hdup hfit hroom
    refine mem_enqueue_alarm rfl ?_ (roomLeft_enterBase p (hbus ▸ hroom))
    rw [barred_inside (by rw [hentered]; exact hinside), fitted_congr (r := q.enterBase p) (s := q) (by simp),
      fitted_congr hstore, hfit]
    simp [hbus, hdup]

end Sys2Proof.Proofs

/-! # Owner writes: what they hand on

PROOFS: SUPPORT. What an entry change, an owner write and what follows it leave in the round, the roster, Cell Watch, the
queue and, at a cell station, in the scanner and the Catch Unit. -/

namespace Sys2Proof.Proofs

open Sys2Proof.Machine Sys2Proof.Safety

/-! ## An entry change handed on -/

/-- R38: where an entry change takes the phase, a counted resettle beyond its limit aside. -/
def PhaseMoves (p q : Phase) : Prop :=
  q = p ∨ (p = .running ∧ q = .revising) ∨ ((p = .halted ∨ p = .planning) ∧ q = .settling)

theorem PhaseMoves.trans {p q r : Phase} (h1 : PhaseMoves p q) (h2 : PhaseMoves q r) : PhaseMoves p r := by
  unfold PhaseMoves at *
  rcases h1 with rfl | ⟨rfl, rfl⟩ | ⟨h, rfl⟩
  · exact h2
  · exact .inr (.inl ⟨rfl, by simpa using h2⟩)
  · exact .inr (.inr ⟨h, by simpa using h2⟩)

/-- R45: a change in PLANNING leads to SETTLING. -/
def Replans (s : State) : Prop := s.round.phase = .planning → s.round.resettle < s.params.resettle

/-- R23, R38: what handing an entry change on leaves, by its owner or a merge. -/
structure Handed (s r : State) : Prop where
  store : r.store = s.store
  now : r.now = s.now
  bypass : r.bypass = s.bypass
  watch : r.watch = { s.watch with rest := r.watch.rest }
  authority : s.roster.authority = true → r.roster.authority = true
  cell : s.isLine = false → r.scanner = s.scanner ∧ r.catcher = s.catcher
  duplicate : r.bus.duplicate = s.bus.duplicate
  room : RoomLeft s.bus.queue → RoomLeft r.bus.queue
  round : (r.round = s.round ∧ r.plan.inForce = s.plan.inForce) ∨ (r.round.epoch = s.round.epoch ∧
    r.round.phase ≠ .planning ∧
    (Replans s → PhaseMoves s.round.phase r.round.phase ∧ r.plan.inForce = s.plan.inForce))

theorem Handed.refl (s : State) : Handed s s where
  store := rfl
  now := rfl
  bypass := rfl
  watch := rfl
  authority := id
  cell := fun _ => ⟨rfl, rfl⟩
  duplicate := rfl
  room := id
  round := .inl ⟨rfl, rfl⟩

theorem Handed.replans {s r : State} (h : Handed s r) (hs : Replans s) : Replans r := by
  intro hp
  rcases h.round with ⟨hr, -⟩ | ⟨-, hne, -⟩
  · rw [hr, State.params_congr h.store]
    exact hs (hr ▸ hp)
  · exact absurd hp hne

theorem Handed.trans {s r q : State} (h1 : Handed s r) (h2 : Handed r q) : Handed s q where
  store := h2.store.trans h1.store
  now := h2.now.trans h1.now
  bypass := h2.bypass.trans h1.bypass
  watch := by rw [h2.watch, h1.watch]
  authority := fun h => h2.authority (h1.authority h)
  cell := fun hl => by
    obtain ⟨hs1, hc1⟩ := h1.cell hl
    obtain ⟨hs2, hc2⟩ := h2.cell ((isLine_congr h1.store).trans hl)
    exact ⟨hs2.trans hs1, hc2.trans hc1⟩
  duplicate := h2.duplicate.trans h1.duplicate
  room := fun h => h2.room (h1.room h)
  round := by
    rcases h1.round with ⟨hr1, hi1⟩ | ⟨he1, hn1, hm1⟩
    · rcases h2.round with ⟨hr2, hi2⟩ | ⟨he2, hn2, hm2⟩
      · exact .inl ⟨hr2.trans hr1, hi2.trans hi1⟩
      · refine .inr ⟨by rw [he2, hr1], hn2, fun hs => ?_⟩
        obtain ⟨hm, hi⟩ := hm2 (h1.replans hs)
        exact ⟨hr1 ▸ hm, hi.trans hi1⟩
    · refine .inr ⟨?_, ?_, fun hs => ?_⟩
      · rcases h2.round with ⟨hr2, -⟩ | ⟨he2, -, -⟩
        · rw [hr2, he1]
        · rw [he2, he1]
      · rcases h2.round with ⟨hr2, -⟩ | ⟨-, hn2, -⟩
        · rw [hr2]
          exact hn1
        · exact hn2
      · obtain ⟨hm, hi⟩ := hm1 hs
        rcases h2.round with ⟨hr2, hi2⟩ | ⟨-, -, hm2⟩
        · exact ⟨hr2 ▸ hm, hi2.trans hi⟩
        · obtain ⟨hm', hi'⟩ := hm2 (h1.replans hs)
          exact ⟨hm.trans hm', hi'.trans hi⟩

/-- R76: an entry to a phase that does not clear it keeps the plan in force. -/
theorem enterBase_inForce {p : Phase} (hp : p.clearsPlan = false) (s : State) :
    (s.enterBase p).plan.inForce = s.plan.inForce := by
  have hwalk : ∀ r : State, (r.walkOnEntry p).plan.inForce = r.plan.inForce := by
    intro r
    unfold State.walkOnEntry State.when
    repeat' split
    all_goals simp [State.startWalk, PlanUnit.discard]
  have hunit : ∀ (p0 : Phase) (u : PlanUnit), (u.onEntry p0 p).inForce = u.inForce := by
    intro p0 u
    unfold PlanUnit.onEntry
    dsimp only
    rw [hp]
    repeat' split
    all_goals simp_all [PlanUnit.discard]
  simp [State.enterBase, hwalk, State.blocksOnEntry, hunit]

/-- R38: an entry that an entry change makes, from a state `q` that differs from `s` in the round alone. -/
theorem handed_enterBase {p : Phase} {s q : State} (hq : q = { s with round := q.round })
    (hepoch : q.round.epoch = s.round.epoch) (hphase : q.round.phase = s.round.phase) (ho : p.outside = false)
    (hp : p ≠ .planning) (ha : s.round.phase ≠ .arming)
    (hm : Replans s → PhaseMoves s.round.phase p ∧ p.clearsPlan = false) :
    Handed s (q.enterBase p) ∧ SameTable (q.enterBase p).roster s.roster ∧ (q.enterBase p).watch = s.watch := by
  have hround := State.enterBase_round p q
  have hstore : q.store = s.store := by rw [hq]
  have hroster : q.roster = s.roster := by rw [hq]
  have hbus : q.bus = s.bus := by rw [hq]
  have hplan : q.plan = s.plan := by rw [hq]
  have hwatch : (q.enterBase p).watch = s.watch := by
    rw [enterBase_watch_of_not_arming (p := p) (hphase ▸ ha), hq]
  refine ⟨?_, hroster ▸ (enterBase_roster p q).1, hwatch⟩
  constructor
  case store => simp [hstore]
  case now => rw [(State.enterBase_frame p q).1, hq]
  case bypass => rw [(State.enterBase_frame p q).2.2.2.2.1, hq]
  case watch => rw [hwatch]
  case authority => exact fun _ => enterBase_authority ho q
  case cell =>
    intro hl
    obtain ⟨h1, h2⟩ := enterBase_cell (p := p) ((isLine_congr hstore).trans hl)
    exact ⟨by rw [h1, hq], by rw [h2, hq]⟩
  case duplicate => simp [hbus]
  case room => exact fun h => roomLeft_enterBase p (hbus ▸ h)
  case round =>
    rw [hround]
    refine .inr ⟨hepoch, hp, fun hs => ?_⟩
    obtain ⟨hmoves, hkeeps⟩ := hm hs
    exact ⟨hmoves, (enterBase_inForce hkeeps q).trans (by rw [hplan])⟩

/-- R45: a counted resettle from PLANNING. -/
theorem handed_resettle {s : State} (hs : s.round.phase = .planning) :
    Handed s s.resettle ∧ SameTable s.resettle.roster s.roster ∧ s.resettle.watch = s.watch := by
  have ha : s.round.phase ≠ .arming := by simp [hs]
  unfold State.resettle
  dsimp only
  split
  next hover =>
    refine handed_enterBase rfl rfl rfl rfl (by simp) ha fun hreplans => absurd (hreplans hs) ?_
    simp only [State.onRound_round] at hover
    omega
  next hin => exact handed_enterBase rfl rfl rfl rfl (by simp) ha fun _ => ⟨.inr (.inr ⟨.inr hs, rfl⟩), rfl⟩

/-- R38: what an entry change by its owner or a merge leaves. -/
theorem handed_entryChange {o : Origin} {s : State} (ho : o ≠ .mark) :
    Handed s (s.entryChange o) ∧ SameTable (s.entryChange o).roster s.roster ∧ (s.entryChange o).watch = s.watch := by
  have hrefl : Handed s s ∧ SameTable s.roster s.roster ∧ s.watch = s.watch := ⟨.refl s, .refl _, rfl⟩
  have hdefer : s.round.phase ≠ .planning →
      Handed s (s.onRound fun r => { r with deferred := true }) ∧ SameTable s.roster s.roster ∧ s.watch = s.watch := by
    intro hp
    refine ⟨?_, .refl _, rfl⟩
    constructor
    case round => exact .inr ⟨rfl, hp, fun _ => ⟨.inl rfl, rfl⟩⟩
    all_goals simp
  unfold State.entryChange
  split
  next => exact hrefl
  next => exact hrefl
  next => exact hrefl
  next => exact hrefl
  next => exact hrefl
  next hp =>
    exact handed_enterBase rfl rfl rfl rfl (by simp) (by simp [hp]) fun _ => ⟨.inr (.inr ⟨.inl hp, rfl⟩), rfl⟩
  next hp => exact handed_resettle hp
  next hp => exact hdefer (by simp [hp])
  next hp => exact hdefer (by simp [hp])
  next hp =>
    rw [if_neg ho]
    exact handed_enterBase rfl rfl rfl rfl (by simp) (by simp [hp]) fun _ => ⟨.inr (.inl ⟨hp, rfl⟩), rfl⟩
  next hp =>
    rw [if_neg ho]
    refine ⟨?_, by simp [SameTable], by simp⟩
    constructor
    case round => simp
    all_goals simp

theorem planEntryChange_inForce (i : Nat) (s : State) : (s.planEntryChange i).plan.inForce = s.plan.inForce := by
  unfold State.planEntryChange
  repeat' split
  all_goals simp [State.startWalk]

/-- R65: an entry change taken by the Plan Unit changes the walk alone. -/
theorem handed_planEntryChange (i : Nat) (s : State) : Handed s (s.planEntryChange i) := by
  constructor
  case round => simp [planEntryChange_inForce]
  all_goals simp

/-- R23: what a change handed on leaves. -/
theorem handed_handChange {o : Origin} (ho : o ≠ .mark) (i : Nat) (s : State) :
    Handed s (s.handChange o i) ∧ SameTable (s.handChange o i).roster s.roster ∧ (s.handChange o i).watch = s.watch := by
  obtain ⟨h1, h2, h3⟩ := handed_entryChange (s := s.planEntryChange i) ho
  refine ⟨(handed_planEntryChange i s).trans h1, ?_, ?_⟩
  · simpa [State.handChange] using h2
  · simpa [State.handChange] using h3

theorem handed_queueSummary (s : State) : Handed s s.queueSummary := by
  constructor
  case authority => exact fun h => (queueSummary_authority s).trans h
  case room => exact roomLeft_queueSummary
  case round => simp
  all_goals simp

/-! ## Owner writes -/

theorem handed_writeEntry (i : Nat) (e : RosterEntry) (s : State) : Handed s (s.writeEntry i e) := by
  constructor
  case authority => exact fun h => h
  case round => simp
  all_goals simp

theorem handed_timeRest (c : Condition) (s : State) : Handed s (s.timeRest c) := by
  constructor
  case watch => rfl
  case round => simp
  all_goals simp [State.timeRest]

/-- R9: what a write of the own entry leaves. -/
theorem handed_assertEntry (i : Nat) (c : Condition) (k : FaultClass) (s : State) :
    Handed s (s.assertEntry i c k) ∧
    (s.assertEntry i c k).roster.entries = setAt s.roster.entries (i - 1) ((s.entryAt i).owned c k) ∧
    (s.assertEntry i c k).watch.rest = restAfter s.now (sec s.params.rest) c := by
  obtain ⟨hchange, htable, hwatch⟩ := handed_handChange (o := .owner) (by simp) i
    ((s.writeEntry i ((s.entryAt i).owned c k)).timeRest c)
  refine ⟨(((handed_writeEntry ..).trans (handed_timeRest ..)).trans hchange).trans (handed_queueSummary _), ?_, ?_⟩
  · exact ((sameTable_queueSummary _).1.trans htable.1).trans (by simp [State.writeEntry, Roster.withEntries])
  · have hrest : (s.assertEntry i c k).watch = ((s.writeEntry i ((s.entryAt i).owned c k)).timeRest c).watch := by
      simpa [State.assertEntry] using hwatch
    rw [hrest, State.timeRest_rest, State.params_congr (r := s.writeEntry i _) (s := s) (by simp)]
    simp

/-- R9: what an owner write leaves. -/
theorem handed_requestWrite (c : Condition) (k : FaultClass) (s : State) : Handed s (s.requestWrite c k) := by
  unfold State.requestWrite
  split
  · split
    · exact .refl s
    · exact (handed_assertEntry ..).1
  · exact .refl s

theorem handed_ownerWrite (c : Condition) (k : FaultClass) (s : State) : Handed s (s.ownerWrite c k) :=
  (handed_requestWrite c k s).trans (when_keeps (P := Handed (s.requestWrite c k)) (.refl _) fun _ => handed_requestWrite ..)

/-- R9: an owner write without own-entry authority is none. -/
theorem ownerWrite_unowned {c : Condition} {k : FaultClass} {s : State} (h : s.ownedIndex = none) :
    s.ownerWrite c k = s := by
  rw [State.ownerWrite, requestWrite_unowned h]
  unfold State.followFaulted State.when
  split
  · exact requestWrite_unowned h
  · rfl

section
variable {s : State} {i : Nat} {e : RosterEntry} {c : Condition} {k : FaultClass}
variable (howned : s.ownedIndex = some i) (he : s.roster.entries[i - 1]? = some e)
include howned he

/-- R9: a content not yet carried is written with the next version. -/
theorem requestWrite_entry (hnew : e.carries c k = false) :
    (s.requestWrite c k).roster.entries[i - 1]? = some (e.owned c k) ∧
    (s.requestWrite c k).watch.rest = restAfter s.now (sec s.params.rest) c := by
  rw [requestWrite_new howned (entryAt_of_getElem? he ▸ hnew)]
  obtain ⟨-, hentries, hrest⟩ := handed_assertEntry i c k s
  rw [hentries, entryAt_of_getElem? he]
  exact ⟨getElem?_setAt_self he, hrest⟩

omit he in
/-- R8: the own index under active authority is the own index. -/
theorem ownIndex_of_owned : s.ownIndex = some i := by
  unfold State.ownedIndex at howned
  split at howned
  · exact howned
  · simp at howned

omit he in
theorem authority_of_owned : s.roster.authority = true := by
  unfold State.ownedIndex at howned
  split at howned
  · assumption
  · simp at howned

omit he in
/-- R8: the index owned is kept by every change handed on. -/
theorem Handed.owned {r : State} (h : Handed s r) : r.ownedIndex = some i := by
  rw [ownedIndex_of_authority (h.authority (authority_of_owned howned)), State.ownIndex_congr h.store,
    ownIndex_of_owned howned]

/-- R9, R141: a write of another condition than FAULTED has nothing follow it. -/
theorem ownerWrite_eq (hc : c ≠ .faulted) (hnew : e.carries c k = false) :
    s.ownerWrite c k = s.requestWrite c k := by
  have hw := (requestWrite_entry howned he hnew).1
  have hown := ownIndex_of_owned ((handed_requestWrite c k s).owned howned)
  exact followFaulted_of_not (faultedWithLatch_of_cond hown hw hc)

omit he in
/-- R38: the round after a write is the one after its entry change. -/
theorem requestWrite_round (hnew : (s.entryAt i).carries c k = false) :
    ∃ q : State, q.round = s.round ∧ q.plan.inForce = s.plan.inForce ∧ q.now = s.now ∧ q.params = s.params ∧
      (s.requestWrite c k).round = (q.entryChange .owner).round := by
  rw [requestWrite_new howned hnew]
  refine ⟨((s.writeEntry i ((s.entryAt i).owned c k)).timeRest c).planEntryChange i, by simp, ?_, by simp,
    State.params_congr (by simp), ?_⟩
  · rw [planEntryChange_inForce]
    rfl
  · simp [State.assertEntry, State.handChange]

end

/-! ## The entry change by the phase that takes it -/

theorem entryChange_halted {o : Origin} {s : State} (h : s.round.phase = .halted) :
    s.entryChange o = s.enterBase .settling := by
  simp [State.entryChange, h]

theorem entryChange_running {o : Origin} {s : State} (ho : o ≠ .mark) (h : s.round.phase = .running) :
    s.entryChange o = s.enterBase .revising := by
  simp [State.entryChange, h, ho]

theorem entryChange_revising {o : Origin} {s : State} (ho : o ≠ .mark) (h : s.round.phase = .revising) :
    s.entryChange o = s.cancelSwitch := by
  simp [State.entryChange, h, ho]

end Sys2Proof.Proofs

/-! # The Bypass Controller and readmission

PROOFS about the rest hold-off (R95, R96), the feedback of the bypass (R136) and the CONTACT timer (R140). -/

namespace Sys2Proof.Proofs

open Sys2Proof.Machine Sys2Proof.Safety

/-! ## Readmission -/

/-- R96: the readmission trigger. -/
theorem readmissionMet_iff {s : State} :
    s.readmissionMet = true ↔ s.isLine = false ∧ (s.round.phase = .halted ∨ s.round.phase = .running) ∧
      s.ownCond .resting = true ∧ s.watch.rest = .elapsed ∧ s.watch.inBand = s.params.persist ∧ s.watch.latch = [] := by
  simp [State.readmissionMet, isCell_eq_not_isLine, and_assoc]

/-- R8: a station that owns an entry has the cell role. -/
theorem isLine_of_ownIndex {s : State} {i : Nat} (h : s.ownIndex = some i) : s.isLine = false := by
  unfold State.ownIndex at h
  split at h
  next hc =>
    simp only [Bool.and_eq_true, isCell_eq_not_isLine, Bool.not_eq_true'] at hc
    exact hc.1.1
  next => simp at h

/-- R96: readmission in HALTED: the entry LIVE, the timer stopped, SETTLING. -/
theorem readmit_halted {s : State} {i : Nat} {e : RosterEntry} (hi : s.ownIndex = some i)
    (ha : s.roster.authority = true) (he : s.roster.entries[i - 1]? = some e) (hc : e.cond = .resting)
    (hp : s.round.phase = .halted) :
    (s.ownerWrite .live FaultClass.none).roster.entries[i - 1]? =
      some ⟨.live, .owner, 0, versionSucc e.version, e.silentSince⟩ ∧
    (s.ownerWrite .live FaultClass.none).watch.rest = .stopped ∧
    (s.ownerWrite .live FaultClass.none).round.phase = .settling := by
  have howned : s.ownedIndex = some i := by rw [ownedIndex_of_authority ha, hi]
  have hnew : e.carries .live FaultClass.none = false := by simp [RosterEntry.carries, hc]
  rw [ownerWrite_eq howned he (by simp) hnew]
  obtain ⟨hentry, hrest⟩ := requestWrite_entry howned he hnew
  obtain ⟨q, hq, -, -, -, hround⟩ := requestWrite_round howned (entryAt_of_getElem? he ▸ hnew)
  refine ⟨hentry, hrest, ?_⟩
  rw [hround, entryChange_halted (by rw [hq, hp]), State.enterBase_round]
  rfl

/-- R95: the rest hold-off run out. -/
theorem exec_restHoldoffExpiry {t d : Time} {s : State} (hr : s.runs = true) (hd : s.watch.rest = .running d)
    (hdue : d ≤ max s.now t) : exec (.restHoldoffExpiry t) s = .next (s.advance t).restElapsed := by
  refine (State.runAt_runs hr).trans (congrArg _ ?_)
  simp [Watch.restOver, hd, hdue]

/-- Settles O47: the trigger not met, and met in HALTED. -/
theorem restHoldoffElapsesAndReadmits : Obligations.RestHoldoffElapsesAndReadmits := by
  intro t d s hr hd hdue
  rw [exec_restHoldoffExpiry hr hd hdue]
  refine ⟨fun hnot => ?_, fun i e hi _ he hc ha hp hband hlatch => ⟨_, rfl, ?_⟩⟩
  · have hmet : ((s.advance t).onWatch fun w => { w with rest := .elapsed }).readmissionMet = false := by
      rw [← Bool.not_eq_true, readmissionMet_iff]
      rintro ⟨hl, hp, hown, -, hband, hlatch⟩
      have hown' : s.ownCond .resting = true := hown
      rcases hnot with h | ⟨h1, h2⟩ | h | h | h
      · exact absurd (h.symm.trans hl) (by simp)
      · exact hp.elim h1 h2
      · exact absurd (h.symm.trans hown') (by simp)
      · exact h hband
      · exact h hlatch
    rw [State.restElapsed, State.testReadmission, hmet, State.when_false]
    rfl
  · have hmet : ((s.advance t).onWatch fun w => { w with rest := .elapsed }).readmissionMet = true := by
      refine readmissionMet_iff.mpr ⟨isLine_of_ownIndex hi, .inl hp, ?_, rfl, hband, hlatch⟩
      rw [ownCond_eq (s := (s.advance t).onWatch fun w => { w with rest := .elapsed }) hi he, hc]
      rfl
    obtain ⟨hentry, hrest, hphase⟩ := readmit_halted (s := (s.advance t).onWatch fun w => { w with rest := .elapsed })
      hi ha he hc hp
    rw [State.restElapsed, State.testReadmission, hmet, State.when_true]
    exact ⟨hrest, hentry, hphase⟩

/-! ## The feedback -/

/-- R136: a level already held is no change, and a line station has no bypass. -/
theorem feedbackChange_eq {closed : Bool} {s : State} (hl : s.isLine = false) (hf : s.bypass.feedback ≠ some closed) :
    s.feedbackChange closed = (if closed then State.feedbackClosed else State.feedbackOpen)
      (s.onBypass fun b => { b with feedback := some closed }) := by
  simp only [State.feedbackChange, isCell_eq_not_isLine, hl, Bool.not_false, Bool.not_true, Bool.false_or, beq_iff_eq, hf,
    if_false]
  cases closed <;> rfl

@[simp] theorem confirmOpen_bypass (s : State) : s.confirmOpen.bypass = s.bypass := by
  unfold State.confirmOpen State.when
  split <;> rfl

@[simp] theorem confirmClosed_bypass (s : State) : s.confirmClosed.bypass = s.bypass := by
  simp [State.confirmClosed]

/-- R33: a local alarm leaves the bypass, and of Cell Watch all but the arming check. -/
theorem localAlarm_watch (k : FaultClass) (s : State) :
    (s.localAlarm k).watch.latch = s.watch.latch ∧ (s.localAlarm k).watch.leading = s.watch.leading ∧
    (s.localAlarm k).watch.rest = s.watch.rest ∧ (s.localAlarm k).watch.bridgeFlt = s.watch.bridgeFlt ∧
    (s.localAlarm k).watch.cellFlt = s.watch.cellFlt := by
  cases hd : s.round.phase.dropsAlarm with
  | true => simp [State.localAlarm, hd]
  | false =>
    rw [(localAlarm_taken k hd).watch]
    split <;> exact ⟨rfl, rfl, rfl, rfl, rfl⟩

/-- R143: GATE_EN is low with a class latched. -/
theorem gateEn_of_latch {s : State} (h : s.watch.latch ≠ []) : s.gateEn = false := by
  have hempty : s.watch.latch.isEmpty = false := by simpa using h
  simp [State.gateEn, hempty]

theorem mem_insertRising_self (n : Nat) (l : List Nat) : n ∈ insertRising n l := by
  induction l with
  | nil => simp [insertRising]
  | cons m l ih =>
    unfold insertRising
    split
    · simp
    · split
      next h => simp [h]
      next => simp [ih]

/-- R125, R132: the latch and the leading class stand at the end of an arming check. -/
theorem endCheck_eq (w : Watch) : w.endCheck = { w with check := w.endCheck.check } := by
  unfold Watch.endCheck
  split <;> rfl

/-- R126: a contactor found closed: the class BYPASS is latched. -/
theorem reportClosedFault_holds (s : State) :
    s.reportClosedFault.bypass = s.bypass ∧ 4 ∈ s.reportClosedFault.watch.latch := by
  unfold State.reportClosedFault
  split
  · have h := handed_ownerWrite .bypassed FaultClass.bypass
      (s.onWatch fun w => (w.latchLeading FaultClass.bypass).endCheck)
    refine ⟨by simp, ?_⟩
    rw [(localAlarm_watch _ _).1, h.watch, State.onWatch_watch, endCheck_eq]
    exact mem_insertRising_self ..
  · refine ⟨rfl, ?_⟩
    rw [State.onWatch_watch, endCheck_eq]
    exact mem_insertRising_self ..

/-- R126: a close not confirmed: the class BYPASS leads the latch. -/
theorem reportStuckOpen_holds (s : State) :
    s.reportStuckOpen.bypass = s.bypass ∧ 4 ∈ s.reportStuckOpen.watch.latch ∧
    s.reportStuckOpen.watch.leading = FaultClass.bypass := by
  have h := handed_ownerWrite .faulted FaultClass.bypass
    (s.onWatch fun w => (w.latchLeading FaultClass.bypass).endCheck)
  have hwatch : ∀ r : State, r = (s.onWatch fun w => (w.latchLeading FaultClass.bypass).endCheck).ownerWrite .faulted
      FaultClass.bypass → r.bypass = s.bypass ∧ 4 ∈ r.watch.latch ∧ r.watch.leading = FaultClass.bypass := by
    rintro r rfl
    rw [h.bypass, h.watch, State.onWatch_watch, endCheck_eq]
    exact ⟨rfl, mem_insertRising_self .., rfl⟩
  unfold State.reportStuckOpen State.when
  dsimp only
  split
  · obtain ⟨hlatch, hleading, -⟩ := localAlarm_watch FaultClass.bypass
      ((s.onWatch fun w => (w.latchLeading FaultClass.bypass).endCheck).ownerWrite .faulted FaultClass.bypass)
    rw [hlatch, hleading]
    simpa using hwatch _ rfl
  · exact hwatch _ rfl

/-- R138: without a pending OPEN nothing follows a close confirmed. -/
theorem takePending_none {s : State} (h : s.bypass.pending = none) : s.takePending = s := by
  simp [State.takePending, h]

/-- Settles O48: the feedback open and closed in each state of the bypass. -/
theorem feedbackChangeMovesBypassState : Obligations.FeedbackChangeMovesBypassState := by
  intro t s hr hl
  refine ⟨fun hf => ?opens, fun hf => ?closes⟩
  case opens =>
    have heq : exec (.bypassFbChange t false) s = .next
        (State.feedbackOpen ((s.advance t).onBypass fun b => { b with feedback := some false })) :=
      (State.runAt_runs hr).trans (congrArg _ (feedbackChange_eq (s := s.advance t) hl hf))
    rw [heq]
    refine ⟨fun hs => ⟨_, rfl, ?_⟩, fun hs => ?_, fun hs => ?_⟩
    · simp [State.feedbackOpen, hs]
    · rcases hs with hs | hs <;> simp [State.feedbackOpen, hs, Bypass.closesNow, State.onBypass, State.contactTime, ms,
        State.params]
    · rcases hs with hs | hs | hs <;> simp [State.feedbackOpen, hs, State.onBypass]
  case closes =>
    have heq : exec (.bypassFbChange t true) s = .next
        (State.feedbackClosed ((s.advance t).onBypass fun b => { b with feedback := some true })) :=
      (State.runAt_runs hr).trans (congrArg _ (feedbackChange_eq (s := s.advance t) hl hf))
    rw [heq]
    refine ⟨fun hs => ?_, fun hs => ⟨_, rfl, ?_⟩, fun hs => ⟨_, rfl, ?_⟩⟩
    · rcases hs with hs | hs | hs <;> simp [State.feedbackClosed, hs, State.onBypass]
    · obtain ⟨hbypass, hlatch⟩ := reportClosedFault_holds
        (((s.advance t).onBypass fun b => { b with feedback := some true }).onBypass Bypass.closedNow)
      have hclosed : State.feedbackClosed ((s.advance t).onBypass fun b => { b with feedback := some true }) =
          (((s.advance t).onBypass fun b => { b with feedback := some true }).onBypass
            Bypass.closedNow).reportClosedFault := by
        simp [State.feedbackClosed, hs]
      rw [hclosed, hbypass]
      exact ⟨rfl, rfl, rfl, hlatch, gateEn_of_latch (List.ne_nil_of_mem hlatch)⟩
    · rcases hs with hs | ⟨hs, hpending⟩
      · simp [State.feedbackClosed, hs, Bypass.closedNow]
      · simp [State.feedbackClosed, hs, hpending, takePending_none, Bypass.closedNow]

/-! ## The CONTACT timer -/

/-- R140: the CONTACT timer run out. -/
theorem exec_contactExpiry {t d : Time} {s : State} (hr : s.runs = true) (hd : s.bypass.contact = some d)
    (hdue : d ≤ max s.now t) : exec (.contactExpiry t) s = .next (s.advance t).contactExpires := by
  refine (State.runAt_runs hr).trans (congrArg _ ?_)
  simp [hd, due, hdue]

/-- R141: confirm closed without a check that waits for it is an owner write at most. -/
theorem handed_confirmClosed {s : State} (h : s.watch.check ≠ .closeWait) : Handed s s.confirmClosed := by
  have hwrite : Handed s (s.when s.faultedWithLatch fun s => s.requestWrite .bypassed s.watch.leading) :=
    when_keeps (P := Handed s) (.refl s) fun _ => handed_requestWrite ..
  unfold State.confirmClosed
  rw [beq_eq_false_iff_ne.mpr h, State.when_false]
  exact hwrite

/-- R130, R132: STEP REFUSED ends the check. -/
theorem checkRefused_watch (reason : Byte) (s : State) :
    (s.checkRefused reason).watch = { s.watch with check := .done, sentRefused := true } := by
  simp [State.checkRefused]

/-- R130: STUCK_CLOSED in OPEN_WAIT: the check refused, BYPASS leading the latch, and the CLOSE. -/
theorem refuseStuckClosed_holds {s : State} (hl : s.isLine = false) (hs : s.bypass.state = .stuckClosed) :
    s.refuseStuckClosed.bypass = { s.bypass with state := .closed } ∧ 4 ∈ s.refuseStuckClosed.watch.latch ∧
    s.refuseStuckClosed.watch.leading = FaultClass.bypass ∧ s.refuseStuckClosed.watch.check = .done := by
  have hwrite := handed_ownerWrite .bypassed FaultClass.bypass
    ((s.checkRefused FaultClass.bypass.byte).onWatch (Watch.latchLeading FaultClass.bypass))
  have heq : s.refuseStuckClosed = State.closeCmd (State.ownerWrite .bypassed FaultClass.bypass
    ((s.checkRefused FaultClass.bypass.byte).onWatch (Watch.latchLeading FaultClass.bypass))) := rfl
  rw [heq]
  generalize State.ownerWrite .bypassed FaultClass.bypass
    ((s.checkRefused FaultClass.bypass.byte).onWatch (Watch.latchLeading FaultClass.bypass)) = q at *
  have hbypass : q.bypass = s.bypass := hwrite.bypass.trans (by simp)
  have hwatch := hwrite.watch
  rw [State.onWatch_watch, checkRefused_watch] at hwatch
  have hcell : q.isCell = true := by
    have hstore : q.store = s.store := hwrite.store.trans (by simp)
    rw [isCell_eq_not_isLine, isLine_congr hstore, hl, Bool.not_false]
  have hclose : q.closeCmd = (q.onBypass fun b => { b with state := .closed }).confirmClosed := by
    simp [State.closeCmd, hcell, hbypass, hs]
  have hconfirm := handed_confirmClosed (s := q.onBypass fun b => { b with state := .closed }) (by
    rw [State.onBypass_watch, hwatch]
    simp [Watch.latchLeading])
  rw [hclose, hconfirm.bypass, hconfirm.watch, State.onBypass_bypass, State.onBypass_watch, hbypass, hwatch]
  exact ⟨rfl, mem_insertRising_self .., rfl, rfl⟩

/-- Settles O49: the timer in OPENING, outside OPEN_WAIT and in it, and in CLOSING. -/
theorem contactExpiryLeavesStuckState : Obligations.ContactExpiryLeavesStuckState := by
  intro t d s hr hd hdue
  rw [exec_contactExpiry hr hd hdue]
  refine ⟨fun hs hcheck => ⟨_, rfl, ?_⟩, fun hs hcheck hl => ⟨_, rfl, ?_⟩, fun hs => ⟨_, rfl, ?_⟩⟩
  · have heq : (s.advance t).contactExpires = ((s.advance t).onBypass fun b =>
        { b with state := .stuckClosed, hold := false, contact := none }).reportClosedFault := by
      simp [State.contactExpires, hs, State.reportStuckClosed, hcheck]
    obtain ⟨hbypass, hlatch⟩ := reportClosedFault_holds ((s.advance t).onBypass fun b =>
        { b with state := .stuckClosed, hold := false, contact := none })
    rw [heq, hbypass]
    exact ⟨rfl, hlatch⟩
  · have heq : (s.advance t).contactExpires = ((s.advance t).onBypass fun b =>
        { b with state := .stuckClosed, hold := false, contact := none }).refuseStuckClosed := by
      simp [State.contactExpires, hs, State.reportStuckClosed, hcheck]
    obtain ⟨hbypass, hlatch, hleading, hdone⟩ := refuseStuckClosed_holds (s := (s.advance t).onBypass fun b =>
        { b with state := .stuckClosed, hold := false, contact := none }) hl rfl
    rw [heq, hbypass]
    exact ⟨rfl, hlatch, hleading, hdone, gateEn_of_latch (List.ne_nil_of_mem hlatch)⟩
  · have heq : (s.advance t).contactExpires = ((s.advance t).onBypass fun b =>
        { b with state := .stuckOpen, contact := none, pending := none }).reportStuckOpen := by
      simp [State.contactExpires, hs]
    obtain ⟨hbypass, hlatch, hleading⟩ := reportStuckOpen_holds ((s.advance t).onBypass fun b =>
        { b with state := .stuckOpen, contact := none, pending := none })
    rw [heq, hbypass]
    exact ⟨rfl, hlatch, hleading⟩

end Sys2Proof.Proofs

/-! # Hard faults

PROOFS about the fault inputs (R123, R125): the CLOSE, the owner write and the alarm of a hard fault. -/

namespace Sys2Proof.Proofs

open Sys2Proof.Machine Sys2Proof.Safety

/-! ## The CLOSE -/

/-- R137: the Bypass Controller after a CLOSE at a cell station, by its state before. -/
def closeFrom (s : State) : BypassState → Bypass
  | .closed => s.bypass
  | .stuckClosed => { s.bypass with state := .closed }
  | .opening => s.bypass.closesNow s.now s.contactTime
  | .opened => s.bypass.closesGated s.now
  | .closing => { s.bypass with pending := none }
  | .stuckOpen => s.bypass

def closeOf (s : State) : Bypass := closeFrom s s.bypass.state

theorem closeOf_eq {s : State} {b : BypassState} (h : s.bypass.state = b) : closeOf s = closeFrom s b :=
  congrArg (closeFrom s) h

/-- R137: a CLOSE, and confirm closed where the contactor stands closed. -/
theorem closeCmd_eq {s : State} (hl : s.isLine = false) :
    s.closeCmd = ({ s with bypass := closeOf s } : State).when s.bypass.confirmedClosed State.confirmClosed := by
  have hcell : s.isCell = true := by rw [isCell_eq_not_isLine, hl, Bool.not_false]
  unfold State.closeCmd closeOf closeFrom Bypass.confirmedClosed
  cases hs : s.bypass.state <;> simp only [hcell, Bool.not_true] <;> rfl

/-- R137: what a CLOSE leaves where no check waits for it. -/
theorem handed_closeCmd {s : State} (hl : s.isLine = false) (hc : s.watch.check ≠ .closeWait) :
    Handed { s with bypass := closeOf s } s.closeCmd := by
  rw [closeCmd_eq hl]
  exact when_keeps (P := Handed { s with bypass := closeOf s }) (.refl _) fun _ => handed_confirmClosed hc

/-- R137: a CLOSE confirms the contactor closed just where it stood confirmed. -/
theorem closeOf_confirmedClosed (s : State) : (closeOf s).confirmedClosed = s.bypass.confirmedClosed := by
  unfold closeOf closeFrom Bypass.confirmedClosed
  cases hs : s.bypass.state <;> simp only [hs] <;> rfl

/-! ## The own entry -/

/-- R8: the station owns the index `i` under active authority, and its entry is `e`. -/
def OwnEntry (s : State) (i : Nat) (e : RosterEntry) : Prop :=
  s.ownedIndex = some i ∧ s.roster.entries[i - 1]? = some e

theorem OwnEntry.cond {s : State} {i : Nat} {e : RosterEntry} (h : OwnEntry s i e) (c : Condition) :
    s.ownCond c = (e.cond == c) := ownCond_eq (ownIndex_of_owned h.1) h.2 c

/-- R9: the own entry after an owner write of a content. -/
theorem OwnEntry.request {s : State} {i : Nat} {e : RosterEntry} (c : Condition) (k : FaultClass) (h : OwnEntry s i e) :
    ∃ v, OwnEntry (s.requestWrite c k) i ⟨c, sourceOf c, k, v, e.silentSince⟩ ∧
      (e.carries c k = false → v = versionSucc e.version ∧
        (s.requestWrite c k).watch.rest = restAfter s.now (sec s.params.rest) c) := by
  obtain ⟨howned, he⟩ := h
  cases hcarry : e.carries c k with
  | true =>
    refine ⟨e.version, ?_, by simp⟩
    rw [requestWrite_carried howned (entryAt_of_getElem? he ▸ hcarry)]
    simp only [RosterEntry.carries, Bool.and_eq_true, beq_iff_eq] at hcarry
    obtain ⟨⟨h1, h2⟩, h3⟩ := hcarry
    refine ⟨howned, he.trans ?_⟩
    cases e
    simp_all
  | false =>
    obtain ⟨hentry, hrest⟩ := requestWrite_entry howned he hcarry
    exact ⟨_, ⟨(handed_requestWrite c k s).owned howned, hentry⟩, fun _ => ⟨rfl, hrest⟩⟩

/-- R125, R141: a FAULTED entry with a class latched, and BYPASSED at once after it where the contactor stands confirmed
closed. -/
theorem OwnEntry.faulted {s : State} {i : Nat} {e : RosterEntry} {k : FaultClass} (h : OwnEntry s i e)
    (hlatch : s.watch.latch ≠ []) (hlead : s.watch.leading = k) :
    ∃ v, OwnEntry (s.ownerWrite .faulted k) i
        ⟨if s.bypass.confirmedClosed = true then .bypassed else .faulted, .owner, k, v, e.silentSince⟩ ∧
      (e.cond ≠ .faulted → (s.ownerWrite .faulted k).watch.rest = .stopped ∧
        v = if s.bypass.confirmedClosed = true then versionSucc (versionSucc e.version) else versionSucc e.version) := by
  obtain ⟨v, hentry, hnew⟩ := h.request .faulted k
  have hhanded := handed_requestWrite .faulted k s
  have hnew' : e.cond ≠ .faulted → e.carries .faulted k = false := fun hne => by simp [RosterEntry.carries, hne]
  have hfault : (s.requestWrite .faulted k).faultedWithLatch = true := by
    have hl : (s.requestWrite .faulted k).watch.latch = s.watch.latch := by rw [hhanded.watch]
    simp [State.faultedWithLatch, hentry.cond, hl, hlatch]
  have hlead' : (s.requestWrite .faulted k).watch.leading = k := by rw [hhanded.watch]; exact hlead
  cases hb : s.bypass.confirmedClosed with
  | false =>
    have heq : s.ownerWrite .faulted k = s.requestWrite .faulted k := by
      simp [State.ownerWrite, State.followFaulted, hb]
    rw [heq]
    exact ⟨v, hentry, fun hne => ⟨(hnew (hnew' hne)).2, (hnew (hnew' hne)).1⟩⟩
  | true =>
    have heq : s.ownerWrite .faulted k = (s.requestWrite .faulted k).requestWrite .bypassed k := by
      simp [State.ownerWrite, State.followFaulted, hb, hfault, hlead']
    obtain ⟨v', hentry', hnext⟩ := hentry.request .bypassed k
    obtain ⟨hv', hrest⟩ := hnext (by simp [RosterEntry.carries])
    rw [heq]
    exact ⟨v', hentry', fun hne => ⟨hrest, by rw [hv', (hnew (hnew' hne)).1]; rfl⟩⟩

/-- R141: the own entry after a CLOSE: as it was, unless it was FAULTED. -/
theorem OwnEntry.close {s : State} {i : Nat} {e : RosterEntry} (hl : s.isLine = false) (hc : s.watch.check ≠ .closeWait)
    (h : OwnEntry s i e) :
    ∃ e', OwnEntry s.closeCmd i e' ∧ e'.silentSince = e.silentSince ∧ (e.cond ≠ .faulted → e' = e) := by
  obtain ⟨howned, he⟩ := h
  have hhanded : Handed { s with bypass := closeOf s } s.closeCmd := handed_closeCmd hl hc
  cases hf : s.bypass.confirmedClosed && s.faultedWithLatch with
  | false =>
    obtain ⟨hroster, -, -⟩ := closeCmd_keeps (.inr hf)
    exact ⟨e, ⟨Handed.owned (s := { s with bypass := closeOf s }) howned hhanded, hroster ▸ he⟩, rfl, fun _ => rfl⟩
  | true =>
    obtain ⟨hb, hfault⟩ := Bool.and_eq_true_iff.mp hf
    have hcond : e.cond = .faulted := by
      have h := OwnEntry.cond ⟨howned, he⟩ .faulted
      simp only [State.faultedWithLatch, Bool.and_eq_true, h, beq_iff_eq] at hfault
      exact hfault.1
    obtain ⟨v, hentry, -⟩ := OwnEntry.request (s := { s with bypass := closeOf s }) .bypassed s.watch.leading ⟨howned, he⟩
    have heq : s.closeCmd = ({ s with bypass := closeOf s } : State).requestWrite .bypassed s.watch.leading := by
      have hfault' : ({ s with bypass := closeOf s } : State).faultedWithLatch = true := hfault
      rw [closeCmd_eq hl, hb, State.when_true, State.confirmClosed, hfault', State.when_true]
      refine (congrArg (fun b => State.when b State.checkArmed _) ?_).trans (State.when_false ..)
      exact beq_eq_false_iff_ne.mpr hc
    exact ⟨⟨.bypassed, _, s.watch.leading, v, e.silentSince⟩, heq ▸ hentry, rfl, fun h => absurd hcond h⟩

/-! ## A hard fault -/

/-- The station's number follows from the store. -/
theorem number_congr {r s : State} (h : r.store = s.store) : r.number = s.number := by
  unfold State.number
  rw [h]

/-- R33: a local alarm leaves the entries, and at a cell station the scanner. -/
theorem localAlarm_keeps (k : FaultClass) (s : State) :
    (s.localAlarm k).roster.entries = s.roster.entries ∧ (s.isLine = false → (s.localAlarm k).scanner = s.scanner) := by
  cases hd : s.round.phase.dropsAlarm with
  | true => simp [State.localAlarm, hd]
  | false =>
    have h := localAlarm_taken k hd
    exact ⟨h.table.1, fun hl => (h.cell hl).1⟩

/-- R125: the state in which a hard fault closes the contactor. -/
def faultLatched (k : FaultClass) (s : State) : State := s.onWatch fun w => (w.latchLeading k).endCheck

/-- R125: the state in which a hard fault requests its alarm. -/
def faultWritten (k : FaultClass) (s : State) : State := ((faultLatched k s).closeCmd).ownerWrite .faulted k

theorem faultLatched_watch (k : FaultClass) (s : State) :
    (faultLatched k s).watch.latch = insertRising k.toNat s.watch.latch ∧ (faultLatched k s).watch.leading = k ∧
    (faultLatched k s).watch.rest = s.watch.rest ∧ (∀ i, (faultLatched k s).watch.level i = s.watch.level i) ∧
    (faultLatched k s).watch.check ≠ .closeWait := by
  have hcheck : (s.watch.latchLeading k).endCheck.check ≠ .closeWait := by
    unfold Watch.endCheck
    split
    next h => simp [h]
    next => simp
  have hwatch : (faultLatched k s).watch =
      { s.watch.latchLeading k with check := (s.watch.latchLeading k).endCheck.check } := endCheck_eq _
  rw [hwatch]
  exact ⟨rfl, rfl, rfl, fun i => by cases i <;> rfl, hcheck⟩

theorem hardFault_eq {k : FaultClass} {s : State} (h : s.watch.latch = []) :
    s.hardFault k = (faultWritten k s).localAlarm k := by
  simp [State.hardFault, h, faultWritten, faultLatched]

section
variable {k : FaultClass} {s : State} (hl : s.isLine = false)
include hl

/-- R125: what a hard fault hands on before its alarm. -/
theorem handed_faultWritten : Handed { faultLatched k s with bypass := closeOf s } (faultWritten k s) :=
  (handed_closeCmd (s := faultLatched k s) hl (faultLatched_watch k s).2.2.2.2).trans (handed_ownerWrite ..)

omit hl in
/-- R9: without own-entry authority a hard fault writes nothing. -/
theorem faultWritten_unowned (h : s.roster.authority = false) :
    (faultWritten k s).roster.entries = s.roster.entries ∧ (faultWritten k s).watch.rest = s.watch.rest := by
  have hunowned : (faultLatched k s).ownedIndex = none := ownedIndex_of_no_authority h
  obtain ⟨hroster, hrest, -⟩ := closeCmd_keeps (.inl hunowned)
  have hunowned' : (faultLatched k s).closeCmd.ownedIndex = none := ownedIndex_of_no_authority (by rw [hroster]; exact h)
  rw [faultWritten, ownerWrite_unowned hunowned']
  exact ⟨congrArg Roster.entries hroster, hrest.trans (faultLatched_watch k s).2.2.1⟩

/-- R125, R141: the own entry after a hard fault: FAULTED, or BYPASSED with the contactor confirmed closed. -/
theorem faultWritten_entry {i : Nat} {e : RosterEntry} (h : OwnEntry s i e) :
    ∃ v, OwnEntry (faultWritten k s) i
        ⟨if s.bypass.confirmedClosed = true then .bypassed else .faulted, .owner, k, v, e.silentSince⟩ ∧
      (e.cond ≠ .faulted → (faultWritten k s).watch.rest = .stopped ∧
        v = if s.bypass.confirmedClosed = true then versionSucc (versionSucc e.version) else versionSucc e.version) := by
  obtain ⟨hl1, hlead1, -, -, hcheck⟩ := faultLatched_watch k s
  have hclosed := handed_closeCmd (s := faultLatched k s) hl hcheck
  obtain ⟨e', hentry, hsilent, hkeeps⟩ := OwnEntry.close (s := faultLatched k s) hl hcheck h
  have hwatch := hclosed.watch
  obtain ⟨v, hwritten, hnew⟩ := hentry.faulted (k := k)
    (by rw [hwatch]; exact List.ne_nil_of_mem (hl1 ▸ mem_insertRising_self ..)) (by rw [hwatch]; exact hlead1)
  have hb : (faultLatched k s).closeCmd.bypass.confirmedClosed = s.bypass.confirmedClosed := by
    rw [hclosed.bypass]
    exact closeOf_confirmedClosed s
  rw [hb, hsilent] at hwritten
  refine ⟨v, hwritten, fun hne => ?_⟩
  obtain ⟨hrest, hv⟩ := hnew (hkeeps hne ▸ hne)
  rw [hb, hkeeps hne] at hv
  exact ⟨hrest, hv⟩

omit hl in
/-- R33: the alarm of a hard fault is dropped in JOINING, ISOLATED and LOCKOUT, and the round stays as it was. -/
theorem hardFault_dropped (hlatch : s.watch.latch = []) (h : s.round.phase.dropsAlarm = true) :
    (s.hardFault k).round = s.round := by
  have hquiet : s.hearsChangesOnly := by
    refine .inl ?_
    revert h
    cases s.round.phase <;> simp [Phase.dropsAlarm, Phase.clearsPlan]
  have hclose : (faultLatched k s).closeCmd.round = s.round := State.closeCmd_round_quiet (faultLatched k s) hquiet
  have hround : (faultWritten k s).round = s.round :=
    (State.ownerWrite_round_quiet _ _ _ (by unfold State.hearsChangesOnly; rw [hclose]; exact hquiet)).trans hclose
  rw [hardFault_eq hlatch, State.localAlarm, hround, h]
  exact hround

/-- R33, R35, R125: the alarm of a hard fault elsewhere. -/
theorem hardFault_alarms (hlatch : s.watch.latch = []) (hdrops : s.round.phase.dropsAlarm = false) (hr : Replans s) :
    (s.hardFault k).round.epoch = s.round.epoch + 1#16 ∧
    ((s.hardFault k).round.phase = .tripped ∨ (s.hardFault k).round.phase = .lockout) ∧
    (s.hardFault k).plan.inForce = none ∧
    (s.bus.duplicate = false → s.fitted = true → s.bus.queue.length ≤ 4 →
      ∃ g ∈ (s.hardFault k).bus.queue, ∃ p : Phase,
        g.body = .alarm (BitVec.ofNat 8 s.number) k.byte p.code ∧ PhaseMoves s.round.phase p) := by
  have h := handed_faultWritten (k := k) hl
  obtain ⟨hepoch, hmoves⟩ : (faultWritten k s).round.epoch = s.round.epoch ∧
      PhaseMoves s.round.phase (faultWritten k s).round.phase := by
    rcases h.round with ⟨hround, -⟩ | ⟨hepoch, -, hmoves⟩
    · rw [hround]
      exact ⟨rfl, .inl rfl⟩
    · exact ⟨hepoch, (hmoves hr).1⟩
  have hdrops' : (faultWritten k s).round.phase.dropsAlarm = false := by
    rcases hmoves with h | ⟨-, h⟩ | ⟨-, h⟩ <;> rw [h]
    · exact hdrops
    · rfl
    · rfl
  have htaken := localAlarm_taken k hdrops'
  rw [hardFault_eq hlatch]
  refine ⟨by rw [htaken.epoch, hepoch], htaken.phase, htaken.inForce, fun hd hf hq => ?_⟩
  obtain ⟨g, hg, hbody⟩ := htaken.frame (h.duplicate.trans hd) ((fitted_congr h.store).trans hf) (h.room (.inl hq))
  exact ⟨g, hg, _, hbody.trans (by rw [number_congr h.store]; rfl), hmoves⟩

/-- R123, R125: the latch, the scanner and the bypass after a hard fault. -/
theorem hardFault_latches (hlatch : s.watch.latch = []) :
    (s.hardFault k).watch.latch = [k.toNat] ∧ (s.hardFault k).watch.leading = k ∧
    (∀ i, (s.hardFault k).watch.level i = s.watch.level i) ∧ (s.hardFault k).scanner = s.scanner ∧
    (s.hardFault k).bypass = closeOf s := by
  have hwritten := handed_faultWritten (k := k) hl
  obtain ⟨hlatched, hlead, -, hlevel, -⟩ := faultLatched_watch k s
  obtain ⟨hlatch1, hlead1, -, hbridge, hcellflt⟩ := localAlarm_watch k (faultWritten k s)
  have hwatch : (faultWritten k s).watch = { (faultLatched k s).watch with rest := (faultWritten k s).watch.rest } :=
    hwritten.watch
  rw [hardFault_eq hlatch]
  refine ⟨?_, ?_, fun i => ?_, ?_, ?_⟩
  · rw [hlatch1, hwatch, hlatched, hlatch]
    rfl
  · rw [hlead1, hwatch, hlead]
  · rw [← hlevel]
    cases i
    · exact hbridge.trans (by rw [hwatch]; rfl)
    · exact hcellflt.trans (by rw [hwatch]; rfl)
  · rw [(localAlarm_keeps ..).2 ((isLine_congr hwritten.store).trans hl)]
    exact (hwritten.cell hl).1
  · exact (State.localAlarm_frame ..).2.2.2.2.1.trans hwritten.bypass

omit hl in
theorem hardFault_unowned (hlatch : s.watch.latch = []) (h : s.roster.authority = false) :
    (s.hardFault k).roster.entries = s.roster.entries ∧ (s.hardFault k).watch.rest = s.watch.rest := by
  obtain ⟨hentries, hrest⟩ := faultWritten_unowned (k := k) h
  obtain ⟨-, -, hrest1, -, -⟩ := localAlarm_watch k (faultWritten k s)
  rw [hardFault_eq hlatch, hrest1, (localAlarm_keeps ..).1]
  exact ⟨hentries, hrest⟩

theorem hardFault_entry (hlatch : s.watch.latch = []) {i : Nat} {e : RosterEntry} (h : OwnEntry s i e) :
    ∃ v, (s.hardFault k).roster.entries[i - 1]? =
        some ⟨if s.bypass.confirmedClosed = true then .bypassed else .faulted, .owner, k, v, e.silentSince⟩ ∧
      (e.cond ≠ .faulted → (s.hardFault k).watch.rest = .stopped ∧
        v = if s.bypass.confirmedClosed = true then versionSucc (versionSucc e.version) else versionSucc e.version) := by
  obtain ⟨v, ⟨-, hentry⟩, hnew⟩ := faultWritten_entry (k := k) hl h
  obtain ⟨-, -, hrest, -, -⟩ := localAlarm_watch k (faultWritten k s)
  rw [hardFault_eq hlatch, hrest, (localAlarm_keeps ..).1]
  exact ⟨v, hentry, hnew⟩

end

/-! ## The fault inputs -/

/-- R123: the station with a filtered level of a fault input and its EDGE trigger. -/
def levelTaken (i : FaultInput) (a : Bool) (s : State) : State :=
  (s.onWatch (Watch.setLevel i a)).onScanner (Scanner.trigger s.now .edge)

theorem setLevel_eq (i : FaultInput) (a : Bool) (w : Watch) :
    (w.setLevel i a).level i = some a ∧ (w.setLevel i a).latch = w.latch ∧ (w.setLevel i a).rest = w.rest := by
  cases i <;> exact ⟨rfl, rfl, rfl⟩

/-- R123: a change of a fault input. -/
theorem exec_faultInputChange {t : Time} {i : FaultInput} {a : Bool} {s : State} (hr : s.runs = true)
    (hl : s.isLine = false) (h : s.watch.level i ≠ some a) :
    exec (.faultInputChange t i a) s =
      .next ((levelTaken i a (s.advance t)).when a (State.hardFault (hardClassOf i))) := by
  refine (State.runAt_runs hr).trans (congrArg _ ?_)
  have hcell : (s.advance t).isCell = true := by
    rw [isCell_eq_not_isLine, isLine_congr (r := s.advance t) (s := s) rfl, hl, Bool.not_false]
  have hnew : ((s.advance t).watch.level i == some a) = false := beq_eq_false_iff_ne.mpr h
  rw [State.faultInput, hcell, hnew, Bool.not_true, Bool.or_false, if_neg Bool.false_ne_true]
  rfl

/-- Settles O45: an input released, asserted beside a latched class, held, and asserted with an empty latch. -/
theorem faultInputLatchesHardFault : Obligations.FaultInputLatchesHardFault := by
  intro t i s hr hl
  refine ⟨fun h => ?_, fun h hlatch => ?_, fun a h => ?_, fun h hlatch => ?asserted⟩
  · rw [exec_faultInputChange hr hl h, State.when_false]
    rfl
  · have hbeside : (s.watch.setLevel i true).latch.isEmpty = false := by simpa [setLevel_eq] using hlatch
    rw [exec_faultInputChange hr hl h, State.when_true]
    have heq : (levelTaken i true (s.advance t)).hardFault (hardClassOf i) =
        (levelTaken i true (s.advance t)).onWatch (Watch.latchAlso (hardClassOf i)) := by
      unfold State.hardFault
      rw [if_neg (by rw [show (levelTaken i true (s.advance t)).watch = s.watch.setLevel i true from rfl, hbeside]; simp)]
    rw [heq]
    cases i <;> rfl
  · refine (State.runAt_runs hr).trans (congrArg _ ?_)
    have hheld : ((s.advance t).watch.level i == some a) = true := beq_iff_eq.mpr h
    rw [State.faultInput, hheld, Bool.or_true, if_pos rfl]
  case asserted =>
    have hlatch0 : (levelTaken i true (s.advance t)).watch.latch = [] := (setLevel_eq i true s.watch).2.1.trans hlatch
    obtain ⟨hlatched, hlead, hlevel, hscanner, hbypass⟩ :=
      hardFault_latches (k := hardClassOf i) (s := levelTaken i true (s.advance t)) hl hlatch0
    refine ⟨_, (exec_faultInputChange hr hl h).trans (congrArg _ (State.when_true ..)), hlatched, hlead,
      (hlevel i).trans (setLevel_eq i true s.watch).1, gateEn_of_latch (by rw [hlatched]; simp), hscanner, ?_, ?_, ?_, ?_,
      ?_, ?_, ?_, ?_, ?_⟩
    · rw [hbypass]
      rintro (hs | hs) <;> exact closeOf_eq (s := s.advance t) hs
    · exact fun hs => hbypass.trans (closeOf_eq (s := s.advance t) hs)
    · exact fun hs => hbypass.trans (closeOf_eq (s := s.advance t) hs)
    · exact fun hs => hbypass.trans (closeOf_eq (s := s.advance t) hs)
    · exact fun hs => hbypass.trans (closeOf_eq (s := s.advance t) hs)
    · exact fun ha => ⟨(hardFault_unowned hlatch0 ha).1,
        (hardFault_unowned hlatch0 ha).2.trans (setLevel_eq i true s.watch).2.2⟩
    · exact fun j e ha hj he => hardFault_entry (s := levelTaken i true (s.advance t)) hl hlatch0
        ⟨(ownedIndex_of_authority ha).trans hj, he⟩
    · intro hp
      exact hardFault_dropped (s := levelTaken i true (s.advance t)) hlatch0
        (by show s.round.phase.dropsAlarm = true; rcases hp with hp | hp | hp <;> rw [hp] <;> rfl)
    · intro h1 h2 h3 hplan
      have hdrops : s.round.phase.dropsAlarm = false := by simp [Phase.dropsAlarm, h1, h2, h3]
      obtain ⟨hepoch, hphase, hforce, hframe⟩ :=
        hardFault_alarms (k := hardClassOf i) (s := levelTaken i true (s.advance t)) hl hlatch0 hdrops hplan
      refine ⟨hepoch, hphase, hforce, fun hd hf hq => ?_⟩
      obtain ⟨g, hg, p, hbody, hmoves⟩ := hframe hd hf hq
      exact ⟨g, hg, p, hbody, hmoves⟩

end Sys2Proof.Proofs

/-! # The arming check

PROOFS about the arming check of a cell (R129 to R132): the STEP frames, the writes and commands of the check in ARMING, its
start on a LINE frame and its evaluation at a pass end. -/

namespace Sys2Proof.Proofs

open Sys2Proof.Machine Sys2Proof.Safety

/-! ## STEP frames -/

theorem le_foldl_max {n : Nat} {l : List Nat} : ∀ {m : Nat}, n ≤ m ∨ n ∈ l → n ≤ l.foldl max m := by
  induction l with
  | nil => simp
  | cons k l ih =>
    intro m h
    refine ih ?_
    have hm := Nat.le_max_left m k
    have hk := Nat.le_max_right m k
    rcases h with h | h
    · exact .inl (Nat.le_trans h hm)
    · refine (List.mem_cons.mp h).imp_left fun h => ?_
      rw [h]
      exact hk

/-- R154: no frame that waits ranks above the worst rank. -/
theorem rank_le_worstRank {g : QFrame} {q : List QFrame} (hg : g ∈ q) (hw : g.inAttempt = false) :
    g.rank ≤ worstRank q :=
  le_foldl_max (.inr (List.mem_map_of_mem (List.mem_filter.mpr ⟨hg, by simp [hw]⟩)))

/-- R154: a STEP finds its place. -/
theorem RoomLeft.step {now : Time} {b : QBody} {q : List QFrame} (hb : b.kind = .step) (h : RoomLeft q) :
    ∃ g ∈ enqueueFrame now b q, g.body = b := by
  have hsingle : b.kind.single = false := by rw [hb]; rfl
  by_cases hlen : q.length < 6
  · rw [enqueueFrame_room (.inl hsingle) hlen]
    exact ⟨_, insertByRank_mem _ _, rfl⟩
  · obtain ⟨-, -, -, g, hg, hwaits, hreport⟩ := (h.resolve_left (by omega)).resolve_left fun h => hlen (by omega)
    have hrank : g.rank = 3 := by rcases hreport with h | h <;> rw [QFrame.rank, h] <;> rfl
    have hworst : (b.kind != .alarm && decide (worstRank q ≤ b.kind.rank)) = false := by
      have := rank_le_worstRank hg hwaits
      rw [hb, decide_eq_false (by rw [show Kind.step.rank = 1 from rfl]; omega), Bool.and_false]
    have hany : q.any (fun g => !g.inAttempt && g.body.kind != .alarm) = true := by
      refine List.any_eq_true.mpr ⟨g, hg, ?_⟩
      rcases hreport with h | h <;> simp [hwaits, h]
    rw [enqueueFrame, hsingle, Bool.false_and, if_neg Bool.false_ne_true,
      if_neg (show ¬q.length < Config.queueCapacity from hlen), hworst, if_neg Bool.false_ne_true, hany, if_pos rfl]
    exact ⟨_, insertByRank_mem _ _, rfl⟩

/-- R153, R154: a frame queued leaves the frames of its own rank or better in the queue. -/
theorem mem_enqueueFrame_of_rank {now : Time} {b : QBody} {g : QFrame} {q : List QFrame} (hb : b.kind ≠ .alarm)
    (hg : g ∈ q) (hk : b.kind.single = true → g.body.kind ≠ b.kind) (hr : g.rank ≤ b.kind.rank) :
    g ∈ enqueueFrame now b q := by
  unfold enqueueFrame
  split
  next hheld => exact takeUp_other (hk (Bool.and_eq_true_iff.mp hheld).1) ▸ List.mem_map_of_mem hg
  next =>
    split
    · exact mem_insertByRank_of_mem hg
    · split
      · exact hg
      next hworst =>
        have hlt : b.kind.rank < worstRank q := by simpa [hb] using hworst
        have hkeep : g ∈ dropNewest (worstRank q) q := by
          refine List.mem_reverse.mpr ((List.mem_eraseP_of_neg ?_).mpr (List.mem_reverse.mpr hg))
          simp [Nat.ne_of_lt (Nat.lt_of_le_of_lt hr hlt)]
        split
        · exact mem_insertByRank_of_mem hkeep
        · exact hg

/-! ## Writes and commands in ARMING -/

/-- R38, R129: what a write or a command of the arming check leaves in ARMING: the round but for the deferred change, and
the STEP frames in the queue. -/
structure ChecksOn (s r : State) : Prop where
  round : r.round = { s.round with deferred := r.round.deferred }
  plan : r.plan.inForce = s.plan.inForce
  idle : s.plan.build = .none → r.plan = s.plan
  steps : ∀ g ∈ s.bus.queue, g.body.kind = .step → g ∈ r.bus.queue

/-- A change of Cell Watch, of the bypass or of the scanner leaves the round and the queue. -/
theorem checksOn_watch {s r : State} (h1 : r.round = s.round) (h2 : r.plan = s.plan) (h3 : r.bus = s.bus) :
    ChecksOn s r :=
  ⟨by rw [h1], by rw [h2], fun _ => h2, fun _ hg _ => h3 ▸ hg⟩

theorem ChecksOn.refl (s : State) : ChecksOn s s := checksOn_watch rfl rfl rfl

theorem ChecksOn.trans {s r q : State} (h1 : ChecksOn s r) (h2 : ChecksOn r q) : ChecksOn s q where
  round := by rw [h2.round, h1.round]
  plan := h2.plan.trans h1.plan
  idle := fun hb => by
    have h := h1.idle hb
    exact (h2.idle (by rw [h]; exact hb)).trans h
  steps := fun g hg hk => h2.steps g (h1.steps g hg hk) hk

/-- A frame of a kind other than ALARM queued leaves the STEP frames. -/
theorem checksOn_enqueue {b : QBody} {s : State} (hb : b.kind ≠ .alarm) : ChecksOn s (s.enqueue b) := by
  refine ⟨by simp, by simp, fun _ => by simp, fun g hg hk => ?_⟩
  unfold State.enqueue
  split
  · exact hg
  · refine mem_enqueueFrame_of_rank hb hg (fun hs hkind => ?_) ?_
    · rw [← hkind, hk] at hs
      exact absurd hs (by simp [Kind.single])
    · rw [QFrame.rank, hk]
      cases h : b.kind <;> simp_all [Kind.rank]

/-- R9, R38: an owner write in ARMING. -/
theorem checksOn_requestWrite {c : Condition} {k : FaultClass} {s : State} (hp : s.round.phase = .arming) :
    ChecksOn s (s.requestWrite c k) := by
  have hchange : ∀ r : State, r.round.phase = .arming → ChecksOn r (r.entryChange .owner) := by
    intro r hr
    have heq : r.entryChange .owner = r.onRound fun q => { q with deferred := true } := by simp [State.entryChange, hr]
    rw [heq]
    exact ⟨rfl, rfl, fun _ => rfl, fun _ hg _ => hg⟩
  have hsummary : ∀ r : State, ChecksOn r r.queueSummary := by
    intro r
    unfold State.queueSummary
    split
    · exact .refl r
    · exact (checksOn_enqueue (s := r) (b := .summary) (by simp [QBody.kind])).trans ⟨rfl, rfl, fun _ => rfl, fun _ hg _ => hg⟩
  unfold State.requestWrite
  split
  next i _ =>
    split
    · exact .refl s
    · have hplan : ChecksOn s
          (((s.writeEntry i ((s.entryAt i).owned c k)).timeRest c).planEntryChange i) :=
        ⟨by simp, by rw [planEntryChange_inForce]; rfl, fun hb => by rw [State.planEntryChange_of_none _ _ (by exact hb)]; rfl,
          fun g hg _ => by simpa using hg⟩
      exact (hplan.trans (hchange _ (by simpa using hp))).trans (hsummary _)
  next => exact .refl s

theorem checksOn_ownerWrite {c : Condition} {k : FaultClass} {s : State} (hp : s.round.phase = .arming) :
    ChecksOn s (s.ownerWrite c k) := by
  have h := checksOn_requestWrite (c := c) (k := k) hp
  refine h.trans (when_keeps (P := ChecksOn (s.requestWrite c k)) (.refl _) fun _ => checksOn_requestWrite ?_)
  rw [h.round]
  exact hp

theorem checksOn_enqueueStep (code reason : Byte) (s : State) : ChecksOn s (s.enqueueStep code reason) := by
  unfold State.enqueueStep
  split
  · exact checksOn_enqueue (by simp [QBody.kind])
  · exact .refl s

theorem checksOn_checkArmed (s : State) : ChecksOn s s.checkArmed :=
  .trans (when_keeps (P := ChecksOn s) (.refl s) fun _ => checksOn_enqueueStep ..) ⟨rfl, rfl, fun _ => rfl, fun _ hg _ => hg⟩

theorem checksOn_checkRefused (reason : Byte) (s : State) : ChecksOn s (s.checkRefused reason) :=
  .trans (when_keeps (P := ChecksOn s) (.refl s) fun _ => checksOn_enqueueStep ..) ⟨rfl, rfl, fun _ => rfl, fun _ hg _ => hg⟩

theorem checksOn_confirmClosed {s : State} (hp : s.round.phase = .arming) : ChecksOn s s.confirmClosed := by
  have h : ChecksOn s (s.when s.faultedWithLatch fun s => s.requestWrite .bypassed s.watch.leading) :=
    when_keeps (P := ChecksOn s) (.refl s) fun _ => checksOn_requestWrite hp
  exact h.trans (when_keeps (P := ChecksOn _) (.refl _) fun _ => checksOn_checkArmed _)

/-- R137: a CLOSE in ARMING. -/
theorem checksOn_closeCmd {s : State} (hp : s.round.phase = .arming) : ChecksOn s s.closeCmd := by
  have hbypass : ∀ f, ChecksOn s (s.onBypass f) := fun _ => checksOn_watch rfl rfl rfl
  unfold State.closeCmd
  split
  · exact .refl s
  · split
    · exact checksOn_confirmClosed hp
    · exact (hbypass _).trans (checksOn_confirmClosed hp)
    · exact hbypass _
    · exact hbypass _
    · exact hbypass _
    · exact .refl s

/-- R137: what a CLOSE leaves beside the bypass, where no check waits for it. -/
theorem handed_closeCmd_bypass {s : State} (hc : s.watch.check ≠ .closeWait) :
    Handed { s with bypass := s.closeCmd.bypass } s.closeCmd := by
  cases hl : s.isLine with
  | true =>
    have heq : s.closeCmd = s := by simp [State.closeCmd, isCell_eq_not_isLine, hl]
    rw [heq]
    exact .refl s
  | false =>
    have h := handed_closeCmd hl hc
    rw [h.bypass]
    exact h

/-! ## The answers of a check -/

section
variable {s : State} {p : Plan} (hp : s.plan.inForce = some p) (hb : s.barred = false) (hq : RoomLeft s.bus.queue)
include hp hb hq

/-- R133: a STEP queued. -/
theorem mem_enqueueStep (code reason : Byte) :
    ∃ g ∈ (s.enqueueStep code reason).bus.queue, g.body = .step code p.revision (p.digest?.getD 0) reason := by
  rw [State.enqueueStep, hp]
  simp only [State.enqueue, hb, Bool.false_eq_true, if_false, State.onBus_bus]
  exact hq.step rfl

theorem mem_checkArmed (h : s.watch.sentArmed = false) :
    ∃ g ∈ s.checkArmed.bus.queue, g.body = .step 1 p.revision (p.digest?.getD 0) 0 := by
  have heq : s.checkArmed.bus = (s.enqueueStep stepArmed 0).bus := by simp [State.checkArmed, h]
  rw [heq]
  exact mem_enqueueStep hp hb hq ..

theorem mem_checkRefused {reason : Byte} (h : s.watch.sentRefused = false) :
    ∃ g ∈ (s.checkRefused reason).bus.queue, g.body = .step 2 p.revision (p.digest?.getD 0) reason := by
  have heq : (s.checkRefused reason).bus = (s.enqueueStep stepRefused reason).bus := by simp [State.checkRefused, h]
  rw [heq]
  exact mem_enqueueStep hp hb hq ..

end

/-- R130: STEP ARMED ends the check. -/
theorem checkArmed_watch (s : State) : s.checkArmed.watch = { s.watch with check := .done, sentArmed := true } := by
  simp [State.checkArmed]

/-- R130: the arming bands. -/
theorem armingBand_iff {q : Params} {v : PassValues} :
    armingBand q v = true ↔
      q.armLow ≤ v.ch0 ∧ v.ch0 ≤ q.armHigh ∧ q.supplyLow < v.ch1 ∧ q.inputLow < v.ch3 ∧ v.ch2 < q.heatHigh := by
  simp [armingBand, and_assoc]

/-- R130: values in the arming bands with an empty latch. -/
theorem evaluateCheck_armed {s : State} {v : PassValues} (hb : armingBand s.params v = true) (hl : s.watch.latch = []) :
    s.evaluateCheck v = s.checkArmed := by
  simp [State.evaluateCheck, hb, hl]

/-- R130: any other evaluation refuses the check. -/
theorem evaluateCheck_refused {s : State} {v : PassValues} (h : ¬(armingBand s.params v = true ∧ s.watch.latch = [])) :
    s.evaluateCheck v = ((s.checkRefused FaultClass.refused.byte).ownerWrite .resting FaultClass.refused).closeCmd := by
  have hnot : (armingBand s.params v && s.watch.latch.isEmpty) = false := by
    rw [← Bool.not_eq_true]
    simpa using h
  simp [State.evaluateCheck, hnot]

/-- R130: what a check refused in its bands leaves. -/
theorem evaluateCheck_refused_holds {s : State} {v : PassValues} {p : Plan} (hphase : s.round.phase = .arming)
    (hplan : s.plan.inForce = some p) (hb : s.barred = false) (hq : RoomLeft s.bus.queue)
    (h : ¬(armingBand s.params v = true ∧ s.watch.latch = [])) (hsent : s.watch.sentRefused = false) :
    (s.evaluateCheck v).watch.check = .done ∧
    (∃ g ∈ (s.evaluateCheck v).bus.queue, g.body = .step 2 p.revision (p.digest?.getD 0) 13) ∧
    ∀ i e, OwnEntry s i e → e.cond = .live →
      (s.evaluateCheck v).roster.entries[i - 1]? = some ⟨.resting, .owner, 13, versionSucc e.version, e.silentSince⟩ := by
  have hphase' : (s.checkRefused FaultClass.refused.byte).round.phase = .arming := by simpa using hphase
  have hwrite := handed_ownerWrite .resting FaultClass.refused (s.checkRefused FaultClass.refused.byte)
  have hwrote := checksOn_ownerWrite (c := .resting) (k := FaultClass.refused) hphase'
  have hdone : ((s.checkRefused FaultClass.refused.byte).ownerWrite .resting FaultClass.refused).watch.check = .done := by
    rw [hwrite.watch, checkRefused_watch]
  have hclose := handed_closeCmd_bypass (s := (s.checkRefused FaultClass.refused.byte).ownerWrite .resting
    FaultClass.refused) (by rw [hdone]; simp)
  have hclosed := checksOn_closeCmd (s := (s.checkRefused FaultClass.refused.byte).ownerWrite .resting
    FaultClass.refused) (by rw [hwrote.round]; exact hphase')
  rw [evaluateCheck_refused h]
  refine ⟨by rw [hclose.watch]; exact hdone, ?_, fun i e hown hlive => ?_⟩
  · obtain ⟨g, hg, hbody⟩ := mem_checkRefused (reason := FaultClass.refused.byte) hplan hb hq hsent
    have hkind : g.body.kind = .step := by rw [hbody]; rfl
    exact ⟨g, hclosed.steps g (hwrote.steps g hg hkind) hkind, hbody⟩
  · have hown' : OwnEntry (s.checkRefused FaultClass.refused.byte) i e :=
      ⟨(ownedIndex_congr (by simp) (by simp)).trans hown.1, by simpa using hown.2⟩
    have hnew : e.carries .resting FaultClass.refused = false := by simp [RosterEntry.carries, hlive]
    have heq := ownerWrite_eq hown'.1 hown'.2 (by simp) hnew
    obtain ⟨hentry, -⟩ := requestWrite_entry hown'.1 hown'.2 hnew
    have hidx := ownIndex_of_owned (Handed.owned hown'.1 hwrite)
    rw [heq] at hidx ⊢
    rw [(closeCmd_keeps (.inr (by rw [faultedWithLatch_of_cond hidx hentry (by simp [RosterEntry.owned]), Bool.and_false]))).1,
      hentry]
    rfl

/-! ## The end of a pass -/

/-- R120, R124: the pass taken by Cell Watch at the end of its last conversion. -/
def passTaken (a : Activity) (v : Nat) (s : State) : State :=
  ((s.onScanner (converted s.now a v)).onScanner Scanner.takeAll).onWatch fun w => { w with passSeen := true }

/-- R124: the limit counts and the in-band count after a pass of the values `x`. -/
def passCounted (p : Params) (x : PassValues) (w : Watch) : Watch :=
  { w.counted p x with inBand := if inBandPass p x then min (w.inBand + 1) p.persist else 0 }

/-- R118, R124: the pass end of a cell station with a valid working copy. -/
theorem exec_passEnd {t : Time} {v : Nat} {k : Bool} {a : Activity} {s : State} (hr : s.runs = true)
    (hl : s.isLine = false) (hv : s.store.valid = true) (ha : s.scanner.activity = some a) (he : a.convEnd ≤ max s.now t)
    (hlast : s.scanner.last ≤ a.channel) :
    exec (.conversionComplete t v k) s = .next
      ((passTaken a v (s.advance t)).classifyPass a.passStart (s.scanner.storeSlot a.channel (min v 1000)).values) := by
  rw [exec_conversionComplete hr ha he]
  refine congrArg _ ?_
  have hvalues : (converted (max s.now t) a v s.scanner).values =
      (s.scanner.storeSlot a.channel (min v 1000)).values := by
    simp only [converted, Scanner.values, Scanner.slot, moveOn_slots]
    rfl
  have hl' : (s.advance t).isLine = false := hl
  have hlast' : decide ((s.advance t).scanner.last ≤ a.channel) = true := decide_eq_true hlast
  rw [State.convert, hl', hlast', if_neg Bool.false_ne_true, State.when_true, State.passEnd]
  rw [← hvalues]
  exact (congrArg (fun b => State.when b (State.classifyPass a.passStart (converted (max s.now t) a v s.scanner).values)
    (passTaken a v (s.advance t))) hv).trans (State.when_true ..)

/-- R124, R127: a pass at which no limit comes to its assertion. -/
theorem handleAssertions_none {w : Watch} {x : PassValues} {s : State}
    (htrip : assertsNow s.params.persist (condTripHigh s.params x) w.tripHigh = false)
    (hsoft : softAssertion s.params x w = none) : s.handleAssertions w x = s := by
  simp [State.handleAssertions, htrip, hsoft]

theorem classifyPass_none {start : Time} {x : PassValues} {s : State}
    (htrip : assertsNow s.params.persist (condTripHigh s.params x) s.watch.tripHigh = false)
    (hsoft : softAssertion s.params x s.watch = none) :
    s.classifyPass start x = ((s.onWatch (passCounted s.params x)).testReadmission).when
      ((s.onWatch (passCounted s.params x)).testReadmission.watch.servedBy start) (State.evaluateCheck x) := by
  rw [State.classifyPass, handleAssertions_none (s := s.onWatch (Watch.counted s.params x)) htrip hsoft]
  rfl

/-- R130: a pass serves the check that waits for its values when it started at or after the request. -/
theorem servedBy_iff {start q : Time} {w : Watch} (hw : w.check = .senseWait) (hq : w.armRequest = some q) :
    w.servedBy start = decide (q ≤ start) := by
  simp [Watch.servedBy, hw, hq]

/-- R130: a sense step served by the pass, or left waiting. -/
theorem exec_passEnd_senseWait {t q : Time} {v : Nat} {k : Bool} {a : Activity} {s : State} {x : PassValues}
    (hr : s.runs = true) (hl : s.isLine = false) (hv : s.store.valid = true) (ha : s.scanner.activity = some a)
    (he : a.convEnd ≤ max s.now t) (hlast : s.scanner.last ≤ a.channel)
    (hx : x = (s.scanner.storeSlot a.channel (min v 1000)).values) (hp : s.round.phase = .arming)
    (hw : s.watch.check = .senseWait) (hq : s.watch.armRequest = some q)
    (htrip : assertsNow s.params.persist (decide (s.params.tripHigh < x.ch0)) s.watch.tripHigh = false)
    (hsoft : softAssertion s.params x s.watch = none) :
    ∃ r, r = { s.advance t with scanner := r.scanner, watch := r.watch } ∧ r.watch.latch = s.watch.latch ∧
      r.watch.check = .senseWait ∧ r.watch.sentArmed = s.watch.sentArmed ∧
      r.watch.sentRefused = s.watch.sentRefused ∧
      (q ≤ a.passStart → exec (.conversionComplete t v k) s = .next (r.evaluateCheck x)) ∧
      (a.passStart < q → exec (.conversionComplete t v k) s = .next r) := by
  have hmet : ((passTaken a v (s.advance t)).onWatch (passCounted s.params x)).readmissionMet = false := by
    rw [← Bool.not_eq_true, readmissionMet_iff]
    rintro ⟨-, hphase, -⟩
    have hphase' : (Phase.arming = .halted ∨ Phase.arming = .running) := hp ▸ hphase
    simp at hphase'
  have hserved : ∀ start, ((passTaken a v (s.advance t)).onWatch (passCounted s.params x)).watch.servedBy start =
      decide (q ≤ start) := fun start => servedBy_iff hw hq
  have hexec : exec (.conversionComplete t v k) s = .next
      (((passTaken a v (s.advance t)).onWatch (passCounted s.params x)).when (decide (q ≤ a.passStart))
        (State.evaluateCheck x)) := by
    rw [exec_passEnd hr hl hv ha he hlast, ← hx,
      classifyPass_none (s := passTaken a v (s.advance t)) htrip hsoft]
    refine congrArg _ ?_
    have hreadmit : ((passTaken a v (s.advance t)).onWatch (passCounted s.params x)).testReadmission =
        (passTaken a v (s.advance t)).onWatch (passCounted s.params x) := by
      rw [State.testReadmission, hmet, State.when_false]
    exact (congrArg (fun r : State => r.when (r.watch.servedBy a.passStart) (State.evaluateCheck x)) hreadmit).trans
      (congrArg (fun b => State.when b (State.evaluateCheck x) _) (hserved _))
  refine ⟨(passTaken a v (s.advance t)).onWatch (passCounted s.params x), rfl, rfl, hw, rfl, rfl, fun h => ?_,
    fun h => ?_⟩
  · rw [hexec, decide_eq_true h, State.when_true]
  · rw [hexec, decide_eq_false (Nat.not_le.mpr h), State.when_false]

end Sys2Proof.Proofs

/-! # The start of the arming check

PROOFS about a LINE frame heard in HALTED (R36, R37, R41) and the start of the arming check of a cell (R129 to R131). -/

namespace Sys2Proof.Proofs

open Sys2Proof.Machine Sys2Proof.Safety

/-! ## A frame heard -/

/-- R157: a frame heard keeps the room for a frame of the station's own. -/
theorem roomLeft_hear {f : Frame} {s : State} (h : RoomLeft s.bus.queue) : RoomLeft (s.hear f).bus.queue :=
  when_keeps (P := fun r : State => RoomLeft r.bus.queue) h fun _ => roomLeft_enqueue (.inl rfl) h

/-- R29, R36: a LINE frame of station 0 and the station's epoch, heard in the drive. -/
theorem exec_lineReceived {t : Time} {x : Transmission} {f : Frame} {l : LinePayload} {s : State} (hr : s.runs = true)
    (hx : examineKind .line x = some f) (hf : f.payload = .line l) (h0 : f.station = 0) (hn : s.number ≠ 0)
    (he : f.epoch = s.round.epoch) (hj : s.round.phase ≠ .joining) (hi : s.round.phase ≠ .isolated) :
    exec (.lineReceived t x) s = .next
      ((((s.advance t).hear f).onRound fun r => { r with firstTaken := true }).lineTaken f.epoch l) := by
  refine (State.runAt_runs hr).trans (congrArg _ ?_)
  have hother : f.station.toNat ≠ (s.advance t).number := by
    rw [h0, number_congr (r := s.advance t) (s := s) rfl]
    exact hn.symm
  have hnumber : (f.number == 0) = true := by rw [Frame.number, h0]; rfl
  rw [State.receive_valid hx hother, State.takeLine, hf, hnumber]
  refine (State.when_true ..).trans ?_
  rw [State.takeFrame_not_newer (s := s.advance t) hj hi (by rw [he]; exact epochNewer_self _)]

/-! ## ARMING entered from HALTED -/

/-- R41, R51: ARMING stands while no armed set is complete, nothing is refused and no catch has expired. -/
theorem settleEntry_arming {n : Nat} {s : State} (hp : s.round.phase = .arming) (hc : s.heldOutcome ≠ some .expired)
    (hr : s.round.refusal = .none) (ha : 0 ∉ s.round.armed) : s.settleEntry (n + 1) = s := by
  have hincomplete : s.armedComplete = false := by
    unfold State.armedComplete Plan.armedNeeded
    split
    next p _ =>
      cases p.body <;> simp [ha]
    next => rfl
  have hnone : s.entryTransition = none := by
    simp [State.entryTransition, hp, hc, hr, hincomplete]
  rw [State.settleEntry, hnone]
  simp [State.cellRefusal, hr, State.when]

theorem checksOn_openCmd (p : Purpose) (s : State) : ChecksOn s (s.openCmd p) :=
  checksOn_watch (by simp) (by simp) (by simp)

/-- R129: the arming check's start leaves the round but for a deferred change. -/
theorem checksOn_startCheck {s : State} (hp : s.round.phase = .arming) : ChecksOn s s.startCheck := by
  have hbegin : ∀ {go : State → State} {r : State}, r.round.phase = .arming →
      (∀ q : State, q.round.phase = .arming → ChecksOn q (go q)) → ChecksOn r (r.beginCheck go) := by
    intro go r hr hgo
    have hrefuse : ∀ k, ChecksOn r (r.checkRefused k).closeCmd := fun k =>
      (checksOn_checkRefused k r).trans (checksOn_closeCmd (by simpa using hr))
    unfold State.beginCheck
    repeat' split
    · exact hgo r hr
    · exact hrefuse _
    · exact hrefuse _
    · exact .refl r
  have hactive : ∀ q : State, q.round.phase = .arming → ChecksOn q q.beginActive :=
    fun q _ => checksOn_watch (by simp) (by simp) (by simp)
  have hspare : ∀ q : State, q.round.phase = .arming → ChecksOn q q.beginSpare := by
    intro q hq
    unfold State.beginSpare
    split
    · exact checksOn_checkArmed q
    · exact (checksOn_watch (s := q) (r := q.onWatch fun w => { w with check := .closeWait }) rfl rfl rfl).trans
        (checksOn_closeCmd hq)
  have hidle : ∀ f, ChecksOn s (s.onWatch f) := fun f => checksOn_watch rfl rfl rfl
  unfold State.startCheck
  dsimp only
  split
  · exact (hidle _).trans (hbegin (by simpa using hp) hactive)
  · exact (hidle _).trans (hbegin (by simpa using hp) hspare)
  · exact hidle _
  · exact hidle _

/-- R129: the station at which the arming check starts: `s` at the time `now`, ARMING entered with a plan in force. -/
structure CheckStarts (now : Time) (s q : State) : Prop where
  time : q.now = now
  store : q.store = s.store
  bypass : q.bypass = s.bypass
  watch : q.watch = { s.watch with check := .idle, sentArmed := false, sentRefused := false }
  scanner : q.scanner = s.scanner
  entries : q.roster.entries = s.roster.entries
  inForce : q.plan.inForce = s.plan.inForce
  phase : q.round.phase = .arming
  bar : s.barred = false → q.barred = false
  room : RoomLeft s.bus.queue → RoomLeft q.bus.queue

/-- R37, R41: a fresh run request heard in HALTED with a plan in force: ARMING, and the arming check. -/
theorem lineTaken_arms {l : LinePayload} {p : Plan} {s : State} (hl : s.isLine = false) (hp : s.round.phase = .halted)
    (hplan : s.plan.inForce = some p) (hcount : ∀ k, s.round.facts.faultCount = some k → k = l.faultCount)
    (hrun : l.runReq = true) (hprev : s.round.facts.prevRun = false) (hd : s.round.deferred = false)
    (hr : s.round.refusal = .none) (ha : 0 ∉ s.round.armed)
    (hc : ∀ h, catchHeldAfter s.round.epoch l s.round.facts.catchHeld = some h → h.epoch = s.round.epoch →
      h.outcome ≠ .expired) :
    s.lineTaken s.round.epoch l =
      (State.enterBase .arming (s.onRound (Round.facing s.round.epoch l))).startCheck ∧
    (s.lineTaken s.round.epoch l).round.phase = .arming := by
  have hfresh : s.round.facts.freshRun l = true := by simp [LineFacts.freshRun, hrun, hprev]
  have hsame : s.round.facts.countChanged l = false := by
    unfold LineFacts.countChanged
    split
    next k h => simp [hcount k h]
    next => rfl
  have hphase : (s.onRound (Round.facing s.round.epoch l)).round.phase = .halted := hp
  have hdrives : (s.round.epoch == (s.onRound (Round.facing s.round.epoch l)).round.epoch &&
      (s.onRound (Round.facing s.round.epoch l)).round.phase.drives) = false := by
    rw [hphase, show Phase.halted.drives = false from rfl, Bool.and_false]
  have hdemand : (s.onRound (Round.facing s.round.epoch l)).round.runDemand = true := by
    simp [Round.facing, hrun, hfresh]
  have htest : s.lineTaken s.round.epoch l = (s.onRound (Round.facing s.round.epoch l)).testTransition := by
    unfold State.lineTaken
    dsimp only
    rw [hsame, Bool.false_and, State.when_false, State.takeSwitch, hdrives, State.when_false, State.actOnFacts, hphase,
      hfresh]
    exact State.when_true ..
  have hnext : (s.onRound (Round.facing s.round.epoch l)).entryTransition =
      some (s.onRound (Round.facing s.round.epoch l), .arming) := by
    unfold State.entryTransition
    rw [hphase]
    simp [Round.facing, hd, hrun, hfresh, hplan]
  have henter : (s.onRound (Round.facing s.round.epoch l)).enterPhase .arming =
      (State.enterBase .arming (s.onRound (Round.facing s.round.epoch l))).startCheck := by
    have hline : (State.enterBase .arming (s.onRound (Round.facing s.round.epoch l))).isLine = false :=
      (isLine_congr (by simp)).trans hl
    rw [State.enterPhase, State.commandsOnEntry, hline]
    rfl
  have hround := State.enterBase_round .arming (s.onRound (Round.facing s.round.epoch l))
  have hcheck := (checksOn_startCheck (s := State.enterBase .arming (s.onRound (Round.facing s.round.epoch l)))
    (by rw [hround]; rfl)).round
  rw [hround] at hcheck
  have hphase' : (State.enterBase .arming (s.onRound (Round.facing s.round.epoch l))).startCheck.round.phase = .arming := by
    rw [hcheck]
    rfl
  have heq : s.lineTaken s.round.epoch l =
      (State.enterBase .arming (s.onRound (Round.facing s.round.epoch l))).startCheck := by
    rw [htest, State.testTransition, show entryFuel = 6 + 1 + 1 from rfl, State.settleEntry, hnext]
    refine (congrArg (State.settleEntry _) henter).trans (settleEntry_arming hphase' ?_ ?_ ?_)
    · unfold State.heldOutcome
      rw [hcheck]
      show (match catchHeldAfter s.round.epoch l s.round.facts.catchHeld with
        | some c => if c.epoch = s.round.epoch then some c.outcome else none
        | none => none) ≠ _
      split
      next c h =>
        split
        next hepoch => exact fun heq => hc c h hepoch (Option.some.inj heq)
        next => simp
      next => simp
    · rw [hcheck]
      exact hr
    · rw [hcheck]
      exact ha
  exact ⟨heq, heq ▸ hphase'⟩

/-! ## The check by the cell's role -/

/-- R129: the station at which the arming check is started afresh. -/
def checkIdle (s : State) : State :=
  s.onWatch fun w => { w with check := .idle, sentArmed := false, sentRefused := false }

/-- R129: what an entry to ARMING from HALTED hands the arming check. -/
theorem checkStarts_enterBase {s : State} (hl : s.isLine = false) (hp : s.round.phase = .halted) :
    CheckStarts s.now s (checkIdle (s.enterBase .arming)) := by
  have hentered : (s.enterBase .arming).round.phase = .arming := by rw [State.enterBase_round]; rfl
  have hwatch : (s.enterBase .arming).watch = s.watch := enterBase_watch_of_not_arming (by simp [hp])
  constructor
  case time => simp [checkIdle]
  case store => simp [checkIdle]
  case bypass => simp [checkIdle]
  case watch => rw [checkIdle, State.onWatch_watch, hwatch]
  case scanner => rw [checkIdle, State.onWatch_scanner, (enterBase_cell hl).1]
  case entries => rw [checkIdle, State.onWatch_roster, (enterBase_roster .arming s).1.1]
  case inForce => rw [checkIdle, State.onWatch_plan, enterBase_inForce rfl]
  case phase => exact hentered
  case bar =>
    intro hb
    have hfitted : (s.enterBase .arming).fitted = s.fitted := fitted_congr (by simp)
    have hinside : (s.enterBase .arming).barred = (s.bus.duplicate || !s.fitted) := by
      rw [barred_inside (s := s.enterBase .arming) (by rw [hentered]; rfl), hfitted]
      simp
    rw [barred_inside (by rw [hp]; rfl), ← hinside] at hb
    have hidle : ∀ r : State, (checkIdle r).barred = r.barred := fun _ => rfl
    rw [hidle, hb]
  case room => exact roomLeft_enterBase .arming

/-- R129: what a LINE frame that ends HALTED hands the arming check. -/
theorem checkStarts_lineReceived {t : Time} {f : Frame} {l : LinePayload} {e : Half} {s : State} (hl : s.isLine = false)
    (hp : s.round.phase = .halted) :
    CheckStarts (max s.now t) s (checkIdle (State.enterBase .arming ((((s.advance t).hear f).onRound fun r =>
      { r with firstTaken := true }).onRound (Round.facing e l)))) := by
  have hl' : ((((s.advance t).hear f).onRound fun r => { r with firstTaken := true }).onRound
      (Round.facing e l)).isLine = false := (isLine_congr (by simp)).trans hl
  have hp' : ((((s.advance t).hear f).onRound fun r => { r with firstTaken := true }).onRound
      (Round.facing e l)).round.phase = .halted := by simpa [Round.facing] using hp
  have h := checkStarts_enterBase hl' hp'
  constructor
  case time => simpa using h.time
  case store => simpa using h.store
  case bypass => simpa using h.bypass
  case watch => simpa using h.watch
  case scanner => simpa using h.scanner
  case entries => simpa using h.entries
  case inForce => simpa using h.inForce
  case phase => exact h.phase
  case bar =>
    intro hb
    refine h.bar ?_
    rw [barred_inside (by rw [hp]; rfl)] at hb
    rw [barred_inside (by rw [hp']; rfl), fitted_congr (s := s) (by simp)]
    simpa using hb
  case room => exact fun hq => h.room (roomLeft_hear (s := s.advance t) hq)

/-- R129: the arming check of a role. -/
def checkFor : CellRole → State → State
  | .active _ => State.beginCheck State.beginActive
  | .spare => State.beginCheck State.beginSpare
  | .out => id
  | .none => id

theorem startCheck_eq (s : State) : s.startCheck = checkFor (checkIdle s).cellRole (checkIdle s) := by
  have h : ∀ r : CellRole, checkFor r (checkIdle s) = (match r with
      | .active _ => (checkIdle s).beginCheck State.beginActive
      | .spare => (checkIdle s).beginCheck State.beginSpare
      | .out => checkIdle s
      | .none => checkIdle s) := fun r => by cases r <;> rfl
  exact (h _).symm

/-- R129: an entry LIVE with an empty latch goes on, any other is refused. -/
theorem beginCheck_live {go : State → State} {e : RosterEntry} {s : State} (he : s.ownEntry = some e)
    (hc : e.cond = .live) (hl : s.watch.latch = []) : s.beginCheck go = go s := by
  simp [State.beginCheck, he, hc, hl]

theorem beginCheck_refused {go : State → State} {e : RosterEntry} {s : State} (he : s.ownEntry = some e)
    (hc : e.cond ≠ .live) : s.beginCheck go = (s.checkRefused e.cls.byte).closeCmd := by
  simp [State.beginCheck, he, hc]

/-- R138: the Bypass Controller after an OPEN at a cell station with an empty latch, by its state before. -/
def openFrom (p : Purpose) (s : State) : BypassState → Bypass
  | .closed => s.bypass.opens s.now s.contactTime
  | .stuckClosed => s.bypass.opens s.now s.contactTime
  | .closing => { s.bypass with pending := some p }
  | .opening => s.bypass
  | .opened => s.bypass
  | .stuckOpen => s.bypass

/-- R136, R138: an OPEN where the contactor does not stand open. -/
theorem openCmd_eq {s : State} (p : Purpose) (hc : s.isCell = true) (hl : s.watch.latch = []) (hs : s.bypass.state ≠ .opened) :
    s.openCmd p = { s with bypass := openFrom p s s.bypass.state } := by
  unfold State.openCmd
  rw [hc, hl]
  cases hb : s.bypass.state <;> first | exact absurd hb hs | rfl

section
variable {now : Time} {s q : State} (h : CheckStarts now s q)
include h

theorem CheckStarts.role : q.cellRole = s.cellRole := by
  rw [State.cellRole, State.cellRole, h.inForce, h.store]

theorem CheckStarts.ownEntry : q.ownEntry = s.ownEntry := by
  rw [State.ownEntry, State.ownEntry, State.ownIndex_congr h.store]
  exact congrArg (fun g => Option.map g s.ownIndex) (funext (State.entryAt_congr h.entries))

theorem CheckStarts.cell (hl : s.isLine = false) : q.isCell = true := by
  rw [isCell_eq_not_isLine, isLine_congr h.store, hl, Bool.not_false]

/-- R130: the check of an active cell that is LIVE with an empty latch. -/
theorem CheckStarts.active (hl : s.isLine = false) (hlatch : s.watch.latch = []) :
    q.beginActive.roster = q.roster ∧
    (s.bypass.state = .opened → q.beginActive.watch.check = .senseWait ∧ q.beginActive.watch.armRequest = some now ∧
      q.beginActive.bypass = s.bypass ∧ q.beginActive.scanner = s.scanner.trigger now .arm) ∧
    (s.bypass.state ≠ .opened → q.beginActive.watch.check = .openWait ∧ q.beginActive.scanner = s.scanner ∧
      ((s.bypass.state = .closed ∨ s.bypass.state = .stuckClosed) →
        q.beginActive.bypass = { s.bypass with
          state := .opening, hold := true, contact := some (now + 1000 * s.params.contact), coilRelease := none }) ∧
      (s.bypass.state = .closing → q.beginActive.bypass = { s.bypass with pending := some .arm }) ∧
      ((s.bypass.state = .opening ∨ s.bypass.state = .stuckOpen) → q.beginActive.bypass = s.bypass)) := by
  have hcell := h.cell hl
  have hempty : q.watch.latch = [] := by rw [h.watch, hlatch]
  refine ⟨by simp, fun hs => ?_, fun hs => ?_⟩
  · have heq : q.beginActive = q.senseStep := by rw [State.beginActive, h.bypass, if_pos hs]
    rw [heq, State.senseStep, ← h.time, ← h.bypass, ← h.scanner]
    exact ⟨rfl, rfl, rfl, rfl⟩
  · have heq : q.beginActive = (q.onWatch fun w => { w with check := .openWait }).openCmd .arm := by
      rw [State.beginActive, h.bypass, if_neg hs]
    have hopen : q.beginActive = { q with
        watch := { q.watch with check := .openWait }
        bypass := openFrom .arm (q.onWatch fun w => { w with check := .openWait }) s.bypass.state } := by
      rw [heq, openCmd_eq (s := q.onWatch fun w => { w with check := .openWait }) .arm hcell hempty
        (by show q.bypass.state ≠ _; rw [h.bypass]; exact hs)]
      show _ = ({ q with
        watch := { q.watch with check := .openWait }
        bypass := openFrom .arm (q.onWatch fun w => { w with check := .openWait }) s.bypass.state } : State)
      rw [← h.bypass]
      rfl
    have hcontact : (q.onWatch fun w => { w with check := .openWait }).contactTime = 1000 * s.params.contact := by
      rw [State.contactTime, State.params_congr (r := q.onWatch _) (s := s) h.store]
      rfl
    have hnow : (q.onWatch fun w => { w with check := .openWait }).now = now := h.time
    have hbypass : (q.onWatch fun w => { w with check := .openWait }).bypass = s.bypass := h.bypass
    rw [hopen, ← h.scanner]
    refine ⟨rfl, rfl, ?_, ?_, ?_⟩
    · rintro (hb | hb) <;> rw [hb] <;> simp only [openFrom, hcontact, hnow, hbypass] <;> rfl
    · intro hb
      rw [hb, ← hbypass]
      rfl
    · rintro (hb | hb) <;> rw [hb] <;> exact hbypass

/-- R130, R131: STEP frames of the check go out with the plan in force. -/
theorem CheckStarts.sends {p : Plan} (hplan : s.plan.inForce = some p) (hb : s.barred = false)
    (hq : s.bus.queue.length ≤ 4) : q.plan.inForce = some p ∧ q.barred = false ∧ RoomLeft q.bus.queue :=
  ⟨h.inForce.trans hplan, h.bar hb, h.room (.inl hq)⟩

/-- R131: the check of a spare that is LIVE with an empty latch. -/
theorem CheckStarts.spare {p : Plan} (hl : s.isLine = false) (hplan : s.plan.inForce = some p) :
    (s.bypass.state = .closed → q.beginSpare.watch.check = .done ∧ q.beginSpare.bypass = s.bypass ∧
      (s.barred = false → s.bus.queue.length ≤ 4 →
        ∃ g ∈ q.beginSpare.bus.queue, g.body = .step 1 p.revision (p.digest?.getD 0) 0)) ∧
    (s.bypass.state = .opened → q.beginSpare.watch.check = .closeWait ∧
      q.beginSpare.bypass = { s.bypass with state := .closing, gateOff := some (now + 10) }) := by
  refine ⟨fun hs => ?_, fun hs => ?_⟩
  · have heq : q.beginSpare = q.checkArmed := by rw [State.beginSpare, h.bypass, if_pos hs]
    rw [heq, checkArmed_watch]
    refine ⟨rfl, by simpa using h.bypass, fun hb hq => ?_⟩
    obtain ⟨hplan', hb', hq'⟩ := h.sends hplan hb hq
    exact mem_checkArmed hplan' hb' hq' (by rw [h.watch])
  · have heq : q.beginSpare = (q.onWatch fun w => { w with check := .closeWait }).closeCmd := by
      rw [State.beginSpare, h.bypass, if_neg (by rw [hs]; simp)]
    have hl' : (q.onWatch fun w => { w with check := .closeWait }).isLine = false := (isLine_congr h.store).trans hl
    have hs' : (q.onWatch fun w => { w with check := .closeWait }).bypass.state = .opened := by
      rw [State.onWatch_bypass, h.bypass, hs]
    have hopen : (q.onWatch fun w => { w with check := .closeWait }).bypass.confirmedClosed = false := by
      rw [Bypass.confirmedClosed, hs']
      rfl
    rw [heq, closeCmd_eq hl', hopen, State.when_false, closeOf_eq hs', ← h.bypass, ← h.time]
    exact ⟨rfl, rfl⟩

/-- R129: a check refused at its start. -/
theorem CheckStarts.refused {p : Plan} {k : Byte} (hl : s.isLine = false) (hplan : s.plan.inForce = some p) :
    (q.checkRefused k).closeCmd.watch.check = .done ∧
    (s.barred = false → s.bus.queue.length ≤ 4 →
      ∃ g ∈ (q.checkRefused k).closeCmd.bus.queue, g.body = .step 2 p.revision (p.digest?.getD 0) k) ∧
    (s.bypass.state = .opened →
      (q.checkRefused k).closeCmd.bypass = { s.bypass with state := .closing, gateOff := some (now + 10) }) := by
  have hl' : (q.checkRefused k).isLine = false := (isLine_congr (by simpa using h.store)).trans hl
  have hclose := handed_closeCmd hl' (by rw [checkRefused_watch]; simp)
  refine ⟨by rw [hclose.watch, checkRefused_watch], fun hb hq => ?_, fun hs => ?_⟩
  · obtain ⟨hplan', hb', hq'⟩ := h.sends hplan hb hq
    obtain ⟨g, hg, hbody⟩ := mem_checkRefused (reason := k) hplan' hb' hq' (by rw [h.watch])
    exact ⟨g, (checksOn_closeCmd (by simpa using h.phase)).steps g hg (by rw [hbody]; rfl), hbody⟩
  · have hbypass : (q.checkRefused k).bypass = s.bypass := by simpa using h.bypass
    have hnow : (q.checkRefused k).now = now := by simpa using h.time
    rw [hclose.bypass]
    show closeOf (q.checkRefused k) = _
    rw [closeOf_eq (by rw [hbypass, hs]), closeFrom, hnow, hbypass]
    rfl

end

/-- Settles O46: the check started on a LINE frame, the pass that serves it, and its evaluation. -/
theorem armingCheckAnswersByBands : Obligations.ArmingCheckAnswersByBands := by
  refine ⟨?starts, ?passes, ?evaluated⟩
  case starts =>
    intro t x f l p e s hr hx hf h0 hl hn he hphase hplan hcount hrun hprev hd hrefusal ha hc hown
    obtain ⟨heq, harming⟩ := lineTaken_arms
      (s := ((s.advance t).hear f).onRound fun r => { r with firstTaken := true }) (l := l) (p := p)
      ((isLine_congr (s := s) (by simp)).trans hl) (by simpa using hphase) (by simpa using hplan) (by simpa using hcount)
      hrun (by simpa using hprev) (by simpa using hd) (by simpa using hrefusal) (by simpa using ha)
      (by simpa [he] using hc)
    have hepoch : (((s.advance t).hear f).onRound fun r => { r with firstTaken := true }).round.epoch = f.epoch := by
      simp [he]
    rw [hepoch] at heq harming
    have hstart := checkStarts_lineReceived (t := t) (f := f) (l := l) (e := f.epoch) hl hphase
    refine ⟨_, exec_lineReceived hr hx hf h0 hn he (by simp [hphase]) (by simp [hphase]), harming, ?_⟩
    rw [heq]
    generalize State.enterBase .arming ((((s.advance t).hear f).onRound fun r =>
      { r with firstTaken := true }).onRound (Round.facing f.epoch l)) = q at *
    have hown' : (checkIdle q).ownEntry = some e := hstart.ownEntry.trans hown
    have hempty : s.watch.latch = [] → (checkIdle q).watch.latch = [] := fun h => by rw [hstart.watch, h]
    rw [startCheck_eq, hstart.role]
    refine ⟨fun o hrole hlive hlatch => ?active, fun hrole hlive hlatch => ?spare, fun hrole hlive => ?refused,
      fun hrole => ?out⟩
    case active =>
      rw [hrole]
      simp only [checkFor]
      rw [beginCheck_live hown' hlive (hempty hlatch)]
      obtain ⟨hroster, hopened, hother⟩ := hstart.active hl hlatch
      exact ⟨(congrArg Roster.entries hroster).trans hstart.entries, hopened, hother⟩
    case spare =>
      rw [hrole]
      simp only [checkFor]
      rw [beginCheck_live hown' hlive (hempty hlatch)]
      exact hstart.spare hl hplan
    case refused =>
      have hrefused : checkFor s.cellRole (checkIdle q) = ((checkIdle q).checkRefused e.cls.byte).closeCmd := by
        cases hs : s.cellRole with
        | active o => exact beginCheck_refused hown' hlive
        | spare => exact beginCheck_refused hown' hlive
        | out => simp [hs, CellRole.isActive] at hrole
        | none => simp [hs, CellRole.isActive] at hrole
      rw [hrefused]
      exact hstart.refused hl hplan
    case out =>
      rw [hrole]
      simp only [checkFor, id]
      exact ⟨by rw [hstart.watch], hstart.bypass, hstart.scanner⟩
  case passes =>
    intro t q v k a s x hr hl hv ha he hlast hx hp hw hq htrip hsoft
    exact exec_passEnd_senseWait hr hl hv ha he hlast hx hp hw hq htrip hsoft
  case evaluated =>
    intro s v p hp hplan hb hq
    refine ⟨fun ⟨h1, h2, h3, h4, h5, hlatch⟩ hsent => ?_, fun hnot hsent => ?_⟩
    · rw [evaluateCheck_armed (armingBand_iff.mpr ⟨h1, h2, h3, h4, h5⟩) hlatch]
      exact ⟨checkArmed_watch s, by simp, by simp, mem_checkArmed hplan hb (.inl hq) hsent⟩
    · obtain ⟨hdone, hstep, hentry⟩ := evaluateCheck_refused_holds (v := v) hp hplan hb (.inl hq) (fun ⟨hband, hlatch⟩ =>
        have ⟨h1, h2, h3, h4, h5⟩ := armingBand_iff.mp hband
        hnot ⟨h1, h2, h3, h4, h5, hlatch⟩) hsent
      exact ⟨hdone, hstep, fun i e hi _ hauth he hlive =>
        hentry i e ⟨(ownedIndex_of_authority hauth).trans hi, he⟩ hlive⟩

end Sys2Proof.Proofs

/-! # The end of a pass

PROOFS about Cell Watch at a pass end (R122, R124, R127, R128): what its assertions leave in the counts, a soft fault, a trip
high, and readmission. -/

namespace Sys2Proof.Proofs

open Sys2Proof.Machine Sys2Proof.Safety

/-! ## What the assertions leave -/

/-- R124: the limit counts and the in-band count. -/
def Watch.SameCounts (w v : Watch) : Prop :=
  w.tripHigh = v.tripHigh ∧ w.linkLow = v.linkLow ∧ w.heat = v.heat ∧ w.supply = v.supply ∧ w.input = v.input ∧
  w.inBand = v.inBand ∧ w.passSeen = v.passSeen

/-- R124: what a fault or readmission at a cell station leaves: the scanner, the counts, and no sense step begun. -/
structure PassKept (s r : State) : Prop where
  store : r.store = s.store
  scanner : s.isLine = false → r.scanner = s.scanner
  counts : Watch.SameCounts r.watch s.watch
  check : s.watch.check ≠ .senseWait → r.watch.check ≠ .senseWait

theorem PassKept.refl (s : State) : PassKept s s :=
  ⟨rfl, fun _ => rfl, ⟨rfl, rfl, rfl, rfl, rfl, rfl, rfl⟩, id⟩

theorem PassKept.trans {s r q : State} (h1 : PassKept s r) (h2 : PassKept r q) : PassKept s q where
  store := h2.store.trans h1.store
  scanner := fun hl => (h2.scanner ((isLine_congr h1.store).trans hl)).trans (h1.scanner hl)
  counts := by
    obtain ⟨a1, a2, a3, a4, a5, a6, a7⟩ := h1.counts
    obtain ⟨b1, b2, b3, b4, b5, b6, b7⟩ := h2.counts
    exact ⟨b1.trans a1, b2.trans a2, b3.trans a3, b4.trans a4, b5.trans a5, b6.trans a6, b7.trans a7⟩
  check := fun h => h2.check (h1.check h)

theorem passKept_of_handed {s r : State} (h : Handed s r) : PassKept s r where
  store := h.store
  scanner := fun hl => (h.cell hl).1
  counts := by rw [h.watch]; exact ⟨rfl, rfl, rfl, rfl, rfl, rfl, rfl⟩
  check := fun hc => by rw [h.watch]; exact hc

theorem passKept_localAlarm (k : FaultClass) (s : State) : PassKept s (s.localAlarm k) := by
  cases hd : s.round.phase.dropsAlarm with
  | true =>
    have heq : s.localAlarm k = s := by simp [State.localAlarm, hd]
    rw [heq]
    exact .refl s
  | false =>
    have h := localAlarm_taken k hd
    refine ⟨by simp, fun hl => (h.cell hl).1, ?_, fun hc => ?_⟩
    · rw [h.watch]
      split <;> exact ⟨rfl, rfl, rfl, rfl, rfl, rfl, rfl⟩
    · rw [h.watch]
      split
      · simp
      · exact hc

/-- R130: an answer of the arming check leaves the counts. -/
theorem passKept_checkArmed (s : State) : PassKept s s.checkArmed :=
  ⟨by simp, fun _ => by simp, by rw [checkArmed_watch]; exact ⟨rfl, rfl, rfl, rfl, rfl, rfl, rfl⟩,
    fun _ => by rw [checkArmed_watch]; simp⟩

theorem passKept_checkRefused (k : Byte) (s : State) : PassKept s (s.checkRefused k) :=
  ⟨by simp, fun _ => by simp, by rw [checkRefused_watch]; exact ⟨rfl, rfl, rfl, rfl, rfl, rfl, rfl⟩,
    fun _ => by rw [checkRefused_watch]; simp⟩

theorem passKept_closeCmd (s : State) : PassKept s s.closeCmd := by
  have hbypass : ∀ f, PassKept s (s.onBypass f) := fun _ => ⟨rfl, fun _ => rfl, (PassKept.refl s).counts, id⟩
  have hconfirm : ∀ r : State, PassKept r r.confirmClosed := by
    intro r
    have hwrite : PassKept r (r.when r.faultedWithLatch fun r => r.requestWrite .bypassed r.watch.leading) :=
      when_keeps (P := PassKept r) (.refl r) fun _ => passKept_of_handed (handed_requestWrite ..)
    exact hwrite.trans (when_keeps (P := PassKept _) (.refl _) fun _ => passKept_checkArmed _)
  unfold State.closeCmd
  split
  · exact .refl s
  · split
    · exact hconfirm s
    · exact (hbypass _).trans (hconfirm _)
    · exact hbypass _
    · exact hbypass _
    · exact hbypass _
    · exact .refl s

theorem passKept_hardFault {k : FaultClass} {s : State} (hl : s.isLine = false) : PassKept s (s.hardFault k) := by
  cases hlatch : s.watch.latch with
  | cons n l =>
    have heq : s.hardFault k = s.onWatch (Watch.latchAlso k) := by simp [State.hardFault, hlatch]
    rw [heq]
    exact ⟨rfl, fun _ => rfl, ⟨rfl, rfl, rfl, rfl, rfl, rfl, rfl⟩, id⟩
  | nil =>
    have hlatched : PassKept s { faultLatched k s with bypass := closeOf s } := by
      refine ⟨rfl, fun _ => rfl, ?_, fun hc => ?_⟩
      · show Watch.SameCounts ((s.watch.latchLeading k).endCheck) s.watch
        rw [endCheck_eq]
        exact ⟨rfl, rfl, rfl, rfl, rfl, rfl, rfl⟩
      · show ((s.watch.latchLeading k).endCheck).check ≠ _
        unfold Watch.endCheck
        split
        · exact hc
        · simp
    rw [hardFault_eq hlatch]
    exact (hlatched.trans (passKept_of_handed (handed_faultWritten hl))).trans (passKept_localAlarm ..)

theorem passKept_softFault (k : FaultClass) (s : State) : PassKept s (s.softFault k) := by
  have heffect : ∀ (p : Phase) (role : CellRole) (r : State), PassKept r (r.softEffect p role k) := by
    intro p role r
    have hunless : PassKept r r.closeUnlessClosed := when_keeps (P := PassKept r) (.refl r) fun _ => passKept_closeCmd r
    unfold State.softEffect
    split
    · split
      · split
        · exact .refl r
        · exact (passKept_closeCmd r).trans (passKept_localAlarm ..)
      · exact hunless
    · split
      · split
        · exact (passKept_checkRefused ..).trans (passKept_closeCmd _)
        · exact hunless
      · exact passKept_closeCmd r
  exact when_keeps (P := PassKept s) (.refl s) fun _ =>
    (passKept_of_handed (handed_ownerWrite .resting k s)).trans (heffect ..)

theorem passKept_testReadmission (s : State) : PassKept s s.testReadmission :=
  when_keeps (P := PassKept s) (.refl s) fun _ => passKept_of_handed (handed_ownerWrite ..)

theorem passKept_handleAssertions {w : Watch} {x : PassValues} {s : State} (hl : s.isLine = false) :
    PassKept s (s.handleAssertions w x) := by
  have hhard : PassKept s (s.when (assertsNow s.params.persist (condTripHigh s.params x) w.tripHigh)
      (State.hardFault FaultClass.linkHigh)) := when_keeps (P := PassKept s) (.refl s) fun _ => passKept_hardFault hl
  unfold State.handleAssertions
  dsimp only
  split
  · exact hhard.trans (passKept_softFault ..)
  · exact hhard

/-! ## A pass classified -/

/-- R124, R130: a pass at which no sense step waits. -/
theorem classifyPass_eq {start : Time} {x : PassValues} {s : State} (hl : s.isLine = false)
    (hc : s.watch.check ≠ .senseWait) :
    s.classifyPass start x = (((s.onWatch (Watch.counted s.params x)).handleAssertions s.watch x).onWatch
      (Watch.banded s.params.persist (inBandPass s.params x))).testReadmission := by
  have hassert : PassKept (s.onWatch (Watch.counted s.params x))
      ((s.onWatch (Watch.counted s.params x)).handleAssertions s.watch x) := passKept_handleAssertions hl
  have hreadmit := passKept_testReadmission (((s.onWatch (Watch.counted s.params x)).handleAssertions s.watch x).onWatch
    (Watch.banded s.params.persist (inBandPass s.params x)))
  have hserved : ∀ r : State, r.watch.check ≠ .senseWait → r.watch.servedBy start = false := fun r h => by
    rw [Watch.servedBy, beq_eq_false_iff_ne.mpr h, Bool.false_and]
  rw [State.classifyPass]
  exact (congrArg (fun b => State.when b (State.evaluateCheck x) _)
    (hserved _ (hreadmit.check (hassert.check hc)))).trans (State.when_false ..)

/-- R124: a pass with every channel in band. -/
theorem inBandPass_iff {p : Params} {x : PassValues} :
    inBandPass p x = true ↔ p.linkLow ≤ x.ch0 ∧ x.ch0 ≤ p.tripHigh ∧ p.supplyLow ≤ x.ch1 ∧ x.ch2 ≤ p.heatHigh ∧
      p.inputLow ≤ x.ch3 := by
  simp only [inBandPass, condTripHigh, condLinkLow, condHeat, condSupply, condInput, Bool.not_eq_true', Bool.or_eq_false_iff,
    decide_eq_false_iff_not, Nat.not_lt]
  constructor
  · rintro ⟨⟨⟨⟨h0, hlow⟩, h2⟩, h1⟩, h3⟩
    exact ⟨hlow, h0, h1, h2, h3⟩
  · rintro ⟨hlow, h0, h1, h2, h3⟩
    exact ⟨⟨⟨⟨h0, hlow⟩, h2⟩, h1⟩, h3⟩

/-- R95, R124: the scanner and the counts after a pass, whatever it asserts. -/
theorem classifyPass_counts {start : Time} {x : PassValues} {s : State} (hl : s.isLine = false)
    (hc : s.watch.check ≠ .senseWait) :
    (s.classifyPass start x).scanner = s.scanner ∧
    Watch.SameCounts (s.classifyPass start x).watch (passCounted s.params x s.watch) := by
  have hassert : PassKept (s.onWatch (Watch.counted s.params x))
      ((s.onWatch (Watch.counted s.params x)).handleAssertions s.watch x) := passKept_handleAssertions hl
  have hreadmit := passKept_testReadmission (((s.onWatch (Watch.counted s.params x)).handleAssertions s.watch x).onWatch
    (Watch.banded s.params.persist (inBandPass s.params x)))
  rw [classifyPass_eq hl hc]
  refine ⟨(hreadmit.scanner ((isLine_congr hassert.store).trans hl)).trans (hassert.scanner hl), ?_⟩
  obtain ⟨a1, a2, a3, a4, a5, a6, a7⟩ := hassert.counts
  obtain ⟨b1, b2, b3, b4, b5, b6, b7⟩ := hreadmit.counts
  refine ⟨b1.trans a1, b2.trans a2, b3.trans a3, b4.trans a4, b5.trans a5, b6.trans ?_, b7.trans a7⟩
  simp only [State.onWatch_watch, Watch.banded, passCounted, a6]
  rfl

/-- R96: a pass after which nothing is readmitted. -/
theorem testReadmission_not {s : State} (h : s.readmissionMet = false) : s.testReadmission = s := by
  rw [State.testReadmission, h, State.when_false]

theorem readmissionMet_of_phase {s : State} (h1 : s.round.phase ≠ .halted) (h2 : s.round.phase ≠ .running) :
    s.readmissionMet = false := by
  rw [← Bool.not_eq_true, readmissionMet_iff]
  rintro ⟨-, h, -⟩
  exact h.elim h1 h2

theorem readmissionMet_of_latch {s : State} (h : s.watch.latch ≠ []) : s.readmissionMet = false := by
  rw [← Bool.not_eq_true, readmissionMet_iff]
  rintro ⟨-, -, -, -, -, hlatch⟩
  exact h hlatch

/-! ## A soft fault -/

/-- R127: no soft fault is classified beside a latched class. -/
theorem softFault_latched {k : FaultClass} {s : State} (h : s.watch.latch ≠ []) : s.softFault k = s := by
  have hnot : s.softClassified = false := by
    have hempty : s.watch.latch.isEmpty = false := by simpa using h
    rw [State.softClassified, hempty, Bool.and_false]
  rw [State.softFault, hnot, State.when_false]

section
variable {k : FaultClass} {i : Nat} {e : RosterEntry} {s : State} (hown : OwnEntry s i e) (hlive : e.cond = .live)
include hown hlive

/-- R127: the write of a soft fault. -/
theorem softFault_write : s.ownerWrite .resting k = s.requestWrite .resting k ∧
    OwnEntry (s.ownerWrite .resting k) i ⟨.resting, .owner, k, versionSucc e.version, e.silentSince⟩ ∧
    (s.ownerWrite .resting k).watch.rest = .running (s.now + 1000000 * s.params.rest) := by
  have hnew : e.carries .resting k = false := by simp [RosterEntry.carries, hlive]
  have heq := ownerWrite_eq hown.1 hown.2 (by simp) hnew
  obtain ⟨hentry, hrest⟩ := requestWrite_entry hown.1 hown.2 hnew
  rw [heq]
  exact ⟨rfl, ⟨(handed_requestWrite ..).owned hown.1, hentry⟩, hrest⟩

theorem softFault_eq (hlatch : s.watch.latch = []) :
    s.softFault k = (s.ownerWrite .resting k).softEffect s.round.phase s.cellRole k := by
  have hclassified : s.softClassified = true := by
    rw [State.softClassified, hown.cond, hlive, authority_of_owned hown.1, hlatch]
    rfl
  rw [State.softFault, hclassified, State.when_true]

omit hlive in
/-- R137: a CLOSE where the own entry is not FAULTED. -/
theorem closeCmd_unfaulted (hc : e.cond ≠ .faulted) :
    s.closeCmd.round = s.round ∧ s.closeCmd.plan = s.plan ∧ s.closeCmd.roster = s.roster ∧
      s.closeCmd.watch.rest = s.watch.rest := by
  have hfault : s.faultedWithLatch = false := faultedWithLatch_of_cond (ownIndex_of_owned hown.1) hown.2 hc
  obtain ⟨hroster, hrest, -⟩ := closeCmd_keeps (s := s) (.inr (by rw [hfault, Bool.and_false]))
  have hconfirm : ∀ r : State, r.faultedWithLatch = false →
      r.confirmClosed.round = r.round ∧ r.confirmClosed.plan = r.plan := by
    intro r hr
    rw [State.confirmClosed, hr, State.when_false]
    unfold State.when
    split <;> simp
  refine ⟨?_, ?_, hroster, hrest⟩
  all_goals
    unfold State.closeCmd
    split
    · rfl
    · split
      · simp [hconfirm s hfault]
      · simp [hconfirm (s.onBypass _) hfault]
      all_goals rfl

/-- R128: a soft fault in TRIPPED, LOCKOUT and SETTLING. -/
theorem softFault_still (hlatch : s.watch.latch = [])
    (hp : s.round.phase = .tripped ∨ s.round.phase = .lockout ∨ s.round.phase = .settling) :
    (s.softFault k).round = s.round ∧ (s.softFault k).watch.rest = .running (s.now + 1000000 * s.params.rest) ∧
    (s.softFault k).roster.entries[i - 1]? = some ⟨.resting, .owner, k, versionSucc e.version, e.silentSince⟩ := by
  have hquiet : s.hearsChangesOnly := by
    rcases hp with h | h | h
    · exact .inl (by rw [h]; rfl)
    · exact .inl (by rw [h]; rfl)
    · exact .inr h
  obtain ⟨-, hentry, hrest⟩ := softFault_write (k := k) hown hlive
  have heffect : (s.ownerWrite .resting k).softEffect s.round.phase s.cellRole k = (s.ownerWrite .resting k).closeCmd := by
    rcases hp with h | h | h <;> rw [h] <;> rfl
  obtain ⟨hround, -, hroster, hrest'⟩ := closeCmd_unfaulted hentry (by simp)
  rw [softFault_eq hown hlive hlatch, heffect, hround, hrest', hroster, hrest]
  exact ⟨State.ownerWrite_round_quiet _ _ _ hquiet, rfl, hentry.2⟩

/-- R81, R127: the write of a soft fault in RUNNING and REVISING. -/
theorem softFault_revises (hp : s.round.phase = .running ∨ s.round.phase = .revising) :
    (s.ownerWrite .resting k).round.phase = .revising ∧ (s.ownerWrite .resting k).round.epoch = s.round.epoch ∧
    (s.ownerWrite .resting k).bypass = s.bypass ∧ (s.ownerWrite .resting k).plan.inForce = s.plan.inForce := by
  have hnew : (s.entryAt i).carries .resting k = false := by
    rw [entryAt_of_getElem? hown.2]
    simp [RosterEntry.carries, hlive]
  have h := handed_ownerWrite .resting k s
  have hreplans : Replans s := by
    intro hplan
    rcases hp with hp | hp <;> simp [hp] at hplan
  obtain ⟨q, hq, -, -, -, hround⟩ := requestWrite_round hown.1 hnew
  refine ⟨?_, ?_, h.bypass, ?_⟩
  · rw [(softFault_write (k := k) hown hlive).1, hround]
    rcases hp with hp | hp
    · rw [entryChange_running (by simp) (by rw [hq, hp]), State.enterBase_round]
      rfl
    · rw [entryChange_revising (by simp) (by rw [hq, hp])]
      simp [hq, hp]
  · rcases h.round with ⟨hr, -⟩ | ⟨he, -, -⟩
    · rw [hr]
    · exact he
  · rcases h.round with ⟨-, hi⟩ | ⟨-, -, hm⟩
    · exact hi
    · exact (hm hreplans).2

/-- R128: TRIP of the soft mask trips the station. -/
theorem softFault_trips (hlatch : s.watch.latch = []) (hp : s.round.phase = .running ∨ s.round.phase = .revising)
    (hrole : s.cellRole.isActive = true) (hmask : withdrawMask s.params.softMask k = false) :
    (s.softFault k).round.epoch = s.round.epoch + 1#16 ∧
    ((s.softFault k).round.phase = .tripped ∨ (s.softFault k).round.phase = .lockout) ∧
    (s.softFault k).plan.inForce = none := by
  obtain ⟨hphase, hepoch, -, -⟩ := softFault_revises (k := k) hown hlive hp
  obtain ⟨-, hentry, -⟩ := softFault_write (k := k) hown hlive
  have hdrives : s.round.phase.drives = true := by rcases hp with h | h <;> rw [h] <;> rfl
  have hmask' : withdrawMask (s.ownerWrite .resting k).params.softMask k = false := by
    rw [State.params_congr (s := s) (by simp)]
    exact hmask
  have heffect : (s.ownerWrite .resting k).softEffect s.round.phase s.cellRole k =
      ((s.ownerWrite .resting k).closeCmd).localAlarm k := by
    rw [State.softEffect, hdrives, if_pos rfl, hrole, if_pos rfl, hmask', if_neg Bool.false_ne_true]
  obtain ⟨hround, -, -, -⟩ := closeCmd_unfaulted hentry (by simp)
  have htaken := localAlarm_taken (s := (s.ownerWrite .resting k).closeCmd) k (by rw [hround, hphase]; rfl)
  rw [softFault_eq hown hlive hlatch, heffect]
  exact ⟨by rw [htaken.epoch, hround, hepoch], htaken.phase, htaken.inForce⟩

/-- R128: WITHDRAW of the soft mask leaves the write alone. -/
theorem softFault_withdraws (hlatch : s.watch.latch = []) (hp : s.round.phase = .running ∨ s.round.phase = .revising)
    (hrole : s.cellRole.isActive = true) (hmask : withdrawMask s.params.softMask k = true) :
    s.softFault k = s.ownerWrite .resting k := by
  have hdrives : s.round.phase.drives = true := by rcases hp with h | h <;> rw [h] <;> rfl
  have hmask' : withdrawMask (s.ownerWrite .resting k).params.softMask k = true := by
    rw [State.params_congr (s := s) (by simp)]
    exact hmask
  rw [softFault_eq hown hlive hlatch, State.softEffect, hdrives, if_pos rfl, hrole, if_pos rfl, hmask', if_pos rfl]

end

/-! ## The pass end -/

theorem handleAssertions_soft {w : Watch} {x : PassValues} {k : FaultClass} {s : State}
    (htrip : assertsNow s.params.persist (condTripHigh s.params x) w.tripHigh = false)
    (hsoft : softAssertion s.params x w = some k) : s.handleAssertions w x = s.softFault k := by
  simp [State.handleAssertions, htrip, hsoft]

/-- R124, R127: beside a trip high no soft class is classified. -/
theorem handleAssertions_trip {w : Watch} {x : PassValues} {s : State} (hl : s.isLine = false) (hlatch : s.watch.latch = [])
    (htrip : assertsNow s.params.persist (condTripHigh s.params x) w.tripHigh = true) :
    s.handleAssertions w x = s.hardFault FaultClass.linkHigh := by
  have hlatched : (s.hardFault FaultClass.linkHigh).watch.latch ≠ [] := by rw [(hardFault_latches hl hlatch).1]; simp
  simp only [State.handleAssertions, htrip, State.when_true]
  split
  · exact softFault_latched hlatched
  · rfl

section
variable {start : Time} {x : PassValues} {s : State} (hl : s.isLine = false) (hc : s.watch.check ≠ .senseWait)
include hl hc

section
variable (htrip : assertsNow s.params.persist (condTripHigh s.params x) s.watch.tripHigh = false)
include htrip

/-- R124: a pass at which no limit comes to its assertion: readmission alone is tested. -/
theorem classifyPass_unasserted (hsoft : softAssertion s.params x s.watch = none) :
    s.classifyPass start x = (s.onWatch (passCounted s.params x)).testReadmission := by
  rw [classifyPass_eq hl hc, handleAssertions_none (s := s.onWatch (Watch.counted s.params x)) htrip hsoft]
  rfl

/-- R127: a pass at which a soft class is asserted. -/
theorem classifyPass_soft {k : FaultClass} (hsoft : softAssertion s.params x s.watch = some k) :
    s.classifyPass start x = (((s.onWatch (Watch.counted s.params x)).softFault k).onWatch
      (Watch.banded s.params.persist (inBandPass s.params x))).testReadmission := by
  rw [classifyPass_eq hl hc, handleAssertions_soft (s := s.onWatch (Watch.counted s.params x)) htrip hsoft]

end

/-- R124, R125: a pass at which trip high is asserted with an empty latch. -/
theorem classifyPass_trip (hlatch : s.watch.latch = [])
    (htrip : assertsNow s.params.persist (condTripHigh s.params x) s.watch.tripHigh = true) :
    s.classifyPass start x = ((s.onWatch (Watch.counted s.params x)).hardFault FaultClass.linkHigh).onWatch
      (Watch.banded s.params.persist (inBandPass s.params x)) := by
  rw [classifyPass_eq hl hc, handleAssertions_trip (s := s.onWatch (Watch.counted s.params x)) hl hlatch htrip]
  refine testReadmission_not (readmissionMet_of_latch ?_)
  show ((s.onWatch (Watch.counted s.params x)).hardFault FaultClass.linkHigh).watch.latch ≠ []
  rw [(hardFault_latches (s := s.onWatch (Watch.counted s.params x)) hl hlatch).1]
  simp

end

/-- R120, R124: the slots taken and the counts after the pass. -/
theorem passTaken_counts {a : Activity} {v : Nat} {t : Time} {x : PassValues} {s : State} (hl : s.isLine = false)
    (hc : s.watch.check ≠ .senseWait) :
    ((passTaken a v (s.advance t)).classifyPass a.passStart x).scanner.slots =
      (s.scanner.storeSlot a.channel (min v 1000)).slots.map (fun y => { y with fresh := false, overrun := false }) ∧
    Watch.SameCounts ((passTaken a v (s.advance t)).classifyPass a.passStart x).watch
      { passCounted s.params x s.watch with passSeen := true } := by
  obtain ⟨hscanner, hcounts⟩ := classifyPass_counts (start := a.passStart) (x := x) (s := passTaken a v (s.advance t)) hl hc
  refine ⟨?_, hcounts⟩
  rw [hscanner]
  show ((converted (max s.now t) a v s.scanner).takeAll).slots = _
  rw [Scanner.takeAll, converted, moveOn_slots]
  rfl

/-- Settles O37: the counts, then the pass by what it asserts. -/
theorem passEndCountsLimits : Obligations.PassEndCountsLimits := by
  intro t v k a s x n hr hl hv ha he hlast hx hc hn
  subst hx
  generalize hxv : (s.scanner.storeSlot a.channel (min v 1000)).values = x at *
  refine ⟨_, exec_passEnd hr hl hv ha he hlast, ?_⟩
  rw [hxv]
  obtain ⟨hslots, htripC, hlinkC, hheatC, hsupplyC, hinputC, hbandC, hseen⟩ :=
    passTaken_counts (a := a) (v := v) (t := t) (x := x) hl hc
  have hband : (passCounted s.params x s.watch).inBand = n := by
    rw [hn]
    exact ite_congr (propext inBandPass_iff) (fun _ => rfl) (fun _ => rfl)
  have hcount : ∀ (c : Prop) [Decidable c] (m : Nat), countAfter s.params.persist (decide c) m =
      if c then min (m + 1) s.params.persist else 0 := fun c _ m => by simp [countAfter]
  refine ⟨hslots, hbandC.trans hband, htripC.trans (hcount ..), hlinkC.trans (hcount ..), hheatC.trans (hcount ..),
    hsupplyC.trans (hcount ..), hinputC.trans (hcount ..), hseen,
    fun htrip => ⟨fun hsoft => ?unasserted, fun q i e hsoft hlatch hauth hi he hlive => ?soft⟩, fun htrip hlatch => ?trip⟩
  case unasserted =>
    rw [classifyPass_unasserted (s := passTaken a v (s.advance t)) hl hc htrip hsoft]
    refine ⟨fun hnot => ?_, fun i e hp hi he hel hauth hrest hinn hlatch => ?_⟩
    · rw [testReadmission_not]
      · exact ⟨rfl, by rw [← hband]; rfl⟩
      · rw [← Bool.not_eq_true, readmissionMet_iff]
        rintro ⟨-, hp, hown, hrest, hinb, hlatch⟩
        rcases hnot with h | ⟨h1, h2⟩ | h | h | h
        · exact absurd (h.symm.trans hown) (by simp)
        · exact hp.elim h1 h2
        · exact h hrest
        · exact h (hband.symm.trans hinb)
        · exact h hlatch
    · have hmet : ((passTaken a v (s.advance t)).onWatch (passCounted s.params x)).readmissionMet = true := by
        refine readmissionMet_iff.mpr ⟨hl, .inl hp, ?_, hrest, hband.trans hinn, hlatch⟩
        rw [ownCond_eq (s := (passTaken a v (s.advance t)).onWatch (passCounted s.params x)) hi he, hel]
        rfl
      rw [State.testReadmission]
      have hmet' : ((passTaken a v (s.advance t)).onWatch
          (passCounted (passTaken a v (s.advance t)).params x)).readmissionMet = true := hmet
      rw [hmet', State.when_true]
      exact readmit_halted (s := (passTaken a v (s.advance t)).onWatch (passCounted s.params x)) hi hauth he hel hp
  case soft =>
    have hown : OwnEntry ((passTaken a v (s.advance t)).onWatch (Watch.counted (passTaken a v (s.advance t)).params x)) i e :=
      ⟨(ownedIndex_of_authority hauth).trans hi, he⟩
    have hlatch' : ((passTaken a v (s.advance t)).onWatch (Watch.counted (passTaken a v (s.advance t)).params x)).watch.latch = [] := hlatch
    rw [classifyPass_soft (s := passTaken a v (s.advance t)) hl hc htrip hsoft]
    refine ⟨fun hp => ?_, fun hp hrole => ⟨fun hmask => ?_, fun hmask => ?_⟩⟩
    · obtain ⟨hround, hrest, hentry⟩ := softFault_still (k := q) hown hlive hlatch' hp
      have hnot : s.round.phase ≠ .halted ∧ s.round.phase ≠ .running := by rcases hp with h | h | h <;> simp [h]
      rw [testReadmission_not (readmissionMet_of_phase (by rw [State.onWatch_round, hround]; exact hnot.1)
        (by rw [State.onWatch_round, hround]; exact hnot.2))]
      exact ⟨hround, hrest, hentry⟩
    · obtain ⟨hphase, hepoch, hbypass, hforce⟩ := softFault_revises (k := q) hown hlive hp
      obtain ⟨-, ⟨-, hentry⟩, -⟩ := softFault_write (k := q) hown hlive
      have heq := softFault_withdraws hown hlive hlatch' hp hrole hmask
      rw [← heq] at hphase hepoch hbypass hforce hentry
      rw [testReadmission_not (readmissionMet_of_phase (by rw [State.onWatch_round, hphase]; simp)
        (by rw [State.onWatch_round, hphase]; simp))]
      exact ⟨hphase, hepoch, hbypass, hforce, hentry⟩
    · obtain ⟨hepoch, hphase, hforce⟩ := softFault_trips hown hlive hlatch' hp hrole hmask
      rw [testReadmission_not (readmissionMet_of_phase
        (by rw [State.onWatch_round]; rcases hphase with h | h <;> rw [h] <;> simp)
        (by rw [State.onWatch_round]; rcases hphase with h | h <;> rw [h] <;> simp))]
      refine ⟨hepoch, hphase, hforce, State.gateEn_of_phase ?_⟩
      rw [State.onWatch_round]
      rcases hphase with h | h <;> rw [h] <;> rfl
  case trip =>
    rw [classifyPass_trip (s := passTaken a v (s.advance t)) hl hc hlatch htrip]
    obtain ⟨hlatched, hlead, -, -, -⟩ := hardFault_latches (k := FaultClass.linkHigh)
      (s := (passTaken a v (s.advance t)).onWatch (Watch.counted (passTaken a v (s.advance t)).params x)) hl hlatch
    refine ⟨hlatched, hlead, gateEn_of_latch ?_, fun hp => ?_⟩
    · rw [State.onWatch_watch]
      show ((((passTaken a v (s.advance t)).onWatch (Watch.counted (passTaken a v (s.advance t)).params x)).hardFault
        FaultClass.linkHigh).watch.latch) ≠ []
      rw [hlatched]
      simp
    · have hdrops : s.round.phase.dropsAlarm = false := by rcases hp with h | h <;> rw [h] <;> rfl
      have hreplans : Replans ((passTaken a v (s.advance t)).onWatch (Watch.counted (passTaken a v (s.advance t)).params x)) := by
        intro hplan
        have hplan' : s.round.phase = .planning := hplan
        rcases hp with h | h <;> simp [h] at hplan'
      obtain ⟨hepoch, hphase, -, -⟩ := hardFault_alarms (k := FaultClass.linkHigh)
        (s := (passTaken a v (s.advance t)).onWatch (Watch.counted (passTaken a v (s.advance t)).params x)) hl hlatch hdrops hreplans
      exact ⟨hepoch, hphase⟩

end Sys2Proof.Proofs

/-! # The shift table

PROOFS about the shift table (R71): its rows one by one, its keys in rising order, and its spans, which do not decrease from
group to group nor within a group. -/

namespace Sys2Proof.Proofs

open Sys2Proof.Machine Sys2Proof.Safety

/-- R71: what the table requires of one row. -/
def ShiftRow.Sound (r : ShiftRow) : Prop :=
  1 ≤ r.z ∧ r.z ≤ r.y ∧ r.y ≤ r.x ∧ r.x ≤ 9 ∧ r.xy + r.yz + r.zx = 3600 ∧ 1732 * r.z ≤ r.span ∧ r.span ≤ 1732 * r.x ∧
  (r.x = r.z → r.xy = 1200 ∧ r.yz = 1200 ∧ r.zx = 1200 ∧ r.span = 1732 * r.x) ∧
  ((r.y - r.z) ^ 2 + 3 * (r.y + r.z) ^ 2 ≤ 4 * r.x ^ 2 → r.yz = 1800 ∧ r.span = 1000 * (r.y + r.z))

theorem shiftRow_sound : ∀ r ∈ shiftTable, ShiftRow.Sound r := by
  unfold ShiftRow.Sound
  decide +kernel

/-- The triple of a row as one number. -/
def shiftKey (r : ShiftRow) : Nat := 100 * r.x + 10 * r.y + r.z

/-- R71: the rows stand in the order of their triples, each triple once. -/
theorem shiftKeys_rise : (shiftTable.map shiftKey).Pairwise (· < ·) := by
  decide +kernel

theorem shiftRow_unique {q r : ShiftRow} (hq : q ∈ shiftTable) (hr : r ∈ shiftTable) (hx : q.x = r.x) (hy : q.y = r.y)
    (hz : q.z = r.z) : q = r := by
  have hkey : shiftKey q = shiftKey r := by rw [shiftKey, shiftKey, hx, hy, hz]
  have hrise := List.pairwise_iff_getElem.mp (List.pairwise_map.mp shiftKeys_rise)
  obtain ⟨i, hi, rfl⟩ := List.mem_iff_getElem.mp hq
  obtain ⟨j, hj, rfl⟩ := List.mem_iff_getElem.mp hr
  rcases Nat.lt_trichotomy i j with h | rfl | h
  · exact absurd hkey (Nat.ne_of_lt (hrise i j hi hj h))
  · rfl
  · exact absurd hkey (Nat.ne_of_gt (hrise j i hj hi h))

/-- R71: the rows of a greatest count. -/
def shiftGroup : Nat → List ShiftRow
  | 1 => shiftRows1 | 2 => shiftRows2 | 3 => shiftRows3 | 4 => shiftRows4 | 5 => shiftRows5 | 6 => shiftRows6
  | 7 => shiftRows7 | 8 => shiftRows8 | 9 => shiftRows9
  | _ => []

theorem mem_shiftGroup : ∀ r ∈ shiftTable, r ∈ shiftGroup r.x := by
  have hgroup : ∀ i ∈ List.range 10, ∀ r ∈ shiftGroup i, r.x = i := by decide +kernel
  intro r hr
  have hmem : ∃ i ∈ List.range 10, r ∈ shiftGroup i := by
    simp only [shiftTable, List.mem_append] at hr
    simp only [List.mem_range]
    rcases hr with (((((((h | h) | h) | h) | h) | h) | h) | h) | h
    · exact ⟨1, by omega, h⟩
    · exact ⟨2, by omega, h⟩
    · exact ⟨3, by omega, h⟩
    · exact ⟨4, by omega, h⟩
    · exact ⟨5, by omega, h⟩
    · exact ⟨6, by omega, h⟩
    · exact ⟨7, by omega, h⟩
    · exact ⟨8, by omega, h⟩
    · exact ⟨9, by omega, h⟩
  obtain ⟨i, hi, h⟩ := hmem
  rwa [hgroup i hi r h]

/-- R71: a row has one of the next greatest count beside it, of no smaller span. -/
theorem shiftGroup_next {i : Nat} (h1 : 1 ≤ i) (h9 : i < 9) :
    ∀ r ∈ shiftGroup i, ∃ q ∈ shiftGroup (i + 1), q.y = r.y ∧ q.z = r.z ∧ r.span ≤ q.span := by
  have h : ∀ i ∈ List.range 8, ∀ r ∈ shiftGroup (i + 1), ∃ q ∈ shiftGroup (i + 2), q.y = r.y ∧ q.z = r.z ∧ r.span ≤ q.span := by
    decide +kernel
  obtain ⟨j, rfl⟩ : ∃ j, i = j + 1 := ⟨i - 1, by omega⟩
  exact h j (List.mem_range.mpr (by omega))

/-- R71: among rows of one greatest count the span does not decrease with the other two. -/
theorem shiftGroup_mono {i : Nat} (h9 : i ≤ 9) :
    ∀ q ∈ shiftGroup i, ∀ r ∈ shiftGroup i, q.y ≤ r.y → q.z ≤ r.z → q.span ≤ r.span := by
  have h : ∀ i ∈ List.range 10, ∀ q ∈ shiftGroup i, ∀ r ∈ shiftGroup i, q.y ≤ r.y → q.z ≤ r.z → q.span ≤ r.span := by
    decide +kernel
  exact h i (List.mem_range.mpr (by omega))

/-- R71: a row has one of every greater greatest count beside it, of no smaller span. -/
theorem shiftGroup_climb {i : Nat} (h1 : 1 ≤ i) : ∀ {j : Nat}, i + j ≤ 9 →
    ∀ r ∈ shiftGroup i, ∃ q ∈ shiftGroup (i + j), q.y = r.y ∧ q.z = r.z ∧ r.span ≤ q.span
  | 0, _ => fun r hr => ⟨r, hr, rfl, rfl, Nat.le_refl _⟩
  | j + 1, h9 => by
    intro r hr
    obtain ⟨q, hq, hy, hz, hspan⟩ := shiftGroup_climb h1 (j := j) (by omega) r hr
    obtain ⟨p, hp, hy', hz', hspan'⟩ := shiftGroup_next (i := i + j) (by omega) (by omega) q hq
    exact ⟨p, hp, hy'.trans hy, hz'.trans hz, Nat.le_trans hspan hspan'⟩

/-- Settles O34: the rows one by one, their order, and the spans along the groups. -/
theorem shiftTableHasItsProperties : Obligations.ShiftTableHasItsProperties := by
  refine ⟨rfl, shiftRow_sound, fun q hq r hr => shiftRow_unique hq hr, fun q hq r hr hx hy hz => ?_⟩
  obtain ⟨hz1, hzy, hyx, -⟩ := shiftRow_sound q hq
  obtain ⟨-, -, -, hx9, -⟩ := shiftRow_sound r hr
  obtain ⟨p, hp, hpy, hpz, hspan⟩ := shiftGroup_climb (i := q.x) (by omega) (j := r.x - q.x) (by omega) q
    (mem_shiftGroup q hq)
  rw [show q.x + (r.x - q.x) = r.x by omega] at hp
  exact Nat.le_trans hspan (shiftGroup_mono hx9 p hp r (mem_shiftGroup r hr) (by omega) (by omega))

end Sys2Proof.Proofs

/-! # The walk

PROOFS about a walk's start and its reads (R63, R64). -/

namespace Sys2Proof.Proofs

open Sys2Proof.Machine Sys2Proof.Safety

/-- R64: a position is added to its own phase's list. -/
theorem addPosition_get (p k : Nat) (x : Abc (List Nat)) : (addPosition p k x).get p = x.get p ++ [k] := by
  unfold addPosition Abc.get
  split
  · rfl
  · split <;> rfl

/-- R64: one read of the walk before its last entry and at it. -/
theorem walkOne_eq {i : Nat} {e : RosterEntry} {s : State} (hi : s.plan.cursor = i) (he : s.entryAt i = e) :
    s.walkOne = s.onPlan fun u =>
      { u with
        cursor := i + 1, tallies := classify s.params.cells i s.silenceAge e u.tallies
        build := if 3 * s.params.cells < i + 1 then .finishing else u.build
        walkEnd := if 3 * s.params.cells < i + 1 then s.now else u.walkEnd
        candidate := if 3 * s.params.cells < i + 1 then
          u.candidate.map fun c => { c with sourceDigest := s.roster.digest } else u.candidate } := by
  subst hi he
  unfold State.walkOne
  refine congrArg (fun f => s.onPlan f) (funext fun u => ?_)
  dsimp only
  split <;> rfl

/-- R63: the moment of a walk's start in SETTLING. -/
theorem exec_buildStart {t : Time} {s : State} (hr : s.runs = true) (hv : s.store.valid = true)
    (hp : s.round.phase = .settling) (hb : s.plan.build = .none) :
    exec (.buildStart t) s = .next ((s.advance t).when (s.advance t).digestStable State.startWalk) := by
  refine (State.runAt_runs hr).trans (congrArg _ ?_)
  simp [hv, hp, hb]

theorem exec_walkRead {t : Time} {s : State} (hr : s.runs = true) (hb : s.plan.build = .walking) :
    exec (.walkRead t) s = .next (s.advance t).walkOne := by
  refine (State.runAt_runs hr).trans (congrArg _ ?_)
  simp [hb]

/-- Settles O31: the walk's start when the digest stands and before; a read by the entry's condition. -/
theorem walkReadsRosterInOrder : Obligations.WalkReadsRosterInOrder := by
  refine ⟨fun t s hr hv hp hb => ?starts, fun t e s hr hb h1 he => ?reads⟩
  case starts =>
    rw [exec_buildStart hr hv hp hb]
    refine ⟨fun hstable => ⟨Plan.begun s.round.epoch 0, ?_, rfl, rfl⟩, fun hnot => ?_⟩
    · have h : (s.advance t).digestStable = true := decide_eq_true hstable
      have hrevision : (s.advance t).buildRevision = 0 := by simp [State.buildRevision, hp]
      rw [h, State.when_true, State.startWalk, hrevision]
      rfl
    · have h : (s.advance t).digestStable = false := decide_eq_false (Nat.not_le.mpr hnot)
      rw [h, State.when_false]
  case reads =>
    refine ⟨_, exec_walkRead hr hb, ?_⟩
    rw [walkOne_eq (s := s.advance t) rfl (entryAt_of_getElem? he)]
    refine ⟨rfl, rfl, rfl, fun hc => ?_, fun hc => ?_, fun hc => ?_, fun hc => ?_, fun hlt => ?_, fun heq => ?_⟩
    · simp only [State.onPlan_plan, classify, hc]
      exact ⟨rfl, addPosition_get ..⟩
    · rcases hc with hc | hc <;> simp only [State.onPlan_plan, classify, hc] <;> rfl
    · simp only [State.onPlan_plan, classify, hc]
      rfl
    · simp only [State.onPlan_plan, classify, hc]
      rfl
    · have h : ¬3 * (s.advance t).params.cells < s.plan.cursor + 1 := by
        show ¬3 * s.params.cells < _
        omega
      exact ⟨(if_neg h).trans hb, if_neg h⟩
    · have h : 3 * (s.advance t).params.cells < s.plan.cursor + 1 := by
        show 3 * s.params.cells < _
        omega
      exact ⟨if_pos h, if_pos h, if_pos h⟩

end Sys2Proof.Proofs

/-! # The phase timers

PROOFS about the SETTLE, AGREE and ARM timers (R44, R45, R48, R51), the dwell (R42), and the REVISE timer (R93). -/

namespace Sys2Proof.Proofs

open Sys2Proof.Machine Sys2Proof.Safety

/-- R45: what a counted resettle makes of the round. -/
theorem resettle_round {s : State} (h : s.round.resettle ≤ s.params.resettle) :
    s.resettle.round.resettle = s.round.resettle + 1 ∧ s.resettle.round.epoch = s.round.epoch ∧
    (s.round.resettle + 1 ≤ s.params.resettle → s.resettle.round.phase = .settling ∧
      s.resettle.round.phaseTimer = some (s.now + 1000 * s.params.settle)) ∧
    (s.params.resettle < s.round.resettle + 1 → s.resettle.round.phase = .lockout ∧
      s.resettle.round.phaseTimer = none) := by
  have hmin : min (s.round.resettle + 1) (s.params.resettle + 1) = s.round.resettle + 1 := by omega
  unfold State.resettle
  simp only [State.onRound_round, hmin]
  split
  next hover =>
    rw [State.enterBase_round]
    exact ⟨hmin, rfl, fun hin => absurd hover (by omega), fun _ => ⟨rfl, rfl⟩⟩
  next hin =>
    rw [State.enterBase_round]
    exact ⟨hmin, rfl, fun _ => ⟨rfl, rfl⟩, fun hover => absurd hover hin⟩

/-- R30: a phase's timer run out. -/
theorem phaseExpires_of_due {p : Phase} {t d : Time} {s : State} (hp : s.round.phase = p)
    (hd : s.round.phaseTimer = some d) (hdue : d ≤ max s.now t) : (s.advance t).phaseExpires p = true := by
  simp [State.phaseExpires, hp, hd, due, hdue]

section
variable {t d : Time} {s : State} (hr : s.runs = true) (hd : s.round.phaseTimer = some d) (hdue : d ≤ max s.now t)
include hr hd hdue

theorem exec_settleExpiry (hp : s.round.phase = .settling) :
    exec (.settleExpiry t) s = .next
      (if (s.advance t).present then (s.advance t).resettle else (s.advance t).restartSettle) := by
  refine (State.runAt_runs hr).trans (congrArg _ ?_)
  rw [phaseExpires_of_due hp hd hdue, State.when_true]

theorem exec_agreeExpiry (hp : s.round.phase = .planning) : exec (.agreeExpiry t) s = .next (s.advance t).resettle := by
  refine (State.runAt_runs hr).trans (congrArg _ ?_)
  rw [phaseExpires_of_due hp hd hdue, State.when_true]

theorem exec_armExpiry (hp : s.round.phase = .arming) : exec (.armExpiry t) s = .next (s.advance t).resettle := by
  refine (State.runAt_runs hr).trans (congrArg _ ?_)
  rw [phaseExpires_of_due hp hd hdue, State.when_true]

theorem exec_dwellExpiry (hp : s.round.phase = .tripped) :
    exec (.dwellExpiry t) s = .next ((s.advance t).enterBase .settling) := by
  refine (State.runAt_runs hr).trans (congrArg _ ?_)
  rw [phaseExpires_of_due hp hd hdue, State.when_true, State.enter_of_stays _ _ rfl]
  rfl

theorem exec_reviseExpiry (hp : s.round.phase = .revising) :
    exec (.reviseExpiry t) s = .next (s.advance t).abandonRevision := by
  refine (State.runAt_runs hr).trans (congrArg _ ?_)
  rw [phaseExpires_of_due hp hd hdue, State.when_true]

end

/-- R26: the entry to SETTLING from TRIPPED queues a SUMMARY. -/
theorem enterBase_settling_summary {s : State} (hp : s.round.phase = .tripped) (hd : s.bus.duplicate = false)
    (hf : s.fitted = true) (hq : RoomLeft s.bus.queue) :
    ∃ g ∈ (s.enterBase .settling).bus.queue, g.body = .summary := by
  have hbus : ∀ r : State, (r.walkOnEntry .settling).bus = r.bus := fun r => by simp
  have hround : ∀ r : State, (r.blocksOnEntry .settling).round = r.round.onEntry r.now r.params .settling := fun r => by
    simp [State.blocksOnEntry]
  unfold State.enterBase
  rw [hbus]
  have hblocks : ∀ r : State, r.bus.duplicate = false → r.fitted = true → RoomLeft r.bus.queue →
      ∃ g ∈ ((r.blocksOnEntry .settling).framesOnEntry s.round.phase .settling).bus.queue, g.body = .summary := by
    intro r hd hf hq
    have hframes : ∀ q : State, q.framesOnEntry s.round.phase .settling = q.queueState.queueSummary := fun q => by
      rw [hp]
      rfl
    have hphase : (r.blocksOnEntry .settling).queueState.round.phase = .settling := by
      rw [State.queueState, (State.enqueue_frame ..).2.2.2.2.1, hround]
      rfl
    rw [hframes]
    refine mem_queueSummary (by rw [hphase]; rfl) ?_ (roomLeft_enqueue (.inl rfl) (by rwa [blocksOnEntry_bus]))
    rw [barred_inside (by rw [hphase]; rfl), fitted_congr (s := r) (by simp [State.queueState]), hf]
    simpa using hd
  refine hblocks _ (by simpa using hd) ((fitted_congr (by simp)).trans hf) ?_
  have hleft : ((((s.leaveArming .settling).leaveCatching).leaveRevising).contextOnEntry .settling).bus =
      (s.leaveArming .settling).bus := by simp
  rw [hleft]
  exact roomLeft_leaveArming .settling hq

/-- Settles O29: the counted resettles, the SETTLE timer without the line station, and the dwell. -/
theorem phaseTimersExpire : Obligations.PhaseTimersExpire := by
  refine ⟨⟨fun t d s hr hd hdue hcount c hc => ?resettles, fun t d s hr hp hd hdue hpresent => ?restarts⟩,
    fun t d s hr hp hd hdue => ?dwells⟩
  case resettles =>
    have hexec : exec c s = .next (s.advance t).resettle := by
      rcases hc with ⟨rfl, hp, hpresent⟩ | ⟨rfl, hp⟩ | ⟨rfl, hp⟩
      · rw [exec_settleExpiry hr hd hdue hp, hpresent, if_pos rfl]
      · exact exec_agreeExpiry hr hd hdue hp
      · exact exec_armExpiry hr hd hdue hp
    exact ⟨_, hexec, resettle_round (s := s.advance t) hcount⟩
  case restarts =>
    rw [exec_settleExpiry hr hd hdue hp, hpresent, if_neg Bool.false_ne_true]
    rfl
  case dwells =>
    refine ⟨_, exec_dwellExpiry hr hd hdue hp, ?_⟩
    have hround := State.enterBase_round .settling (s.advance t)
    refine ⟨by rw [hround]; rfl, by rw [hround]; rfl, by rw [hround]; rfl, by rw [hround]; rfl, by rw [hround]; rfl,
      fun hdup hf hq => ?_⟩
    obtain ⟨g, hg, hbody⟩ := enterBase_settling_summary (s := s.advance t) hp hdup hf (.inl hq)
    exact ⟨g, hg, by rw [hbody]; rfl⟩

/-! ## The REVISE timer -/

/-- R93: the state in which a revision is abandoned. -/
def revisionDropped (s : State) : State := s.onPlan fun u => { u.discard with switchRecord := none }

/-- R51: outside ARMING a phase stands where it makes no transition. -/
theorem settleEntry_stands {n : Nat} {s : State} (h : s.entryTransition = none) (hp : s.round.phase ≠ .arming) :
    s.settleEntry (n + 1) = s := by
  have hrefusal : s.cellRefusal = s := by
    rw [State.cellRefusal, beq_eq_false_iff_ne.mpr hp, Bool.false_and, Bool.false_and, State.when_false]
  rw [State.settleEntry, h]
  exact hrefusal

/-- R93: RUNNING again, with no further transition. -/
theorem enter_running_stays {s : State} (hp : s.round.phase = .revising) (hrun : s.round.facts.runReq = true)
    (hd : s.round.deferred = false) : s.enter .running = s.enterBase .running := by
  have hround := State.enterBase_round .running s
  have hcommands : ∀ r : State, r.commandsOnEntry .revising .running = r := by
    intro r
    have hno : r.releaseRises .revising = false := by
      rw [State.releaseRises, show Phase.revising.drives = true from rfl, Bool.not_true, Bool.and_false, Bool.false_and,
        Bool.false_and]
    rw [State.commandsOnEntry, hno, State.when_false]
  have hnone : (s.enterBase .running).entryTransition = none := by
    unfold State.entryTransition
    rw [hround]
    simp [Round.onEntry, hrun, hd, deferredAfter]
  rw [State.enter, State.enterPhase, hp, hcommands, show entryFuel = 7 + 1 from rfl,
    settleEntry_stands hnone (by rw [hround]; simp [Round.onEntry])]

/-- R30: an entry to RUNNING from REVISING, block by block. -/
theorem enterBase_running_of_revising {s : State} (hp : s.round.phase = .revising) :
    s.enterBase .running = (s.leaveRevising.blocksOnEntry .running).framesOnEntry .revising .running := by
  have hwalk : ∀ r : State, r.walkOnEntry .running = r := fun _ => rfl
  have harming : s.leaveArming .running = s := by
    rw [State.leaveArming, beq_eq_false_iff_ne.mpr (by simp [hp]), State.when_false]
  have hcatching : s.leaveCatching = s := by
    rw [State.leaveCatching, beq_eq_false_iff_ne.mpr (by simp [hp]), State.when_false]
  have hcontext : ∀ r : State, r.contextOnEntry .running = r := fun _ => rfl
  rw [State.enterBase, hwalk, harming, hcatching, hcontext, hp]

/-- R85, R177: the Line Port after an entry to RUNNING from REVISING. -/
theorem enterBase_running_port {s : State} (hp : s.round.phase = .revising) (hl : s.isLine = true) :
    (s.enterBase .running).port = s.withdrawSwitch.port := by
  have hport : ∀ r : State, (r.blocksOnEntry .running).port = r.port := fun r => by
    simp [State.blocksOnEntry, Phase.clearsPlan]
  have hleave : s.leaveRevising = s.withdrawSwitch := by
    rw [State.leaveRevising, hp, hl]
    exact State.when_true ..
  have hframes : ∀ (p0 p : Phase) (r : State), (r.framesOnEntry p0 p).port = r.port := fun p0 p r => by simp
  rw [enterBase_running_of_revising hp, hleave, hframes, hport]

/-- R93: what the return to RUNNING leaves. -/
theorem enterBase_running_holds {s : State} (hp : s.round.phase = .revising) :
    (s.enterBase .running).plan = s.plan ∧
    (s.isLine = true → (s.enterBase .running).port.switchPending = none ∧ (s.enterBase .running).port.presented = none) := by
  have hplan : ∀ r : State, (r.blocksOnEntry .running).plan = r.plan := fun r => by
    simp [State.blocksOnEntry, PlanUnit.onEntry, Phase.clearsPlan, Phase.drives]
  refine ⟨?_, fun hl => ?_⟩
  · rw [enterBase_running_of_revising hp]
    simp [hplan]
  · have hpresented : s.withdrawSwitch.port.presented = none := by
      simp only [State.withdrawSwitch, State.changeRecord, State.onPort_port]
      split <;> rfl
    rw [enterBase_running_port hp hl, hpresented]
    exact ⟨rfl, rfl⟩

/-- R8: a station that owns an entry is fitted. -/
theorem fitted_of_ownEntry {e : RosterEntry} {s : State} (h : s.ownEntry = some e) : s.fitted = true := by
  unfold State.ownEntry State.ownIndex at h
  split at h
  next hc =>
    simp only [Bool.and_eq_true] at hc
    exact hc.1.2
  next => simp at h

/-- R81: the standing follows from the entries, the store and the plan in force. -/
theorem standing_congr {r s : State} (he : r.roster.entries = s.roster.entries) (hs : r.store = s.store)
    (hp : r.plan.inForce = s.plan.inForce) : r.ownEntry = s.ownEntry ∧ r.standing = s.standing := by
  have hown : r.ownEntry = s.ownEntry := by
    rw [State.ownEntry, State.ownEntry, State.ownIndex_congr hs]
    exact congrArg (fun g => Option.map g s.ownIndex) (funext (State.entryAt_congr he))
  refine ⟨hown, ?_⟩
  rw [State.standing, State.standing, hown, State.cellRole, State.cellRole, hp, hs]

theorem ownEntry_of_withdrawing {s : State} (h : s.standing = .withdrawing) : ∃ e, s.ownEntry = some e := by
  unfold State.standing at h
  split at h
  next e he => exact ⟨e, he⟩
  next => simp at h

/-- R93, R94: a withdrawing cell's alarm, and none of another standing. -/
theorem escalate_withdrawing {e : RosterEntry} {s : State} (he : s.ownEntry = some e) (h : s.standing = .withdrawing)
    (hp : s.round.phase.drives = true) : s.escalate = s.localAlarm e.cls := by
  rw [State.escalate, he]
  simp only [h, hp, beq_self_eq_true, Bool.and_self, State.when_true]

theorem escalate_not {s : State} (h : s.standing ≠ .withdrawing) : s.escalate = s := by
  unfold State.escalate
  split
  · rw [beq_eq_false_iff_ne.mpr h, Bool.false_and, State.when_false]
  · rfl

/-- R94: what a withdrawing cell's alarm makes of RUNNING and REVISING. -/
theorem escalate_holds {e : RosterEntry} {s : State} (he : s.ownEntry = some e) (h : s.standing = .withdrawing)
    (hp : s.round.phase.drives = true) : AlarmTaken s e.cls s.escalate := by
  rw [escalate_withdrawing he h hp]
  refine localAlarm_taken _ ?_
  revert hp
  cases s.round.phase <;> simp [Phase.drives, Phase.dropsAlarm]

/-- Settles O30: RUNNING again, and a withdrawing cell's alarm from there. -/
theorem reviseExpiryAbandonsRevision : Obligations.ReviseExpiryAbandonsRevision := by
  intro t d s hr hp hd hdue hrun hdef
  have hrunning : ((revisionDropped (s.advance t)).enter .running) =
      (revisionDropped (s.advance t)).enterBase .running := enter_running_stays hp hrun hdef
  obtain ⟨hplan, hport⟩ := enterBase_running_holds (s := revisionDropped (s.advance t)) hp
  obtain ⟨⟨hentries, -⟩, -⟩ := enterBase_roster .running (revisionDropped (s.advance t))
  have hround := State.enterBase_round .running (revisionDropped (s.advance t))
  have hroom : RoomLeft s.bus.queue → RoomLeft ((revisionDropped (s.advance t)).enterBase .running).bus.queue :=
    roomLeft_enterBase (s := revisionDropped (s.advance t)) .running
  have hstore : ((revisionDropped (s.advance t)).enterBase .running).store = s.store :=
    (State.enterBase_frame .running (revisionDropped (s.advance t))).2.2.2.1
  have hdup : ((revisionDropped (s.advance t)).enterBase .running).bus.duplicate = s.bus.duplicate := by
    simp [revisionDropped]
  have hexec : exec (.reviseExpiry t) s =
      .next ((revisionDropped (s.advance t)).enterBase .running).escalate :=
    (exec_reviseExpiry hr hd hdue hp).trans (congrArg Host.Outcome.next (congrArg State.escalate hrunning))
  generalize (revisionDropped (s.advance t)).enterBase .running = r at *
  obtain ⟨hown, hstanding⟩ := standing_congr (s := s) hentries hstore (by rw [hplan]; rfl)
  have hphase : r.round.phase = .running := by rw [hround]; rfl
  refine ⟨fun hnot => ⟨_, hexec, ?_⟩, fun hwithdraws => ⟨_, hexec, ?_⟩⟩
  · rw [escalate_not (by rwa [hstanding])]
    refine ⟨hphase, by rw [hround]; rfl, by rw [hplan]; rfl, by rw [hplan]; rfl, by rw [hplan]; rfl, by rw [hplan]; rfl,
      fun hl => hport hl⟩
  · obtain ⟨e, he⟩ := ownEntry_of_withdrawing hwithdraws
    have htaken := escalate_holds (hown.trans he) (hstanding.trans hwithdraws) (by rw [hphase]; rfl)
    refine ⟨by rw [htaken.epoch, hround]; rfl, htaken.phase, htaken.inForce, htaken.candidate, htaken.record,
      State.gateEn_of_phase ?_, fun e' he' hdup' hq => ?_⟩
    · rcases htaken.phase with h | h <;> rw [h] <;> rfl
    · obtain rfl : e = e' := Option.some.inj (he.symm.trans he')
      obtain ⟨g, hg, hbody⟩ := htaken.frame (hdup.trans hdup')
        ((fitted_congr hstore).trans (fitted_of_ownEntry he)) (hroom (.inl hq))
      exact ⟨g, hg, by rw [hbody, hphase, number_congr hstore]⟩

end Sys2Proof.Proofs

/-! # Trips of the line station

PROOFS about the restart state at an entry of the line station to TRIPPED and LOCKOUT (R99 to R101, R113) and about the drive
trip (R33, R35, R174). -/

namespace Sys2Proof.Proofs

open Sys2Proof.Machine Sys2Proof.Safety

/-! ## The release record cleared -/

/-- R177, R178: the port after the record in force is cleared. -/
theorem clearRecord_port {s : State} (hl : s.isLine = true) :
    s.clearRecord.port.record = ReleaseRecord.cleared ∧ s.clearRecord.port.presented = s.port.presented ∧
    (s.port.rready = true → s.clearRecord.port.rready = true) ∧
    (s.port.presented = none → s.port.record ≠ ReleaseRecord.cleared → s.clearRecord.port.rready = true) := by
  simp only [State.clearRecord, hl, State.when_true, State.changeRecord, State.onPort_port]
  split
  next hsame =>
    refine ⟨rfl, rfl, id, fun hp hne => ?_⟩
    simp only [Port.onLso, hp, Option.getD_none] at hsame
    exact absurd hsame.symm hne
  next => exact ⟨rfl, rfl, fun _ => rfl, fun _ _ => rfl⟩

/-- R178: the port with its record cleared: a change of the content on LSO has set RREADY. -/
def RecordCleared (p q : Port) : Prop :=
  q.record = ReleaseRecord.cleared ∧ (p.presented = none → q.presented = none) ∧
  (p.presented = none → p.record ≠ ReleaseRecord.cleared → q.rready = true)

theorem recordCleared_clearRecord {s : State} (hl : s.isLine = true) : RecordCleared s.port s.clearRecord.port := by
  obtain ⟨hrecord, hpresented, -, hready⟩ := clearRecord_port hl
  exact ⟨hrecord, fun h => hpresented.trans h, hready⟩

/-- R177: a record cleared is cleared again. -/
theorem RecordCleared.again {p : Port} {s : State} (hl : s.isLine = true) (h : RecordCleared p s.port) :
    RecordCleared p s.clearRecord.port := by
  obtain ⟨-, hpresented, hready⟩ := h
  obtain ⟨hrecord', hpresented', hkeeps, -⟩ := clearRecord_port hl
  exact ⟨hrecord', fun h => hpresented'.trans (hpresented h), fun h hne => hkeeps (hready h hne)⟩

/-! ## A phase left -/

/-- R110, R132, R177: the station as it leaves its phase for `p`. -/
def phaseLeft (p : Phase) (s : State) : State := ((s.leaveArming p).leaveCatching).leaveRevising

/-- R177: leaving a phase keeps what was sampled, and the record. -/
theorem phaseLeft_port (p : Phase) (s : State) :
    (phaseLeft p s).port.status = s.port.status ∧ (phaseLeft p s).port.dir = s.port.dir ∧
    (phaseLeft p s).port.overhaul = s.port.overhaul ∧ (phaseLeft p s).port.brakeOpen = s.port.brakeOpen ∧
    (phaseLeft p s).port.record = s.port.record ∧
    (s.port.presented = none → (phaseLeft p s).port.presented = none) := by
  have harming : (s.leaveArming p).port.status = s.port.status ∧ (s.leaveArming p).port.dir = s.port.dir ∧
      (s.leaveArming p).port.overhaul = s.port.overhaul ∧ (s.leaveArming p).port.brakeOpen = s.port.brakeOpen ∧
      (s.leaveArming p).port.record = s.port.record ∧ (s.leaveArming p).port.presented = s.port.presented := by
    unfold State.leaveArming State.when
    dsimp only
    repeat' split
    all_goals simp [State.withdrawSteps]
  have hcatching : (s.leaveArming p).leaveCatching.port = (s.leaveArming p).port := by simp
  have hrevising : ∀ r : State, r.leaveRevising.port.status = r.port.status ∧ r.leaveRevising.port.dir = r.port.dir ∧
      r.leaveRevising.port.overhaul = r.port.overhaul ∧ r.leaveRevising.port.brakeOpen = r.port.brakeOpen ∧
      r.leaveRevising.port.record = r.port.record ∧
      (r.port.presented = none → r.leaveRevising.port.presented = none) := by
    intro r
    unfold State.leaveRevising State.when
    split
    · simp only [State.withdrawSwitch, State.changeRecord, State.onPort_port]
      split <;> exact ⟨rfl, rfl, rfl, rfl, rfl, fun _ => rfl⟩
    · exact ⟨rfl, rfl, rfl, rfl, rfl, id⟩
  obtain ⟨a1, a2, a3, a4, a5, a6⟩ := harming
  obtain ⟨b1, b2, b3, b4, b5, b6⟩ := hrevising (s.leaveArming p).leaveCatching
  rw [hcatching] at b1 b2 b3 b4 b5 b6
  exact ⟨b1.trans a1, b2.trans a2, b3.trans a3, b4.trans a4, b5.trans a5, fun h => b6 (a6.trans h)⟩

/-- R110: leaving a phase abandons a catch at most. -/
theorem phaseLeft_catcher (p : Phase) (s : State) :
    (phaseLeft p s).catcher.context = s.catcher.context ∧ (phaseLeft p s).catcher.budget = s.catcher.budget ∧
    (phaseLeft p s).catcher.budgetTimer = s.catcher.budgetTimer := by
  have habandon : ∀ r : State, r.abandonCatch.catcher.context = r.catcher.context ∧
      r.abandonCatch.catcher.budget = r.catcher.budget ∧ r.abandonCatch.catcher.budgetTimer = r.catcher.budgetTimer := by
    intro r
    unfold State.abandonCatch State.when
    split <;> exact ⟨rfl, rfl, rfl⟩
  have hleave : (phaseLeft p s).catcher = (s.leaveArming p).leaveCatching.catcher := by simp [phaseLeft]
  have harming : (s.leaveArming p).catcher = s.catcher := by simp
  rw [hleave, ← harming]
  exact when_keeps (P := fun r : State => r.catcher.context = (s.leaveArming p).catcher.context ∧
    r.catcher.budget = (s.leaveArming p).catcher.budget ∧
    r.catcher.budgetTimer = (s.leaveArming p).catcher.budgetTimer) ⟨rfl, rfl, rfl⟩ fun _ => habandon _

/-- R30: an entry as the phase left, the trip context, and the blocks. -/
theorem enterBase_port_catcher (p : Phase) (s : State) :
    (s.enterBase p).port = (((phaseLeft p s).contextOnEntry p).blocksOnEntry p).port ∧
    (s.enterBase p).catcher = (((phaseLeft p s).contextOnEntry p).blocksOnEntry p).catcher := by
  have hwalk : ∀ r : State, (r.walkOnEntry p).port = r.port ∧ (r.walkOnEntry p).catcher = r.catcher := fun r => by simp
  have hframes : ∀ (p0 : Phase) (r : State), (r.framesOnEntry p0 p).port = r.port ∧
      (r.framesOnEntry p0 p).catcher = r.catcher := fun p0 r => by simp
  unfold State.enterBase
  rw [(hwalk _).1, (hwalk _).2, (hframes ..).1, (hframes ..).2]
  exact ⟨rfl, rfl⟩

/-! ## TRIPPED -/

/-- R101: the Catch Unit set anew, its budget aside. -/
def restartCleared (e : Half) (x : CatchUnit) : CatchUnit :=
  ({ x with crossings := [], entered := 0, clearances := 0 }).resetRecord e

/-- R99, R110: the station with the trip context taken and its catch abandoned. -/
def contextTaken (s : State) : State := (s.onCatcher fun c => { c with context := s.tripContext }).abandonCatch

theorem saveContext_eq {s : State} (hl : s.isLine = true) :
    s.saveContext = ((contextTaken s).onCatcher fun c => (restartCleared (contextTaken s).round.epoch c).budgetTripped
      (contextTaken s).now (ms (contextTaken s).params.budget) c.context.brakeOpen).clearRecord := by
  rw [State.saveContext, hl, State.when_true]
  rfl

theorem contextTaken_catcher {s : State} (hl : s.isLine = true) :
    (contextTaken s).catcher.context = s.tripContext ∧ (contextTaken s).catcher.active = false ∧
    (contextTaken s).catcher.budget = s.catcher.budget ∧
    (contextTaken s).catcher.budgetTimer = s.catcher.budgetTimer := by
  unfold contextTaken State.abandonCatch State.when
  split
  next => exact ⟨rfl, rfl, rfl, rfl⟩
  next hno => exact ⟨rfl, by simpa [hl] using hno, rfl, rfl⟩

@[simp] theorem contextTaken_frame (s : State) :
    (contextTaken s).round = s.round ∧ (contextTaken s).now = s.now ∧ (contextTaken s).store = s.store ∧
    (contextTaken s).port = s.port := by
  simp [contextTaken]

/-- R99, R101: the trip context saved at the line station. -/
theorem saveContext_holds {s : State} (hl : s.isLine = true) :
    s.saveContext.catcher = (restartCleared s.round.epoch (contextTaken s).catcher).budgetTripped s.now
      (ms s.params.budget) s.tripContext.brakeOpen ∧ RecordCleared s.port s.saveContext.port := by
  obtain ⟨hround, hnow, hstore, hport⟩ := contextTaken_frame s
  have hcontext := (contextTaken_catcher hl).1
  have hparams : (contextTaken s).params = s.params := State.params_congr hstore
  have hclear : ∀ r : State, r.clearRecord.catcher = r.catcher := fun r => by simp
  rw [saveContext_eq hl]
  generalize contextTaken s = q at *
  refine ⟨?_, ?_⟩
  · rw [hclear, State.onCatcher_catcher, hround, hnow, hparams]
    exact congrArg (fun k : TripContext => (restartCleared s.round.epoch q.catcher).budgetTripped s.now
      (ms s.params.budget) k.brakeOpen) hcontext
  · rw [← hport]
    exact recordCleared_clearRecord (s := q.onCatcher _) ((isLine_congr hstore).trans hl)

/-- R113: the budget at an entry to TRIPPED. -/
theorem budgetTripped_holds (e : Half) (now budget : Time) (brakeOpen : Bool) (x : CatchUnit) :
    ∀ r : CatchUnit, r = (restartCleared e x).budgetTripped now budget brakeOpen →
    r.context = x.context ∧ r.active = x.active ∧ r.crossings = [] ∧ r.entered = 0 ∧ r.clearances = 0 ∧ r.retire = 0 ∧
    r.record = ⟨some e, if x.budget = .spent then .expired else .none, 0, none, 0, false⟩ ∧
    (x.budget = .idle → brakeOpen = false → r.budget = .idle) ∧
    (x.budget = .idle → brakeOpen = true → r.budget = .running ∧ r.budgetTimer = some (now + budget)) ∧
    (x.budget = .running → r.budget = .running ∧ r.budgetTimer = x.budgetTimer) ∧
    (x.budget = .spent → r.budget = .spent ∧ r.overdue = false) := by
  rintro r rfl
  have hcleared : (restartCleared e x).budget = x.budget := rfl
  unfold CatchUnit.budgetTripped
  cases hb : x.budget <;> rw [hcleared, hb]
  · cases brakeOpen <;> simp [restartCleared, CatchUnit.resetRecord, CatchRecord.blank, hb]
  · simp [restartCleared, CatchUnit.resetRecord, CatchRecord.blank, hb]
  · simp [restartCleared, CatchUnit.resetRecord, CatchRecord.blank, hb]

/-- R99, R100: the context saved from a state with the same samples. -/
theorem ContextSaved.congr {s q : State} {now : Time} {x : TripContext} (h : ContextSaved q now x)
    (hstatus : q.port.status = s.port.status) (hdir : q.port.dir = s.port.dir)
    (hoverhaul : q.port.overhaul = s.port.overhaul) (hbrake : q.port.brakeOpen = s.port.brakeOpen)
    (hstore : q.store = s.store) (hplan : q.plan.inForce = s.plan.inForce)
    (htrip : q.round.tripRound = s.round.tripRound) : ContextSaved s now x := by
  have hparams := State.params_congr hstore
  unfold ContextSaved TagHolds at *
  rwa [hstatus, hdir, hoverhaul, hbrake, hparams, hplan, htrip] at h

/-- R113: the Catch Unit through the blocks of an entry, at the line station. -/
theorem blocksOnEntry_catcher_line {p : Phase} {s : State} (hl : s.isLine = true) :
    (s.blocksOnEntry p).catcher = CatchUnit.onEntry s.round.epoch s.params.quietLimit p s.catcher := by
  rw [blocksOnEntry_catcher, hl, if_pos rfl]

theorem blocksOnEntry_port {p : Phase} {s : State} (hp : p.clearsPlan = true) :
    (s.blocksOnEntry p).port = (s.onPlan (PlanUnit.onEntry s.round.phase p)).clearRecord.port := by
  simp [State.blocksOnEntry, hp]

/-- R99 to R101, R113: an entry of the line station to TRIPPED sets its restart state anew. -/
theorem enterBase_tripped_restart {s : State} (hl : s.isLine = true) :
    RestartSetAnew s s.now s.round.epoch (s.enterBase .tripped) := by
  have hsame : (phaseLeft .tripped s).now = s.now ∧ (phaseLeft .tripped s).store = s.store ∧
      (phaseLeft .tripped s).round = s.round ∧ (phaseLeft .tripped s).plan = s.plan := by simp [phaseLeft]
  obtain ⟨hnow, hstore, hround, hplan⟩ := hsame
  obtain ⟨hstatus, hdir, hoverhaul, hbrake, hrecord, hpresented⟩ := phaseLeft_port .tripped s
  obtain ⟨-, hbudget, htimer⟩ := phaseLeft_catcher .tripped s
  obtain ⟨hport, hcatcher⟩ := enterBase_port_catcher .tripped s
  have hphase : (s.enterBase .tripped).round.phase = .tripped := by rw [State.enterBase_round]; rfl
  generalize phaseLeft .tripped s = q at *
  generalize s.enterBase .tripped = r at *
  have hl' : q.isLine = true := (isLine_congr hstore).trans hl
  have hparams : q.params = s.params := State.params_congr hstore
  obtain ⟨hcontext, hactive, hxbudget, hxtimer⟩ := contextTaken_catcher hl'
  obtain ⟨hsaved, hcleared⟩ := saveContext_holds hl'
  have hsaves : q.contextOnEntry .tripped = q.saveContext := rfl
  have hlsaved : q.saveContext.isLine = true := (isLine_congr (by simp)).trans hl'
  rw [hsaves, blocksOnEntry_catcher_line hlsaved] at hcatcher
  replace hcatcher : r.catcher = q.saveContext.catcher := hcatcher
  rw [hsaves, blocksOnEntry_port rfl] at hport
  obtain ⟨hclear, -, hready⟩ := RecordCleared.again
    (s := q.saveContext.onPlan (PlanUnit.onEntry q.saveContext.round.phase .tripped)) hlsaved hcleared
  obtain ⟨c1, c2, c3, c4, c5, c6, c7, c8, c9, c10, c11⟩ := budgetTripped_holds q.round.epoch q.now (ms q.params.budget)
    q.tripContext.brakeOpen (contextTaken q).catcher _ hsaved
  rw [← hcatcher] at c1 c2 c3 c4 c5 c6 c7 c8 c9 c10 c11
  rw [hxbudget, hbudget] at c7 c8 c9 c10 c11
  have hopen : q.tripContext.brakeOpen = sampledAsserted s.port.brakeOpen := by rw [← hbrake]; rfl
  rw [hopen] at c8 c9
  rw [hround] at c7
  refine ⟨?_, c2.trans hactive, c3, c4, c5, c6, c7, c8, fun h1 h2 => ?_, fun h => ?_, c11, ?_,
    fun h1 h2 => ?_, ?_⟩
  · rw [c1, hcontext, ← hnow]
    exact ContextSaved.congr (Laws.tripContext_saved q) hstatus hdir hoverhaul hbrake hstore (by rw [hplan]) (by rw [hround])
  · obtain ⟨h3, h4⟩ := c9 h1 h2
    exact ⟨h3, by rw [h4, hnow, hparams]; rfl⟩
  · obtain ⟨h1, h2⟩ := c10 h
    exact ⟨h1, h2.trans (hxtimer.trans htimer)⟩
  · rw [hport]
    exact hclear
  · rw [hport] at h2 ⊢
    exact hready (hpresented h1) (by rw [hrecord]; rwa [hclear] at h2)
  · rw [State.release, hphase]
    simp [Phase.drives]

/-- R99 to R101: the restart state read from states with the same samples, budget and records. -/
theorem RestartSetAnew.congr {s q r r' : State} {now : Time} {e : Half} (h : RestartSetAnew q now e r)
    (hstatus : q.port.status = s.port.status) (hdir : q.port.dir = s.port.dir)
    (hoverhaul : q.port.overhaul = s.port.overhaul) (hbrake : q.port.brakeOpen = s.port.brakeOpen)
    (hrecord : q.port.record = s.port.record) (hpresented : q.port.presented = s.port.presented)
    (hstore : q.store = s.store) (hplan : q.plan.inForce = s.plan.inForce)
    (htrip : q.round.tripRound = s.round.tripRound) (hbudget : q.catcher.budget = s.catcher.budget)
    (htimer : q.catcher.budgetTimer = s.catcher.budgetTimer) (hcatcher : r'.catcher = r.catcher)
    (hport : r'.port = r.port) (hrelease : r'.release = r.release) : RestartSetAnew s now e r' := by
  obtain ⟨hcontext, hrest⟩ := h
  refine ⟨hcatcher ▸ ContextSaved.congr hcontext hstatus hdir hoverhaul hbrake hstore hplan htrip, ?_⟩
  rw [hbrake, hrecord, hpresented, hbudget, htimer, State.params_congr hstore] at hrest
  rwa [hcatcher, hport, hrelease]

/-- R101, R113: an entry of the line station to LOCKOUT. -/
theorem enterBase_lockout_line {s : State} (hl : s.isLine = true) :
    (s.enterBase .lockout).catcher.context = s.catcher.context ∧ (s.enterBase .lockout).catcher.budget = .idle ∧
    (s.enterBase .lockout).catcher.budgetTimer = none ∧ (s.enterBase .lockout).catcher.overdue = false ∧
    (s.enterBase .lockout).catcher.retire = 0 ∧
    (s.enterBase .lockout).catcher.record = ⟨some s.round.epoch, .none, 0, none, 0, false⟩ ∧
    (s.enterBase .lockout).port.record = ReleaseRecord.cleared := by
  obtain ⟨hport, hcatcher⟩ := enterBase_port_catcher .lockout s
  obtain ⟨hcontext, -, -⟩ := phaseLeft_catcher .lockout s
  have hsame : (phaseLeft .lockout s).store = s.store ∧ (phaseLeft .lockout s).round = s.round := by simp [phaseLeft]
  obtain ⟨hstore, hround⟩ := hsame
  have hstays : ∀ r : State, r.contextOnEntry .lockout = r := fun _ => rfl
  rw [hstays] at hport hcatcher
  generalize phaseLeft .lockout s = q at *
  generalize s.enterBase .lockout = r at *
  have hl' : q.isLine = true := (isLine_congr hstore).trans hl
  rw [blocksOnEntry_catcher_line hl', hround] at hcatcher
  rw [blocksOnEntry_port rfl] at hport
  rw [hcatcher, hport, (clearRecord_port (s := q.onPlan (PlanUnit.onEntry q.round.phase .lockout)) hl').1, ← hcontext]
  exact ⟨rfl, rfl, rfl, rfl, rfl, rfl, rfl⟩

/-! ## The drive trip -/

/-- R33, R35: what a trip at the line station makes of its restart state, its record and its attempt list. -/
theorem takeTrip_line {s : State} (hl : s.isLine = true) {pruned : List Time}
    (hpruned : pruned = pruneAttempts s.now (sec s.params.window) s.round.attempts) :
    (pruned.length < s.params.rounds → s.takeTrip.round.phase = .tripped ∧ s.takeTrip.round.tripTime = some s.now ∧
      s.takeTrip.round.attempts = recordAttempt s.now pruned ∧
      RestartSetAnew s s.now s.round.epoch s.takeTrip) ∧
    (s.params.rounds ≤ pruned.length → s.takeTrip.round.phase = .lockout ∧ s.takeTrip.round.attempts = pruned ∧
      s.takeTrip.catcher.context = s.catcher.context ∧ s.takeTrip.catcher.budget = .idle ∧
      s.takeTrip.catcher.budgetTimer = none ∧ s.takeTrip.catcher.overdue = false ∧ s.takeTrip.catcher.retire = 0 ∧
      s.takeTrip.catcher.record = ⟨some s.round.epoch, .none, 0, none, 0, false⟩ ∧
      s.takeTrip.port.record = ReleaseRecord.cleared) := by
  subst hpruned
  refine ⟨fun h => ?_, fun h => ?_⟩
  · rw [State.takeTrip_tripped s h]
    have hround := State.enterBase_round .tripped (s.onRound fun r =>
      { r with attempts := recordAttempt s.now (pruneAttempts s.now (sec s.params.window) s.round.attempts) })
    refine ⟨by rw [hround]; rfl, by rw [hround]; rfl, by rw [hround]; rfl, ?_⟩
    exact RestartSetAnew.congr (enterBase_tripped_restart (s := s.onRound _) hl) rfl rfl rfl rfl rfl rfl rfl rfl rfl rfl
      rfl rfl rfl rfl
  · rw [State.takeTrip_lockout s h]
    have hround := State.enterBase_round .lockout (s.onRound fun r =>
      { r with attempts := pruneAttempts s.now (sec s.params.window) s.round.attempts })
    obtain ⟨h1, h2, h3, h4, h5, h6, h7⟩ := enterBase_lockout_line (s := s.onRound fun r =>
      { r with attempts := pruneAttempts s.now (sec s.params.window) s.round.attempts }) hl
    exact ⟨by rw [hround]; rfl, by rw [hround]; rfl, h1, h2, h3, h4, h5, h6, h7⟩

/-- R174: an entry to a phase leaves the sample of DRIVE_TRIP. -/
theorem enterBase_driveTrip (p : Phase) (s : State) : (s.enterBase p).port.driveTrip = s.port.driveTrip := by
  have hchange : ∀ (f : Port → Port) (r : State), (∀ q, (f q).driveTrip = q.driveTrip) →
      (r.changeRecord f).port.driveTrip = r.port.driveTrip := by
    intro f r hf
    simp only [State.changeRecord, State.onPort_port]
    split <;> exact hf _
  have hclear : ∀ r : State, r.clearRecord.port.driveTrip = r.port.driveTrip := fun r =>
    when_keeps (P := fun q : State => q.port.driveTrip = r.port.driveTrip) rfl fun _ => hchange _ _ fun _ => rfl
  have harming : (s.leaveArming p).port.driveTrip = s.port.driveTrip := by
    refine when_keeps (P := fun q : State => q.port.driveTrip = s.port.driveTrip) rfl fun _ => ?_
    exact when_keeps (P := fun q : State => q.port.driveTrip = s.port.driveTrip) rfl fun _ => rfl
  have hcatching : (s.leaveArming p).leaveCatching.port = (s.leaveArming p).port := by simp
  have hrevising : ∀ r : State, r.leaveRevising.port.driveTrip = r.port.driveTrip := fun r =>
    when_keeps (P := fun q : State => q.port.driveTrip = r.port.driveTrip) rfl fun _ => hchange _ _ fun _ => rfl
  have hcontext : ∀ r : State, (r.contextOnEntry p).port.driveTrip = r.port.driveTrip := by
    intro r
    refine when_keeps (P := fun q : State => q.port.driveTrip = r.port.driveTrip) rfl fun _ => ?_
    refine when_keeps (P := fun q : State => q.port.driveTrip = r.port.driveTrip) rfl fun _ => (hclear _).trans ?_
    simp
  have hblocks : ∀ r : State, (r.blocksOnEntry p).port.driveTrip = r.port.driveTrip := by
    intro r
    have hplan : (r.blocksOnEntry p).port =
        ((r.onPlan (PlanUnit.onEntry r.round.phase p)).when p.clearsPlan State.clearRecord).port := by
      simp [State.blocksOnEntry]
    rw [hplan]
    exact when_keeps (P := fun q : State => q.port.driveTrip = r.port.driveTrip) rfl fun _ => hclear _
  rw [(enterBase_port_catcher p s).1, hblocks, hcontext, phaseLeft, hrevising, hcatching, harming]

/-- R33: what a local alarm of the line station makes of a trip. -/
theorem localAlarm_line {k : FaultClass} {s : State} (hl : s.isLine = true) (hd : s.round.phase.dropsAlarm = false)
    {pruned : List Time} (hpruned : pruned = pruneAttempts s.now (sec s.params.window) s.round.attempts) :
    (s.localAlarm k).port.driveTrip = s.port.driveTrip ∧
    (pruned.length < s.params.rounds → (s.localAlarm k).round.phase = .tripped ∧
      (s.localAlarm k).round.tripTime = some s.now ∧
      (s.localAlarm k).round.attempts = recordAttempt s.now pruned ∧
      RestartSetAnew s s.now (s.round.epoch + 1#16) (s.localAlarm k)) ∧
    (s.params.rounds ≤ pruned.length → (s.localAlarm k).round.phase = .lockout ∧
      (s.localAlarm k).round.attempts = pruned ∧ (s.localAlarm k).catcher.context = s.catcher.context ∧
      (s.localAlarm k).catcher.budget = .idle ∧ (s.localAlarm k).catcher.budgetTimer = none ∧
      (s.localAlarm k).catcher.overdue = false ∧ (s.localAlarm k).catcher.retire = 0 ∧
      (s.localAlarm k).catcher.record = ⟨some (s.round.epoch + 1#16), .none, 0, none, 0, false⟩ ∧
      (s.localAlarm k).port.record = ReleaseRecord.cleared) := by
  have hne : epochSucc s.round.epoch ≠ s.round.epoch := by
    unfold epochSucc
    intro he
    simp at he
  have heq : s.setEpoch (epochSucc s.round.epoch) =
      ((s.onRound fun r => { r with epoch := epochSucc s.round.epoch, resettle := 0, early := [] }).onPlan fun u =>
        { u.discard with switchRecord := none }).onCatcher (CatchUnit.resetRecord (epochSucc s.round.epoch)) := by
    rw [State.setEpoch, if_neg hne, hl, State.when_true]
  have hpruned' : pruned = pruneAttempts (s.setEpoch (epochSucc s.round.epoch)).now
      (sec (s.setEpoch (epochSucc s.round.epoch)).params.window) (s.setEpoch (epochSucc s.round.epoch)).round.attempts := by
    rw [heq]
    exact hpruned
  obtain ⟨htripped, hlockout⟩ := takeTrip_line (s := s.setEpoch (epochSucc s.round.epoch)) (by rw [heq]; exact hl) hpruned'
  obtain ⟨l, p, -, htrip⟩ := takeTrip_eq (s.setEpoch (epochSucc s.round.epoch))
  have halarm : s.localAlarm k = ((s.setEpoch (epochSucc s.round.epoch)).takeTrip).enqueue
      (.alarm (BitVec.ofNat 8 s.number) k.byte s.round.phase.code) := by
    rw [State.localAlarm, hd, if_neg Bool.false_ne_true]
  have hrest : (s.localAlarm k).port = (s.setEpoch (epochSucc s.round.epoch)).takeTrip.port ∧
      (s.localAlarm k).round = (s.setEpoch (epochSucc s.round.epoch)).takeTrip.round ∧
      (s.localAlarm k).catcher = (s.setEpoch (epochSucc s.round.epoch)).takeTrip.catcher ∧
      (s.localAlarm k).release = (s.setEpoch (epochSucc s.round.epoch)).takeTrip.release := by
    rw [halarm]
    refine ⟨by simp, by simp, by simp, ?_⟩
    unfold State.enqueue
    split <;> rfl
  obtain ⟨hport, hround, hcatcher, hrelease⟩ := hrest
  refine ⟨?_, fun h => ?_, fun h => ?_⟩
  · rw [hport, htrip, enterBase_driveTrip, heq]
    rfl
  · obtain ⟨h1, h2, h3, h4⟩ := htripped (by rw [heq]; exact h)
    rw [hround]
    refine ⟨h1, by rw [h2, heq]; rfl, by rw [h3, heq]; rfl, ?_⟩
    have hepoch : (s.setEpoch (epochSucc s.round.epoch)).round.epoch = s.round.epoch + 1#16 := by rw [heq]; rfl
    have hnow : (s.setEpoch (epochSucc s.round.epoch)).now = s.now := by rw [heq]; rfl
    rw [hepoch, hnow] at h4
    exact RestartSetAnew.congr h4 (by rw [heq]; rfl) (by rw [heq]; rfl) (by rw [heq]; rfl) (by rw [heq]; rfl)
      (by rw [heq]; rfl) (by rw [heq]; rfl) (by rw [heq]; rfl) (by rw [heq]; rfl) (by rw [heq]; rfl) (by rw [heq]; rfl)
      (by rw [heq]; rfl) hcatcher hport hrelease
  · obtain ⟨h1, h2, h3, h4, h5, h6, h7, h8, h9⟩ := hlockout (by rw [heq]; exact h)
    rw [hround, hcatcher, hport]
    exact ⟨h1, h2, h3.trans (by rw [heq]; rfl), h4, h5, h6, h7, h8.trans (by rw [heq]; rfl), h9⟩

/-- Settles O28: the alarm in ARMING, RUNNING and REVISING, and the sample alone elsewhere. -/
theorem driveTripRaisesAlarm : Obligations.DriveTripRaisesAlarm := by
  intro t u s hr hl hs hu
  have hexec : exec (.driveTripRising t) s = .next
      (((s.advance t).onPort (Port.setSample .driveTrip ⟨true, max s.now t⟩)).when s.round.phase.takesDriveTrip
        (State.localAlarm FaultClass.drive)) :=
    (State.runAt_runs hr).trans (congrArg _ (inputChange_changed (s := s.advance t) (i := .driveTrip) hl hs (by simp [hu])))
  refine ⟨fun hp pruned hpruned => ?alarm, fun h1 h2 h3 => ?sample⟩
  case sample =>
    have hno : s.round.phase.takesDriveTrip = false := by
      revert h1 h2 h3
      cases s.round.phase <;> simp [Phase.takesDriveTrip]
    rw [hexec, hno, State.when_false]
    rfl
  case alarm =>
    have htakes : s.round.phase.takesDriveTrip = true := by rcases hp with h | h | h <;> rw [h] <;> rfl
    have hdrops : s.round.phase.dropsAlarm = false := by rcases hp with h | h | h <;> rw [h] <;> rfl
    have htaken := localAlarm_taken (s := (s.advance t).onPort (Port.setSample .driveTrip ⟨true, max s.now t⟩))
      FaultClass.drive hdrops
    obtain ⟨hdrive, htripped, hlockout⟩ := localAlarm_line (k := FaultClass.drive)
      (s := (s.advance t).onPort (Port.setSample .driveTrip ⟨true, max s.now t⟩)) hl hdrops hpruned
    rw [htakes, State.when_true] at hexec
    refine ⟨_, hexec, htaken.epoch, htaken.inForce, hdrive, ?_, fun h => ?_, fun h => ?_, fun hd hq => ?_⟩
    · rw [State.release]
      rcases htaken.phase with h | h <;> rw [h] <;> simp [Phase.drives]
    · obtain ⟨h1, h2, h3, h4⟩ := htripped h
      exact ⟨h1, h2, h3, RestartSetAnew.congr h4 rfl rfl rfl rfl rfl rfl rfl rfl rfl rfl rfl rfl rfl rfl⟩
    · obtain ⟨h1, h2, h3, h4, h5, h6, h7, h8, h9⟩ := hlockout h
      refine ⟨h1, h2, ?_, h3, h4, h5, h6, h7, h8, by rw [h9]; rfl⟩
      have hruns : ∀ r : State, r.powered = s.powered → r.store = s.store → r.round.phase = .lockout →
          r.lockoutOut = true := by
        intro r hpow hstore hphase
        have hl' : r.isLine = true := (isLine_congr hstore).trans hl
        have hr' : r.runs = true := by
          rw [State.runs_iff, hpow, hstore]
          exact State.runs_iff.mp hr
        rw [State.lockoutOut, hr', hl', hphase]
        rfl
      exact hruns _ (by simp) (by simp) h1
    · have hline : s.fitted = true ∧ s.number = 0 := by
        have hrole : s.store.role = .line := by
          unfold State.isLine at hl
          simpa using hl
        simp [State.fitted, State.number, hrole]
      obtain ⟨g, hg, hbody⟩ := htaken.frame hd hline.1 (.inl hq)
      exact ⟨g, hg, hbody.trans (by show QBody.alarm (BitVec.ofNat 8 s.number) _ _ = _; rw [hline.2]; rfl)⟩

end Sys2Proof.Proofs

/-! # Adoption at agreement

PROOFS about an adoption from PLANNING (R47, R50, R76, R102, R114, R177, R180): the armed set cleared, the record built, and
the phase entered with what the line station does there. -/

namespace Sys2Proof.Proofs

open Sys2Proof.Machine Sys2Proof.Safety

/-! ## The armed set cleared -/

/-- R114: the removal of station 0 while the overdue flag is set: EXPIRED, and no catch ACTIVE. -/
theorem overdueExpiry_holds {s : State} (hl : s.isLine = true) (ho : s.catcher.overdue = true) :
    s.overdueExpiry.catcher.record.epoch = some s.round.epoch ∧ s.overdueExpiry.catcher.record.outcome = .expired ∧
    s.overdueExpiry.catcher.active = false ∧ s.overdueExpiry.catcher.overdue = false := by
  have heq : s.overdueExpiry = (s.setExpired).onCatcher fun c => { c with overdue := false } := by
    rw [State.overdueExpiry, hl, ho]
    rfl
  rw [heq, State.setExpired]
  split
  next => exact ⟨rfl, rfl, rfl, rfl⟩
  next hactive => exact ⟨rfl, rfl, by simpa using hactive, rfl⟩

/-- R50: the armed set and the refusal record emptied. -/
def armedEmptied (s : State) : State :=
  (s.onRound fun r => { r with armed := [], refusal := .none }).afterRemoval s.round.armed

theorem clearArmed_eq {d : Half} {s : State} (h : s.round.early = []) :
    s.clearArmed d = (armedEmptied s).onRound fun r => { r with early := [] } := by
  have hearly : (armedEmptied s).round.early = [] := by simpa [armedEmptied] using h
  rw [State.clearArmed]
  show (armedEmptied s).recordEarly d = _
  rw [State.recordEarly, hearly]
  rfl

theorem clearArmed_round {d : Half} {s : State} (h : s.round.early = []) :
    (s.clearArmed d).round = { s.round with armed := [], refusal := .none, early := [] } := by
  rw [clearArmed_eq h, State.onRound_round, armedEmptied]
  simp

/-- R114: without the overdue flag or without station 0 in the armed set nothing expires. -/
theorem armedEmptied_kept {s : State} (h : s.catcher.overdue = false ∨ 0 ∉ s.round.armed) :
    (armedEmptied s).catcher = s.catcher ∧ (armedEmptied s).scanner = s.scanner := by
  rcases h with ho | ha
  · have hstill : (s.onRound fun r => { r with armed := [], refusal := .none }).overdueExpiry =
        s.onRound fun r => { r with armed := [], refusal := .none } := by
      rw [State.overdueExpiry, State.onRound_catcher, ho, Bool.and_false, State.when_false]
    rw [armedEmptied, State.afterRemoval]
    unfold State.when
    rw [hstill]
    split <;> exact ⟨rfl, rfl⟩
  · have hno : s.round.armed.contains 0 = false := by simpa using ha
    rw [armedEmptied, State.afterRemoval, hno, Bool.false_and, State.when_false]
    exact ⟨rfl, rfl⟩

theorem armedEmptied_expired {s : State} (hl : s.isLine = true) (ho : s.catcher.overdue = true) (ha : 0 ∈ s.round.armed) :
    (armedEmptied s).catcher.record.epoch = some s.round.epoch ∧
    (armedEmptied s).catcher.record.outcome = .expired ∧ (armedEmptied s).catcher.active = false ∧
    (armedEmptied s).catcher.overdue = false := by
  have hyes : s.round.armed.contains 0 = true := by simpa using ha
  have heq : armedEmptied s = (s.onRound fun r => { r with armed := [], refusal := .none }).overdueExpiry := by
    rw [armedEmptied, State.afterRemoval, hyes]
    exact State.when_true ..
  rw [heq]
  exact overdueExpiry_holds (s := s.onRound _) hl ho

/-! ## The record built -/

/-- R177, R178: the port after its record in force is replaced. -/
theorem changeRecord_record {x : ReleaseRecord} {s : State} :
    (s.changeRecord fun q => { q with record := x }).port.record = x ∧
    (s.changeRecord fun q => { q with record := x }).port.brakeOpen = s.port.brakeOpen ∧
    (s.changeRecord fun q => { q with record := x }).port.slowZone = s.port.slowZone ∧
    (s.changeRecord fun q => { q with record := x }).port.presented = s.port.presented ∧
    (s.port.presented = none → x ≠ s.port.record →
      (s.changeRecord fun q => { q with record := x }).port.rready = true) := by
  simp only [State.changeRecord, State.onPort_port]
  split
  next hsame =>
    refine ⟨rfl, rfl, rfl, rfl, fun hp hne => ?_⟩
    simp only [Port.onLso, hp, Option.getD_none] at hsame
    exact absurd hsame hne
  next => exact ⟨rfl, rfl, rfl, rfl, fun _ _ => rfl⟩

/-! ## A CLOSE without a write -/

/-- R137, R141: a CLOSE where no FAULTED entry stands beside a latched class. -/
theorem closeCmd_of_not_faulted {s : State} (h : s.faultedWithLatch = false) :
    s.closeCmd.round = s.round ∧ s.closeCmd.plan = s.plan ∧ s.closeCmd.roster = s.roster ∧
    s.closeCmd.watch.latch = s.watch.latch := by
  obtain ⟨hroster, -, hlatch⟩ := closeCmd_keeps (s := s) (.inr (by rw [h, Bool.and_false]))
  have hconfirm : ∀ r : State, r.faultedWithLatch = false →
      r.confirmClosed.round = r.round ∧ r.confirmClosed.plan = r.plan := by
    intro r hr
    rw [State.confirmClosed, hr, State.when_false]
    unfold State.when
    split <;> simp
  refine ⟨?_, ?_, hroster, hlatch⟩
  all_goals
    unfold State.closeCmd
    split
    · rfl
    · split
      · simp [hconfirm s h]
      · simp [hconfirm (s.onBypass _) h]
      all_goals rfl

/-! ## The adoption -/

/-- R47, R50, R76: what the adoption of the candidate `c` at agreement leaves. -/
structure Adopted (c : Plan) (s r : State) : Prop where
  round : r.round = { s.round with armed := [], refusal := .none, early := [] }
  plan : r.plan = s.plan.adoptPlan c
  store : r.store = s.store
  now : r.now = s.now
  heard : r.bus.heard = s.bus.heard
  line : s.isLine = true → r.bus = s.bus ∧ r.port.record = recordOf c .none 0 none ∧
    r.port.brakeOpen = s.port.brakeOpen ∧ r.port.slowZone = s.port.slowZone ∧
    (s.port.presented = none → r.port.record ≠ s.port.record → r.port.rready = true) ∧
    r.catcher = (armedEmptied (s.onPlan (PlanUnit.adoptPlan c))).catcher ∧
    r.scanner = (armedEmptied (s.onPlan (PlanUnit.adoptPlan c))).scanner

theorem adoptCandidate_holds {c : Plan} {d : Half} {s : State} (he : s.round.early = [])
    (hf : s.ownCond .faulted = false) : Adopted c s (s.adoptCandidate c d) := by
  have hround : ((s.onPlan (PlanUnit.adoptPlan c)).clearArmed d).round =
      { s.round with armed := [], refusal := .none, early := [] } := clearArmed_round (s := s.onPlan _) he
  have hfault : ((s.onPlan (PlanUnit.adoptPlan c)).clearArmed d).faultedWithLatch = false := by
    have hcond : ((s.onPlan (PlanUnit.adoptPlan c)).clearArmed d).ownCond .faulted = s.ownCond .faulted :=
      ownCond_congr (by simp) (by simp) _
    rw [State.faultedWithLatch, hcond, hf, Bool.false_and]
  have hclose : ((s.onPlan (PlanUnit.adoptPlan c)).clearArmed d).closeIfOut.round =
      ((s.onPlan (PlanUnit.adoptPlan c)).clearArmed d).round ∧
      ((s.onPlan (PlanUnit.adoptPlan c)).clearArmed d).closeIfOut.plan =
      ((s.onPlan (PlanUnit.adoptPlan c)).clearArmed d).plan := by
    obtain ⟨h1, h2, -, -⟩ := closeCmd_of_not_faulted hfault
    exact when_keeps (P := fun r : State => r.round = ((s.onPlan (PlanUnit.adoptPlan c)).clearArmed d).round ∧
      r.plan = ((s.onPlan (PlanUnit.adoptPlan c)).clearArmed d).plan) ⟨rfl, rfl⟩ fun _ => ⟨h1, h2⟩
  have hbuild : ∀ r : State, (r.buildRecord c).round = r.round ∧ (r.buildRecord c).plan = r.plan := fun r => by simp
  constructor
  case round => exact (hbuild _).1.trans (hclose.1.trans hround)
  case plan => exact (hbuild _).2.trans (hclose.2.trans (by simp))
  case store => simp
  case now => simp
  case heard => simp
  case line =>
    intro hl
    have hstays : ((s.onPlan (PlanUnit.adoptPlan c)).clearArmed d).closeIfOut =
        (s.onPlan (PlanUnit.adoptPlan c)).clearArmed d := by
      have hcell : ((s.onPlan (PlanUnit.adoptPlan c)).clearArmed d).isCell = false := by
        rw [isCell_eq_not_isLine, isLine_congr (s := s) (by simp), hl, Bool.not_true]
      rw [State.closeIfOut, hcell, Bool.false_and, State.when_false]
    have heq : s.adoptCandidate c d = ((s.onPlan (PlanUnit.adoptPlan c)).clearArmed d).changeRecord
        fun q => { q with record := recordOf c .none 0 none } := by
      have hl' : ((s.onPlan (PlanUnit.adoptPlan c)).clearArmed d).isLine = true :=
        (isLine_congr (by simp)).trans hl
      rw [State.adoptCandidate, hstays, State.buildRecord, hl', State.when_true]
    obtain ⟨h1, h2, h3, -, h5⟩ := changeRecord_record (x := recordOf c .none 0 none)
      (s := (s.onPlan (PlanUnit.adoptPlan c)).clearArmed d)
    have hport : ((s.onPlan (PlanUnit.adoptPlan c)).clearArmed d).port = s.port := by simp
    rw [hport] at h2 h3 h5
    rw [heq]
    refine ⟨by simp, h1, h2, h3, fun hp hne => h5 hp (by rwa [h1] at hne), ?_, ?_⟩
    · rw [clearArmed_eq (s := s.onPlan _) he]
      simp
    · rw [clearArmed_eq (s := s.onPlan _) he]
      simp

/-! ## The phase entered at agreement -/

/-- R30: leaving PLANNING ends nothing. -/
theorem phaseLeft_planning {p : Phase} {s : State} (hp : s.round.phase = .planning) : phaseLeft p s = s := by
  have h1 : s.leaveArming p = s := by
    rw [State.leaveArming, beq_eq_false_iff_ne.mpr (by simp [hp]), State.when_false]
  have h2 : s.leaveCatching = s := by
    rw [State.leaveCatching, beq_eq_false_iff_ne.mpr (by simp [hp]), State.when_false]
  have h3 : s.leaveRevising = s := by
    rw [State.leaveRevising, beq_eq_false_iff_ne.mpr (by simp [hp]), Bool.false_and, State.when_false]
  rw [phaseLeft, h1, h2, h3]

/-- Table 2-3: the phases that an adoption at agreement enters. -/
def Phase.agreed (p : Phase) : Prop := p = .catching ∨ p = .arming ∨ p = .halted

/-- R30: an entry from PLANNING to CATCHING, ARMING or HALTED. -/
theorem enterBase_agreed {p : Phase} {s : State} (hp : s.round.phase = .planning) (hq : Phase.agreed p) :
    (s.enterBase p).plan = { s.plan with switchRecord := none } ∧ (s.enterBase p).port = s.port ∧
    (s.enterBase p).scanner = s.scanner ∧ (p ≠ .halted → (s.enterBase p).catcher = s.catcher) := by
  have hclears : p.clearsPlan = false := by rcases hq with rfl | rfl | rfl <;> rfl
  have hdrives : p.drives = false := by rcases hq with rfl | rfl | rfl <;> rfl
  have hcontext : s.contextOnEntry p = s := by rcases hq with rfl | rfl | rfl <;> rfl
  have hwalk : ∀ r : State, r.walkOnEntry p = r := by rcases hq with rfl | rfl | rfl <;> exact fun _ => rfl
  have hunit : ∀ u : PlanUnit, u.onEntry .planning p = { u with switchRecord := none } := by
    intro u
    unfold PlanUnit.onEntry
    simp [hclears, hdrives]
  obtain ⟨hport, hcatcher⟩ := enterBase_port_catcher p s
  rw [phaseLeft_planning hp, hcontext] at hport hcatcher
  have hbase : s.enterBase p = (s.blocksOnEntry p).framesOnEntry .planning p := by
    have hleft : ((s.leaveArming p).leaveCatching).leaveRevising = s := phaseLeft_planning hp
    rw [State.enterBase, hleft, hcontext, hwalk, hp]
  refine ⟨?_, ?_, ?_, fun hne => ?_⟩
  · rw [hbase]
    simp [State.blocksOnEntry, hclears, hp, hunit]
  · rw [hport]
    simp [State.blocksOnEntry, hclears]
  · rw [hbase]
    simp [State.blocksOnEntry]
  · rw [hcatcher, blocksOnEntry_catcher]
    split
    · rcases hq with rfl | rfl | rfl
      · rfl
      · rfl
      · exact absurd rfl hne
    · rfl

/-! ## CATCHING at the line station -/

/-- R102: an outcome held for the epoch starts no catch. -/
theorem startCatch_held {s : State} (he : s.catcher.record.epoch = some s.round.epoch) (ho : s.catcher.record.outcome ≠ .none) :
    s.startCatch = s := by
  unfold State.startCatch
  rw [if_pos (by simp [he, ho])]

/-- R102: a catch not started ends with its outcome. -/
theorem startCatch_decided {o : CatchOutcome} {s : State}
    (hn : ¬(s.catcher.record.epoch = some s.round.epoch ∧ s.catcher.record.outcome ≠ .none))
    (ho : (sampledAsserted s.port.brakeOpen = false ∧ o = .standstill) ∨
      (sampledAsserted s.port.brakeOpen = true ∧ sampledAsserted s.port.slowZone = true ∧ o = .failed)) :
    s.startCatch = s.endCatch o 0 none s.now := by
  unfold State.startCatch
  rw [if_neg (by simpa using hn)]
  rcases ho with ⟨hb, rfl⟩ | ⟨hb, hz, rfl⟩
  · rw [hb]
    rfl
  · rw [hb, hz]
    rfl

/-- R102: a catch made ACTIVE. -/
theorem startCatch_active {s : State}
    (hn : ¬(s.catcher.record.epoch = some s.round.epoch ∧ s.catcher.record.outcome ≠ .none))
    (hb : sampledAsserted s.port.brakeOpen = true) (hz : sampledAsserted s.port.slowZone = false) :
    s.startCatch.catcher = s.catcher.begin s.now (ms s.params.catchTime) ∧
    s.startCatch.scanner = ⟨0, 2, .continuous, .free, some ⟨0, s.now, s.now + 5⟩, none, s.scanner.slots.map Slot.take⟩ := by
  unfold State.startCatch
  rw [if_neg (by simpa using hn), hb, hz]
  exact ⟨rfl, rfl⟩

/-- R102: a catch started from a state with the catch unit, the scanner, the epoch and the inputs of `s`. -/
theorem startCatch_holds {s q : State} (hepoch : q.round.epoch = s.round.epoch) (hnow : q.now = s.now)
    (hparams : q.params = s.params) (hbrake : q.port.brakeOpen = s.port.brakeOpen)
    (hzone : q.port.slowZone = s.port.slowZone)
    (hexpired : s.catcher.overdue = true → 0 ∈ s.round.armed → q.catcher.record.epoch = some s.round.epoch ∧
      q.catcher.record.outcome = .expired ∧ q.catcher.active = false ∧ q.catcher.overdue = false)
    (hkept : s.catcher.overdue = false ∨ 0 ∉ s.round.armed → q.catcher = s.catcher ∧ q.scanner = s.scanner) :
    CatchStarted s q.startCatch := by
  intro held hheld
  refine ⟨fun ho ha => ?_, fun h => ?_⟩
  · obtain ⟨h1, h2, h3, h4⟩ := hexpired ho ha
    rw [startCatch_held (by rw [h1, hepoch]) (by rw [h2]; simp)]
    exact ⟨h1, h2, h3, h4⟩
  · obtain ⟨hcatcher, hscanner⟩ := hkept h
    have hheld' : held ↔ q.catcher.record.epoch = some q.round.epoch ∧ q.catcher.record.outcome ≠ .none := by
      rw [hheld, hcatcher, hepoch]
    refine ⟨fun hh => ?_, fun o hno hcase => ?_, fun hno hb hz => ?_⟩
    · obtain ⟨h1, h2⟩ := hheld'.mp hh
      rw [startCatch_held h1 h2]
      exact ⟨hcatcher, hscanner⟩
    · rw [startCatch_decided (fun hh => hno (hheld'.mpr hh)) (by rw [hbrake, hzone]; exact hcase), endCatch_catcher,
        endCatch_scanner, hcatcher, hscanner, hepoch, hnow]
      exact ⟨rfl, toDefault_single .., fun h => by rw [Scanner.toDefault, h]⟩
    · obtain ⟨h1, h2⟩ := startCatch_active (fun hh => hno (hheld'.mpr hh)) (by rw [hbrake]; exact hb)
        (by rw [hzone]; exact hz)
      rw [h1, h2, hcatcher, hscanner, hnow, hparams]
      exact ⟨rfl, rfl⟩

end Sys2Proof.Proofs

/-! # A verdict taken

PROOFS about the STEP that the line station decides (R180) and the verdict of a BUILT candidate in PLANNING and REVISING (R46,
R47, R67, R69, R76, R82 to R84, R94). -/

namespace Sys2Proof.Proofs

open Sys2Proof.Machine Sys2Proof.Safety

/-! ## The STEP of the line station -/

/-- R180: the STEP of a plan, by what it is refused for. -/
def stepOf (p : Plan) (refusal : Option Byte) : StepDecision :=
  ⟨if refusal.isSome then stepRefused else stepArmed, p.revision, p.digest?.getD 0, refusal.getD 0⟩

theorem lineStep_eq {p : Plan} {s : State} (hp : s.plan.inForce = some p) : s.lineStep = some (stepOf p s.stepRefusal) := by
  rw [State.lineStep, hp, Option.map_some]
  cases s.stepRefusal <;> rfl

/-- R180: what a STEP is refused for. -/
theorem stepRefusal_eq {p : Plan} {s : State} (hp : s.plan.inForce = some p) :
    ∀ usable : Prop,
      (usable ↔ sampledAsserted s.port.runReq = true ∧
        (s.catcher.record.epoch = some s.round.epoch → s.catcher.record.outcome ≠ .expired) ∧
        s.port.record.valid = true ∧ ∃ b, p.body = some b ∧ s.port.record.digest = b.digest) →
      (sampledAsserted s.port.driveTrip = true → s.stepRefusal = some 11) ∧
      (sampledAsserted s.port.driveTrip = false → ¬usable → s.stepRefusal = some 16) ∧
      (sampledAsserted s.port.driveTrip = false → usable → s.stepRefusal = none) := by
  intro usable husable
  have hdigest : ((s.plan.inForce.bind Plan.digest?) != some s.port.record.digest) = false ↔
      ∃ b, p.body = some b ∧ s.port.record.digest = b.digest := by
    rw [hp, Option.bind_some, Plan.digest?]
    cases p.body with
    | none => simp
    | some b => simpa using eq_comm
  have hexpired : s.recordHolds .expired = false ↔
      (s.catcher.record.epoch = some s.round.epoch → s.catcher.record.outcome ≠ .expired) := by
    simp [State.recordHolds]
  unfold State.stepRefusal
  refine ⟨fun hd => ?_, fun hd hnot => ?_, fun hd hyes => ?_⟩
  · rw [hd]
    rfl
  · rw [hd, if_neg Bool.false_ne_true]
    split
    · rfl
    next hrun =>
      split
      · rfl
      next hexp =>
        split
        · rfl
        next hrec =>
          refine absurd (husable.mpr ⟨by simpa using hrun, hexpired.mp (by simpa using hexp), ?_⟩) hnot
          rw [Bool.not_eq_true, Bool.or_eq_false_iff] at hrec
          exact ⟨by simpa using hrec.1, hdigest.mp hrec.2⟩
  · obtain ⟨h1, h2, h3, h4⟩ := husable.mp hyes
    rw [hd, if_neg Bool.false_ne_true, h1, hexpired.mpr h2, h3, hdigest.mpr h4]
    rfl

/-- R173, R180: the STEP decided at an entry to ARMING. -/
theorem stepDecided_decideStep {s q : State}
    (hroom : s.bus.duplicate = false → s.bus.queue.length ≤ 4 → q.barred = false ∧ RoomLeft q.bus.queue) :
    StepDecided s q.decideStep := by
  intro p hp
  have hplan : q.decideStep.plan = q.plan := by simp
  rw [hplan] at hp
  have heq : q.decideStep = (q.enqueue (.step (stepOf p q.stepRefusal).code p.revision (p.digest?.getD 0)
      (stepOf p q.stepRefusal).reason)).onPort fun u => { u with stepDecision := some (stepOf p q.stepRefusal) } := by
    rw [State.decideStep, lineStep_eq hp]
    rfl
  rw [heq]
  refine ⟨(stepOf p q.stepRefusal).code, (stepOf p q.stepRefusal).reason, rfl, fun hd hq => ?_, fun usable husable => ?_⟩
  · obtain ⟨hb, hr⟩ := hroom hd hq
    rw [State.onPort_bus, State.enqueue, hb, if_neg Bool.false_ne_true]
    exact RoomLeft.step (b := .step (stepOf p q.stepRefusal).code p.revision (p.digest?.getD 0)
      (stepOf p q.stepRefusal).reason) rfl hr
  · simp only [State.onPort_port, State.onPort_round, State.onPort_catcher, (State.enqueue_frame ..).2.2.2.2.1,
      State.enqueue_frame] at husable ⊢
    obtain ⟨h1, h2, h3⟩ := stepRefusal_eq hp usable husable
    refine ⟨fun hd => ?_, fun hd hnot => ?_, fun hd hyes => ?_⟩
    · rw [h1 hd]
      exact ⟨rfl, rfl⟩
    · rw [h2 hd hnot]
      exact ⟨rfl, rfl⟩
    · rw [h3 hd hyes]
      exact ⟨rfl, rfl⟩

end Sys2Proof.Proofs

/-! # The verdict of a BUILT candidate

PROOFS about the verdict handed on in PLANNING and REVISING (R46, R47, R67, R69, R76, R82 to R84, R94). -/

namespace Sys2Proof.Proofs

open Sys2Proof.Machine Sys2Proof.Safety

/-! ## The phase entered at agreement -/

/-- R47, R76: the state right after the adoption of `c` and the entry that follows it, before the commands of that entry. -/
structure Agreed (c : Plan) (s q : State) (p : Phase) : Prop where
  agreed : Phase.agreed p
  demand : p = .halted → s.round.runDemand = false
  adopted : q.plan.inForce = some c ∧ q.plan.candidate = none ∧ q.plan.build = .none
  epoch : q.round.epoch = s.round.epoch
  phase : q.round.phase = p
  cleared : q.round.armed = [] ∧ q.round.refusal = .none
  deferred : q.round.deferred = s.round.deferred
  facts : q.round.facts = s.round.facts
  runDemand : q.round.runDemand = s.round.runDemand
  heard : q.bus.heard = s.bus.heard
  store : q.store = s.store
  now : q.now = s.now
  line : s.isLine = true → q.bus.duplicate = s.bus.duplicate ∧ (RoomLeft s.bus.queue → RoomLeft q.bus.queue) ∧
    q.port.record = recordOf c .none 0 none ∧ q.port.brakeOpen = s.port.brakeOpen ∧ q.port.slowZone = s.port.slowZone ∧
    (s.port.presented = none → q.port.record ≠ s.port.record → q.port.rready = true) ∧
    (p ≠ .halted → q.catcher = (armedEmptied (s.onPlan (PlanUnit.adoptPlan c))).catcher) ∧
    q.scanner = (armedEmptied (s.onPlan (PlanUnit.adoptPlan c))).scanner

/-- R47: the phase that an adoption enters. -/
theorem phaseAfterAdoption_agreed (s : State) :
    Phase.agreed s.phaseAfterAdoption ∧ (s.phaseAfterAdoption = .halted → s.round.runDemand = false) ∧
    s.phaseAfterAdoption = (if s.round.tripRound = true ∧ s.round.facts.brakeOpen = true then .catching
      else if s.round.runDemand = true then .arming else .halted) := by
  have heq : s.phaseAfterAdoption = (if s.round.tripRound = true ∧ s.round.facts.brakeOpen = true then .catching
      else if s.round.runDemand = true then .arming else .halted) := by
    simp only [State.phaseAfterAdoption, Bool.and_eq_true]
  refine ⟨?_, ?_, heq⟩
  all_goals
    rw [heq]
    split
    · simp [Phase.agreed]
    · split <;> simp_all [Phase.agreed]

/-- R30, R47: the entry that follows an adoption. -/
theorem agreed_enterBase {c : Plan} {p : Phase} {s a : State} (h : Adopted c s a) (hp : s.round.phase = .planning)
    (hq : Phase.agreed p) (hdemand : p = .halted → s.round.runDemand = false) : Agreed c s (a.enterBase p) p := by
  have hphase : a.round.phase = .planning := by rw [h.round]; exact hp
  obtain ⟨hplan, hport, hscanner, hcatcher⟩ := enterBase_agreed hphase hq
  have hround := State.enterBase_round p a
  have hframe := State.enterBase_frame p a
  rw [h.round] at hround
  constructor
  case agreed => exact hq
  case demand => exact hdemand
  case adopted =>
    rw [hplan, h.plan]
    exact ⟨rfl, rfl, rfl⟩
  case epoch => rw [hround]; rfl
  case phase => rw [hround]; rfl
  case cleared =>
    rw [hround]
    exact ⟨by simp [Round.onEntry], by simp [Round.onEntry]⟩
  case deferred =>
    rw [hround]
    rcases hq with rfl | rfl | rfl <;> simp [Round.onEntry, deferredAfter, hp]
  case facts => rw [hround]; rfl
  case runDemand =>
    rw [hround]
    rcases hq with rfl | rfl | rfl <;> simp [Round.onEntry, runDemandAfter, hp]
  case heard => rw [hframe.2.2.2.2.2.2.1, h.heard]
  case store => rw [hframe.2.2.2.1, h.store]
  case now => rw [hframe.1, h.now]
  case line =>
    intro hl
    obtain ⟨hbus, hrecord, hbrake, hzone, hready, hcatch, hscan⟩ := h.line hl
    refine ⟨by rw [hframe.2.2.2.2.2.2.2.2.2.1, hbus], fun hroom => roomLeft_enterBase p (by rwa [hbus]), ?_, ?_, ?_, ?_,
      fun hne => (hcatcher hne).trans hcatch, hscanner.trans hscan⟩
    · rw [hport, hrecord]
    · rw [hport, hbrake]
    · rw [hport, hzone]
    · rw [hport]
      exact hready

/-! ## The commands of that entry -/

/-- R1: the line station is fitted. -/
theorem fitted_of_isLine {s : State} (h : s.isLine = true) : s.fitted = true := by
  have hrole : s.store.role = .line := by
    unfold State.isLine at h
    cases hr : s.store.role with
    | line => rfl
    | cell => simp [hr] at h
  rw [State.fitted, hrole]

/-- R49, R51: what the adoption's agreement says of the catch outcome and of the line station's STATE. -/
structure NothingHeld (s : State) : Prop where
  catchHeld : ∀ h ∈ s.round.facts.catchHeld, h.epoch ≠ s.round.epoch
  lineState : ∀ h, (s.heardAt 0).state = some h → h.epoch = s.round.epoch → h.phase ≠ .halted ∧ h.phase ≠ .arming ∧
    h.phase ≠ .running ∧ h.phase ≠ .revising

theorem heldOutcome_none {s : State} (h : ∀ x ∈ s.round.facts.catchHeld, x.epoch ≠ s.round.epoch) :
    s.heldOutcome = none := by
  unfold State.heldOutcome
  split
  next x hx => rw [if_neg (h x hx)]
  next => rfl

/-- R49: CATCHING stands without an outcome and without the line station past it. -/
theorem catchExit_none {s : State} (h : NothingHeld s) : s.catchExit = none := by
  have hexit : s.catchExit = s.lineStatePast := by
    rw [State.catchExit, heldOutcome_none h.catchHeld]
  rw [hexit, State.lineStatePast]
  cases hx : (s.heardAt 0).state with
  | none => rfl
  | some x =>
    by_cases he : x.epoch = s.round.epoch
    · obtain ⟨h1, h2, h3, h4⟩ := h.lineState x hx he
      cases hp : x.phase <;> simp_all
    · simp only [he, if_false]

theorem NothingHeld.congr {r s : State} (h : NothingHeld s) (he : r.round.epoch = s.round.epoch)
    (hf : r.round.facts = s.round.facts) (hh : r.bus.heard = s.bus.heard) : NothingHeld r where
  catchHeld := by rw [he, hf]; exact h.catchHeld
  lineState := by rw [he, State.heardAt, hh]; exact h.lineState

/-- R47, R76: what stands after the adoption of `c` into the phase `p`. -/
structure AdoptionStands (c : Plan) (s r : State) (p : Phase) : Prop where
  adopted : r.plan.inForce = some c ∧ r.plan.candidate = none ∧ r.plan.build = .none
  epoch : r.round.epoch = s.round.epoch
  phase : r.round.phase = p
  cleared : r.round.armed = [] ∧ r.round.refusal = .none
  catching : s.isLine = true → p = .catching → CatchStarted s r
  arming : s.isLine = true → p = .arming → StepDecided s r
  record : s.isLine = true → r.port.record = recordOf c .none 0 none ∧
    (s.port.presented = none → r.port.record ≠ s.port.record → r.port.rready = true)

section
variable {c : Plan} {s q : State} {n : Nat}

/-- R102: CATCHING entered at an adoption. -/
theorem Agreed.catches (h : Agreed c s q .catching) (hn : NothingHeld s) :
    AdoptionStands c s ((q.when q.isLine State.startCatch).settleEntry (n + 1)) .catching := by
  have hkeeps : (q.when q.isLine State.startCatch).round = q.round ∧ (q.when q.isLine State.startCatch).plan = q.plan ∧
      (q.when q.isLine State.startCatch).bus = q.bus ∧ (q.when q.isLine State.startCatch).port = q.port :=
    when_keeps (P := fun r : State => r.round = q.round ∧ r.plan = q.plan ∧ r.bus = q.bus ∧ r.port = q.port)
      ⟨rfl, rfl, rfl, rfl⟩ fun _ => by simp
  obtain ⟨hround, hplan, hbus, hport⟩ := hkeeps
  have hstands : (q.when q.isLine State.startCatch).settleEntry (n + 1) = q.when q.isLine State.startCatch := by
    refine settleEntry_stands ?_ (by rw [hround, h.phase]; simp)
    unfold State.entryTransition
    rw [hround, h.phase]
    simp only [catchExit_none (hn.congr (r := q.when q.isLine State.startCatch) (by rw [hround, h.epoch])
      (by rw [hround, h.facts]) (by rw [hbus, h.heard])), Option.map_none]
  rw [hstands]
  constructor
  case adopted => rw [hplan]; exact h.adopted
  case epoch => rw [hround]; exact h.epoch
  case phase => rw [hround]; exact h.phase
  case cleared => rw [hround]; exact h.cleared
  case arming => exact fun _ hp => by simp at hp
  case catching =>
    intro hl _
    obtain ⟨-, -, -, hbrake, hzone, -, hcatcher, hscanner⟩ := h.line hl
    have hcatcher := hcatcher (by simp)
    rw [(isLine_congr h.store).trans hl, State.when_true]
    refine startCatch_holds h.epoch h.now (State.params_congr h.store) hbrake hzone (fun ho ha => ?_) (fun hk => ?_)
    · rw [hcatcher]
      exact armedEmptied_expired (s := s.onPlan _) hl ho ha
    · rw [hcatcher, hscanner]
      exact armedEmptied_kept (s := s.onPlan _) hk
  case record =>
    intro hl
    obtain ⟨-, -, hrecord, -, -, hready, -, -⟩ := h.line hl
    rw [hport]
    exact ⟨hrecord, hready⟩

/-- R51, R129, R180: ARMING entered at an adoption. -/
theorem Agreed.arms (h : Agreed c s q .arming) (hn : NothingHeld s) :
    AdoptionStands c s ((if q.isLine then q.decideStep else q.startCheck).settleEntry (n + 1)) .arming := by
  have hstands : ∀ r : State, r.round = { q.round with deferred := r.round.deferred } → r.settleEntry (n + 1) = r := by
    intro r hr
    refine settleEntry_arming (by rw [hr]; exact h.phase) ?_ (by rw [hr]; exact h.cleared.2)
      (by rw [hr]; simp [h.cleared.1])
    rw [heldOutcome_none (by rw [hr]; simpa [h.facts, h.epoch] using hn.catchHeld)]
    simp
  by_cases hl : s.isLine = true
  case pos =>
    obtain ⟨hdup, hroom, hrecord, -, -, hready, -, -⟩ := h.line hl
    have hport : q.decideStep.port.record = q.port.record ∧ q.decideStep.port.rready = q.port.rready := by
      unfold State.decideStep
      split <;> simp
    rw [if_pos ((isLine_congr h.store).trans hl), hstands q.decideStep (by simp)]
    constructor
    case adopted => simpa using h.adopted
    case epoch => simpa using h.epoch
    case phase => simpa using h.phase
    case cleared => simpa using h.cleared
    case catching => exact fun _ hp => by simp at hp
    case arming =>
      exact fun _ _ => stepDecided_decideStep fun hd hq =>
        ⟨by rw [barred_inside (by rw [h.phase]; rfl), hdup, hd, fitted_of_isLine ((isLine_congr h.store).trans hl)]; rfl,
          hroom (.inl hq)⟩
    case record =>
      intro _
      rw [hport.1, hport.2]
      exact ⟨hrecord, hready⟩
  case neg =>
    rw [if_neg (by rwa [isLine_congr h.store])]
    obtain ⟨hround, -, hidle, -⟩ := checksOn_startCheck h.phase
    have hplan := hidle h.adopted.2.2
    rw [hstands _ hround]
    constructor
    case adopted => rw [hplan]; exact h.adopted
    case epoch => rw [hround]; exact h.epoch
    case phase => rw [hround]; exact h.phase
    case cleared => rw [hround]; exact h.cleared
    all_goals exact fun hyes => absurd hyes hl

/-- R41: HALTED entered at an adoption. -/
theorem Agreed.halts (h : Agreed c s q .halted) (hd : s.round.deferred = false) :
    AdoptionStands c s (q.settleEntry (n + 1)) .halted := by
  have hstands : q.settleEntry (n + 1) = q := by
    refine settleEntry_stands ?_ (by rw [h.phase]; simp)
    unfold State.entryTransition
    rw [h.phase]
    simp only [h.deferred, hd, h.runDemand, h.demand rfl, Bool.false_eq_true, if_false]
  rw [hstands]
  exact ⟨h.adopted, h.epoch, h.phase, h.cleared, fun _ hp => by simp at hp, fun _ hp => by simp at hp, fun hl =>
    have ⟨_, _, hrecord, _, _, hready, _, _⟩ := h.line hl
    ⟨hrecord, hready⟩⟩

end

/-- R47, R76: an adoption at agreement with nothing held for the epoch. -/
theorem adoption_stands {c : Plan} {d : Half} {s : State} {n : Nat} (hp : s.round.phase = .planning)
    (hearly : s.round.early = []) (hd : s.round.deferred = false) (hf : s.ownCond .faulted = false) (hn : NothingHeld s) :
    AdoptionStands c s (State.settleEntry (n + 1) ((s.adoptCandidate c d).enterPhase (s.adoptCandidate c d).phaseAfterAdoption))
      (if s.round.tripRound = true ∧ s.round.facts.brakeOpen = true then .catching
        else if s.round.runDemand = true then .arming else .halted) := by
  have hadopted := adoptCandidate_holds (c := c) (d := d) hearly hf
  have hphase : (s.adoptCandidate c d).phaseAfterAdoption = s.phaseAfterAdoption := by
    rw [State.phaseAfterAdoption, State.phaseAfterAdoption, hadopted.round]
  obtain ⟨hagreed, hdemand, heq⟩ := phaseAfterAdoption_agreed s
  rw [hphase, ← heq]
  have hentered := agreed_enterBase hadopted hp hagreed hdemand
  unfold State.enterPhase
  generalize (s.adoptCandidate c d).round.phase = p0
  generalize s.phaseAfterAdoption = p at *
  generalize (s.adoptCandidate c d).enterBase p = q at *
  rcases hagreed with rfl | rfl | rfl
  · exact hentered.catches hn
  · exact hentered.arms hn
  · exact hentered.halts hd

/-! ## The verdict in PLANNING -/

theorem builtCandidate_eq {c : Plan} {s : State} (hb : s.plan.build = .built) (hc : s.plan.candidate = some c) :
    s.builtCandidate = some c := by
  rw [State.builtCandidate, if_pos hb, hc]

theorem viableCandidate_eq {c : Plan} {b : PlanBody} {s : State} (hb : s.plan.build = .built)
    (hc : s.plan.candidate = some c) (hv : c.verdict = .viable) (hbody : c.body = some b) :
    s.viableCandidate = some (c, b.digest) := by
  rw [State.viableCandidate, builtCandidate_eq hb hc]
  simp only [hv, hbody]

theorem viableCandidate_none {c : Plan} {s : State} (hb : s.plan.build = .built) (hc : s.plan.candidate = some c)
    (hv : c.verdict ≠ .viable) : s.viableCandidate = none := by
  rw [State.viableCandidate, builtCandidate_eq hb hc]
  cases h : c.verdict <;> simp_all

section
variable {c : Plan} {s : State} (hb : s.plan.build = .built) (hc : s.plan.candidate = some c)
  (hp : s.round.phase = .planning)
include hb hc hp

/-- R47: a candidate NOT_VIABLE. -/
theorem entryTransition_notViable (hv : c.verdict = .notViable) : s.entryTransition = some (s, .lockout) := by
  unfold State.entryTransition
  simp only [hp, builtCandidate_eq hb hc]
  rw [if_pos hv]

/-- R46, R69: a candidate that waits. -/
theorem entryTransition_waits (hv : c.verdict = .wait) : s.entryTransition = none := by
  unfold State.entryTransition
  simp only [hp, builtCandidate_eq hb hc, viableCandidate_none hb hc (by rw [hv]; simp)]
  rw [if_neg (by rw [hv]; simp)]

/-- R46, R47: a VIABLE candidate with and without plan agreement. -/
theorem entryTransition_viable {b : PlanBody} (hv : c.verdict = .viable) (hbody : c.body = some b) :
    s.entryTransition = if s.planAgreed b.digest then
      some (s.adoptCandidate c b.digest, (s.adoptCandidate c b.digest).phaseAfterAdoption) else none := by
  unfold State.entryTransition
  simp only [hp, builtCandidate_eq hb hc, viableCandidate_eq hb hc hv hbody]
  rw [if_neg (by rw [hv]; simp)]

theorem planningTakes_testTransition : PlanningTakes s c s.testTransition := by
  have hstands : s.entryTransition = none → s.testTransition = s := fun h => settleEntry_stands h (by rw [hp]; simp)
  have hmoves : ∀ r p, s.entryTransition = some (r, p) → s.testTransition = (r.enterPhase p).settleEntry (6 + 1) := by
    intro r p h
    show State.settleEntry (7 + 1) s = _
    rw [State.settleEntry, h]
  refine ⟨fun hv => ?_, fun hv => hstands (entryTransition_waits hb hc hp hv), fun b hv hbody => ⟨fun hno => ?_, ?_⟩⟩
  · have hlockout : ∀ r : State, r.round.phase = .lockout → r.settleEntry (6 + 1) = r := fun r hr =>
      settleEntry_stands (by unfold State.entryTransition; rw [hr]) (by rw [hr]; simp)
    have hround := State.enterBase_round .lockout s
    have hphase : (s.enterBase .lockout).round.phase = .lockout := by rw [hround]; rfl
    obtain ⟨hin, hcand, -, -⟩ := State.enterBase_plan .lockout s rfl
    have hcommands : s.enterPhase .lockout = s.enterBase .lockout := rfl
    rw [hmoves s .lockout (entryTransition_notViable hb hc hp hv), hcommands, hlockout _ hphase]
    exact ⟨hphase, by rw [hround]; rfl, hin, hcand, State.gateEn_of_phase (by rw [hphase]; rfl)⟩
  · refine hstands ?_
    rw [entryTransition_viable hb hc hp hv hbody, if_neg (by rwa [← Laws.planAgreement_iff])]
  · intro hagree hearly hd hf hheld hline
    rw [hmoves _ _ ((entryTransition_viable hb hc hp hv hbody).trans (if_pos ((Laws.planAgreement_iff s _).mp hagree)))]
    have h := adoption_stands (c := c) (d := b.digest) (n := 6) hp hearly hd hf ⟨hheld, hline⟩
    obtain ⟨hin, hcand, hbuild⟩ := h.adopted
    refine ⟨hin, hcand, hbuild, h.epoch, h.cleared.1, h.cleared.2, h.phase, fun hl hq => h.catching hl (h.phase ▸ hq),
      fun hl hq => h.arming hl (h.phase ▸ hq), fun hl => ⟨?_, (h.record hl).2⟩⟩
    rw [(h.record hl).1]
    exact Laws.recordOf_holds _ _ _ hbody

end

/-! ## The verdict in REVISING -/

/-- R84: the time that a switch needs. -/
theorem revisionTimeLeft_iff {s : State} : s.revisionTimeLeft = true ↔
    ∃ d, s.round.phaseTimer = some d ∧ s.now + (s.params.lead + 2) * (1000 * s.params.report) ≤ d := by
  unfold State.revisionTimeLeft
  cases h : s.round.phaseTimer with
  | none => simp
  | some d =>
    simp only [Option.some.injEq, exists_eq_left', State.report, ms]
    exact decide_eq_true_iff

/-- R177: the port after a record is presented. -/
theorem presentRecord_port {p : Plan} {s : State} :
    (s.presentRecord p).port.switchPending = s.port.switchPending ∧
    (s.presentRecord p).port.record = s.port.record ∧
    (s.presentRecord p).port.presented = some (recordWithCatchOf p s.port.record) ∧
    (recordWithCatchOf p s.port.record ≠ s.port.presented.getD s.port.record →
      (s.presentRecord p).port.rready = true) := by
  simp only [State.presentRecord, State.changeRecord, State.onPort_port]
  split
  next hsame => exact ⟨rfl, rfl, rfl, fun hne => absurd hsame hne⟩
  next => exact ⟨rfl, rfl, rfl, fun _ => rfl⟩

/-- R84, R177: a switch announced. -/
theorem announce_holds {c : Plan} {d : Half} {s : State} :
    (State.announce c d s) = { s with port := (State.announce c d s).port } ∧
    (State.announce c d s).port.switchPending = some ⟨c.revision, s.port.lastMark + 1 + BitVec.ofNat 16 s.params.lead, d⟩ ∧
    (State.announce c d s).port.record = s.port.record ∧
    (State.announce c d s).port.presented =
      some (recordOf c s.port.record.outcome s.port.record.freq s.port.record.angle) ∧
    (recordOf c s.port.record.outcome s.port.record.freq s.port.record.angle ≠ s.port.presented.getD s.port.record →
      (State.announce c d s).port.rready = true) := by
  refine ⟨rfl, ?_⟩
  generalize hr : (s.onPort fun p => { p with switchPending := some ⟨c.revision, s.nextSwitchMark, d⟩ }) = r
  have hport : r.port = { s.port with switchPending := some ⟨c.revision, s.nextSwitchMark, d⟩ } := by rw [← hr]; rfl
  obtain ⟨h1, h2, h3, h4⟩ := presentRecord_port (p := c) (s := r)
  rw [State.announce, hr, h1, h2, h3, hport]
  exact ⟨rfl, rfl, rfl, fun hne => h4 (by rw [hport]; exact hne)⟩

section
variable {c : Plan} {s : State} (hb : s.plan.build = .built) (hc : s.plan.candidate = some c)
  (hp : s.round.phase = .revising)
include hb hc hp

theorem handVerdict_revising :
    s.handVerdict = if c.verdict = .notViable then s.escalate else s.testRevision := by
  unfold State.handVerdict
  simp only [hp, builtCandidate_eq hb hc]

theorem revisingTakes_handVerdict (hr : s.runs = true) : RevisingTakes s c s.handVerdict := by
  refine ⟨fun hv => ?waits, fun hv => ?escalates, fun b announces hv hbody hann => ?viable⟩
  case waits =>
    rw [handVerdict_revising hb hc hp, if_neg (by rw [hv]; simp), State.testRevision,
      viableCandidate_none hb hc (by rw [hv]; simp)]
  case escalates =>
    rw [handVerdict_revising hb hc hp, if_pos hv]
    refine ⟨escalate_not, fun e hw he => ?_⟩
    have htaken := escalate_holds he hw (by rw [hp]; rfl)
    refine ⟨htaken.epoch, htaken.phase, htaken.inForce, State.gateEn_of_phase ?_, fun hdup hq => ?_⟩
    · rcases htaken.phase with h | h <;> rw [h] <;> rfl
    · exact htaken.frame hdup (fitted_of_ownEntry he) (.inl hq)
  case viable =>
    have heq : s.handVerdict =
        s.when (s.revisionAgreed b.digest && s.revisionTimeLeft) (State.announce c b.digest) := by
      rw [handVerdict_revising hb hc hp, if_neg (by rw [hv]; simp), State.testRevision,
        viableCandidate_eq hb hc hv hbody]
    have hiff : announces ↔ (s.revisionAgreed b.digest && s.revisionTimeLeft) = true := by
      rw [hann, Bool.and_eq_true, Laws.revisionAgreement_iff s b.digest hp, revisionTimeLeft_iff]
    rw [heq]
    refine ⟨fun hno => ?_, fun hyes => ?_⟩
    · rw [Bool.eq_false_iff.mpr fun h => hno (hiff.mpr h), State.when_false]
    · have hgo := hiff.mp hyes
      have hl : s.isLine = true := by
        simp only [State.revisionAgreed, Bool.and_eq_true] at hgo
        exact hgo.1.1.1.1
      rw [hgo, State.when_true]
      obtain ⟨hport, hpending, hrecord, hpresented, hready⟩ := announce_holds (c := c) (d := b.digest) (s := s)
      refine ⟨hport, hpending, hrecord, ?_, _, hpresented, Laws.recordOf_holds _ _ _ hbody, hready⟩
      have hruns : (State.announce c b.digest s).runs = s.runs := rfl
      rw [State.reviseOut, hruns, hr, isLine_congr (s := s) (by simp), hl, hpending]
      rfl

end

/-- R67, R69: the verdict of the BUILT candidate handed on. -/
theorem verdictTaken_handVerdict {c : Plan} {s : State} (hr : s.runs = true) (hb : s.plan.build = .built)
    (hc : s.plan.candidate = some c) : VerdictTaken s c s.handVerdict := by
  refine ⟨fun h1 h2 => ?_, fun hp => ?_, fun hp => revisingTakes_handVerdict hb hc hp hr⟩
  · unfold State.handVerdict
    cases h : s.round.phase <;> simp_all
  · have heq : s.handVerdict = s.testTransition := by rw [State.handVerdict, hp]
    rw [heq]
    exact planningTakes_testTransition hb hc hp

end Sys2Proof.Proofs

/-! # The finishing step and aging

PROOFS about the finishing step (R67 to R72) and the aging of a candidate (R69). -/

namespace Sys2Proof.Proofs

open Sys2Proof.Machine Sys2Proof.Safety

/-! ## The verdict of a reason list -/

theorem forbids_iff (r : Reason) :
    r.forbids = true ↔ (∃ i, r = .stuckOpen i) ∨ (∃ p, r = .shortPhase p) ∨ r = .lowFraction := by
  cases r <;> simp [Reason.forbids]

theorem verdictOf_notViable {rs : List Reason} : verdictOf rs = .notViable ↔
    ∃ r ∈ rs, (∃ i, r = .stuckOpen i) ∨ (∃ p, r = .shortPhase p) ∨ r = .lowFraction := by
  simp only [← forbids_iff, ← List.any_eq_true]
  unfold verdictOf
  split
  next h => simp [h]
  next h => split <;> simp [h]

theorem verdictOf_viable {rs : List Reason} : verdictOf rs = .viable ↔ rs = [] := by
  cases rs with
  | nil => simp [verdictOf]
  | cons r rs =>
    unfold verdictOf
    split <;> simp

/-! ## Aging -/

/-- R69: the reasons and the verdict of an aged candidate. -/
theorem age_holds (now : Time) (c : Plan) :
    (∀ r, r ∈ (c.age now).reasons ↔ r ∈ c.reasons ∧ ∀ i d, r = .silentYoung i d → now < d) ∧
    ((c.age now).verdict = .viable ↔ (c.age now).reasons = []) := by
  refine ⟨fun r => ?_, verdictOf_viable⟩
  simp only [Plan.age, List.mem_filter]
  cases r with
  | silentYoung i d => simp [Reason.aged]
  | _ => simp [Reason.aged]

/-- Settles O33: the reasons whose deadlines have passed, and the verdict handed on. -/
theorem agingRemovesPassedDeadlines : Obligations.AgingRemovesPassedDeadlines := by
  intro t c s hr hb hc haged
  have hany : (c.reasons.any (Reason.aged (s.advance t).now)) = true := by
    obtain ⟨i, d, hmem, hd⟩ := haged
    exact List.any_eq_true.mpr ⟨_, hmem, decide_eq_true hd⟩
  have hexec : exec (.agingDeadline t) s = .next ((s.advance t).ageCandidate c) := by
    refine (State.runAt_runs hr).trans (congrArg _ ?_)
    rw [builtCandidate_eq (s := s.advance t) hb hc]
    simp only [hany, State.when_true]
  obtain ⟨hreasons, hverdict⟩ := age_holds (max s.now t) c
  refine ⟨c.age (max s.now t), _, _, hexec, rfl, fun hw hv => ?_, fun hnot => ?_, rfl, rfl, rfl, hreasons, hverdict⟩
  · have hgo : (c.verdict == .wait && (c.age (s.advance t).now).verdict == .viable) = true := by
      rw [hw, show (c.age (s.advance t).now).verdict = .viable from hv]
      rfl
    rw [State.ageCandidate, hgo, State.when_true]
    exact verdictTaken_handVerdict (s := (s.advance t).onPlan fun u =>
      { u with candidate := some (c.age (s.advance t).now) }) hr hb rfl
  · have hstay : (c.verdict == .wait && (c.age (s.advance t).now).verdict == .viable) = false := by
      rw [Bool.and_eq_false_iff]
      exact hnot.imp beq_eq_false_iff_ne.mpr beq_eq_false_iff_ne.mpr
    rw [State.ageCandidate, hstay, State.when_false]
    rfl

/-! ## The reasons of the finishing step -/

theorem mem_shortPhases {m : Nat} {live : Abc (List Nat)} {r : Reason} :
    r ∈ shortPhases m live ↔ ∃ p, p < 3 ∧ r = .shortPhase p ∧ (live.get p).length < m := by
  have hphase : ∀ (x : Prop) [Decidable x] (p : Nat), r ∈ (if x then [Reason.shortPhase p] else []) ↔
      r = .shortPhase p ∧ x := by
    intro x _ p
    split <;> simp_all
  simp only [shortPhases, List.mem_append, hphase]
  constructor
  · rintro ((⟨rfl, h⟩ | ⟨rfl, h⟩) | ⟨rfl, h⟩)
    · exact ⟨0, by omega, rfl, h⟩
    · exact ⟨1, by omega, rfl, h⟩
    · exact ⟨2, by omega, rfl, h⟩
  · rintro ⟨p, hp, rfl, h⟩
    obtain rfl | rfl | rfl : p = 0 ∨ p = 1 ∨ p = 2 := by omega
    · exact .inl (.inl ⟨rfl, h⟩)
    · exact .inl (.inr ⟨rfl, h⟩)
    · exact .inr ⟨rfl, h⟩

theorem mem_keptAt {w : Time} {l : List Reason} {r : Reason} :
    r ∈ l.filter (Reason.keptAt w) ↔ r ∈ l ∧ ∀ i d, r = .silentYoung i d → w < d := by
  rw [List.mem_filter]
  cases r <;> simp [Reason.keptAt]

section
variable {p : Params} {w : Time} {t : Tallies} {c : Plan}

/-- R67: a candidate with enough LIVE cells in every phase is balanced. -/
theorem finishPlan_balanced (h : shortPhases p.minLive t.live = []) :
    finishPlan p w t c =
      { c with
        mode := modeOf p.balance, counts := (balanceOf (modeOf p.balance) p.cells t.live).counts
        body := some ((balanceOf (modeOf p.balance) p.cells t.live).planBody c.epoch c.revision (modeOf p.balance))
        reasons := t.pending.filter (Reason.keptAt w) ++
          if (balanceOf (modeOf p.balance) p.cells t.live).fraction < p.minFraction then [Reason.lowFraction] else []
        verdict := verdictOf (t.pending.filter (Reason.keptAt w) ++
          if (balanceOf (modeOf p.balance) p.cells t.live).fraction < p.minFraction then [Reason.lowFraction] else []) } := by
  simp [finishPlan, h]

/-- R67: a candidate short of a phase has no body. -/
theorem finishPlan_short (h : shortPhases p.minLive t.live ≠ []) :
    finishPlan p w t c =
      { c with
        mode := modeOf p.balance, counts := t.live.map List.length, body := none
        reasons := t.pending.filter (Reason.keptAt w) ++ shortPhases p.minLive t.live
        verdict := verdictOf (t.pending.filter (Reason.keptAt w) ++ shortPhases p.minLive t.live) } := by
  simp [finishPlan, h]

theorem finishPlan_verdict : (finishPlan p w t c).verdict = verdictOf (finishPlan p w t c).reasons := by
  by_cases h : shortPhases p.minLive t.live = []
  · rw [finishPlan_balanced h]
  · rw [finishPlan_short h]

theorem mem_finishPlan_reasons (r : Reason) :
    r ∈ (finishPlan p w t c).reasons ↔
      (r ∈ t.pending ∧ ∀ i d, r = .silentYoung i d → w < d) ∨
      (∃ k, k < 3 ∧ r = .shortPhase k ∧ (t.live.get k).length < p.minLive) ∨
      (r = .lowFraction ∧ ∃ b, (finishPlan p w t c).body = some b ∧ b.fraction < p.minFraction) := by
  rw [← mem_keptAt, ← mem_shortPhases]
  by_cases h : shortPhases p.minLive t.live = []
  · rw [finishPlan_balanced h]
    simp only [List.mem_append, h, List.not_mem_nil, false_or, Option.some.injEq, exists_eq_left']
    refine or_congr_right ?_
    show _ ↔ r = .lowFraction ∧ (balanceOf (modeOf p.balance) p.cells t.live).fraction < p.minFraction
    split <;> simp_all
  · rw [finishPlan_short h]
    simp

/-- R67: a candidate short of a phase, by its reasons. -/
theorem finishPlan_body_none (hsound : ∀ r ∈ t.pending, walkReason r = true) :
    (finishPlan p w t c).body = none ↔ ∃ k, .shortPhase k ∈ (finishPlan p w t c).reasons := by
  have hno : ∀ k, .shortPhase k ∉ t.pending := fun k hk => by
    have h := hsound _ hk
    simp [walkReason] at h
  by_cases h : shortPhases p.minLive t.live = []
  · have hlow : ∀ (x : Prop) [Decidable x] (k : Nat), .shortPhase k ∉ (if x then [Reason.lowFraction] else []) := by
      intro x _ k
      split <;> simp
    rw [finishPlan_balanced h]
    simp [hno, hlow]
  · obtain ⟨r, hr⟩ := List.exists_mem_of_ne_nil _ h
    obtain ⟨k, -, rfl, -⟩ := mem_shortPhases.mp hr
    rw [finishPlan_short h]
    exact ⟨fun _ => ⟨k, List.mem_append_right _ hr⟩, fun _ => rfl⟩

/-- R67: the counts of a candidate short of a phase. -/
theorem finishPlan_counts_short (h : (finishPlan p w t c).body = none) :
    (finishPlan p w t c).counts = ⟨t.live.a.length, t.live.b.length, t.live.c.length⟩ := by
  by_cases hs : shortPhases p.minLive t.live = []
  · rw [finishPlan_balanced hs] at h
    simp at h
  · rw [finishPlan_short hs]
    rfl

end

/-! ## Balancing -/

/-- The six orders of the three phases. -/
theorem phases_permuted : ∀ x < 3, ∀ y < 3, ∀ z < 3, x ≠ y → y ≠ z → x ≠ z →
    (x = 0 ∧ y = 1 ∧ z = 2) ∨ (x = 0 ∧ y = 2 ∧ z = 1) ∨ (x = 1 ∧ y = 0 ∧ z = 2) ∨
      (x = 1 ∧ y = 2 ∧ z = 0) ∨ (x = 2 ∧ y = 0 ∧ z = 1) ∨ (x = 2 ∧ y = 1 ∧ z = 0) := by
  intro x hx y hy z hz
  omega

/-- R70: the counts sorted, by their order and with equal counts in phase order. -/
theorem sortCounts_eq {n : Abc Nat} {x y z : Nat} (hx : x < 3) (hy : y < 3) (hz : z < 3) (hxy : x ≠ y) (hyz : y ≠ z)
    (hxz : x ≠ z) (h1 : n.get y ≤ n.get x) (h2 : n.get z ≤ n.get y) (hfirst : n.get x = n.get y → x < y)
    (hlast : n.get y = n.get z → y < z) : sortCounts n = ((n.get x, x), (n.get y, y), (n.get z, z)) := by
  rcases phases_permuted x hx y hy z hz hxy hyz hxz with ⟨rfl, rfl, rfl⟩ | ⟨rfl, rfl, rfl⟩ | ⟨rfl, rfl, rfl⟩ | ⟨rfl, rfl, rfl⟩ | ⟨rfl, rfl, rfl⟩ |
    ⟨rfl, rfl, rfl⟩
  all_goals
    simp only [Abc.get, Nat.one_ne_zero, (by decide : (2 : Nat) ≠ 0), (by decide : (2 : Nat) ≠ 1), if_true, if_false] at h1 h2 hfirst hlast ⊢
    unfold sortCounts
    repeat' split
    all_goals first | rfl | omega

/-- R71: the row of a triple of the table. -/
theorem shiftLookup_of_mem {r : ShiftRow} (hr : r ∈ shiftTable) : shiftLookup r.x r.y r.z = r := by
  unfold shiftLookup
  cases hfind : shiftTable.find? (fun q => q.x == r.x && q.y == r.y && q.z == r.z) with
  | none => exact absurd (List.find?_eq_none.mp hfind r hr) (by simp)
  | some q =>
    have hq := List.find?_some hfind
    simp only [Bool.and_eq_true, beq_iff_eq] at hq
    exact shiftRow_unique (List.mem_of_find?_eq_some hfind) hr hq.1.1 hq.1.2 hq.2

/-- R70: the angle between two phases of a balanced plan. -/
theorem planAngle_shift {b : PlanBody} {r : ShiftRow} {x y z : Nat} (hx : x < 3) (hy : y < 3) (hz : z < 3) (hxy : x ≠ y)
    (hyz : y ≠ z) (hxz : x ≠ z) (hab : b.thetaAB = angleBetween r x y 0 1) (hbc : b.thetaBC = angleBetween r x y 1 2)
    (hca : b.thetaCA = angleBetween r x y 2 0) :
    planAngle b x y = r.xy ∧ planAngle b y z = r.yz ∧ planAngle b z x = r.zx := by
  unfold planAngle
  rw [hab, hbc, hca]
  rcases phases_permuted x hx y hy z hz hxy hyz hxz with ⟨rfl, rfl, rfl⟩ | ⟨rfl, rfl, rfl⟩ | ⟨rfl, rfl, rfl⟩ | ⟨rfl, rfl, rfl⟩ | ⟨rfl, rfl, rfl⟩ |
    ⟨rfl, rfl, rfl⟩
  all_goals exact ⟨rfl, rfl, rfl⟩

/-- R70: what SHIFT makes of the sorted counts. -/
theorem balanceShift_eq {n x y z : Nat} {live : Abc (List Nat)} {r : ShiftRow} (hr : r ∈ shiftTable) (hx : x < 3)
    (hy : y < 3) (hz : z < 3) (hxy : x ≠ y) (hyz : y ≠ z) (hxz : x ≠ z) (h1 : r.x = (live.get x).length)
    (h2 : r.y = (live.get y).length) (h3 : r.z = (live.get z).length) (hfirst : r.x = r.y → x < y)
    (hlast : r.y = r.z → y < z) :
    balanceShift n live =
      ⟨live.map List.length, angleBetween r x y 0 1, angleBetween r x y 1 2, angleBetween r x y 2 0, r.span,
        1000 * r.span / (1732 * n), live, []⟩ := by
  obtain ⟨-, hzy, hyx, -⟩ := shiftRow_sound r hr
  have hget : ∀ p, (live.map List.length).get p = (live.get p).length := by
    intro p
    unfold Abc.get
    split
    · rfl
    · split <;> rfl
  have hsort : sortCounts (live.map List.length) = ((r.x, x), (r.y, y), (r.z, z)) := by
    have := sortCounts_eq (n := live.map List.length) hx hy hz hxy hyz hxz (by rw [hget, hget, ← h1, ← h2]; exact hyx)
      (by rw [hget, hget, ← h2, ← h3]; exact hzy) (by rw [hget, hget, ← h1, ← h2]; exact hfirst)
      (by rw [hget, hget, ← h2, ← h3]; exact hlast)
    rwa [hget, hget, hget, ← h1, ← h2, ← h3] at this
  rw [balanceShift, hsort]
  simp only [shiftLookup_of_mem hr]

theorem exec_finishingStep {t : Time} {c : Plan} {s : State} (hr : s.runs = true) (hb : s.plan.build = .finishing)
    (hc : s.plan.candidate = some c) :
    exec (.finishingStep t) s = .next (State.handVerdict { s.advance t with
      plan := { s.plan with
        build := .built, candidate := some (finishPlan s.params s.plan.walkEnd s.plan.tallies c) } }) := by
  refine (State.runAt_runs hr).trans (congrArg _ ?_)
  have hfinish : (s.advance t).finishWalk = { s.advance t with
      plan := { s.plan with
        build := .built, candidate := some (finishPlan s.params s.plan.walkEnd s.plan.tallies c) } } := by
    show { s.advance t with
      plan := { s.plan with
        build := .built
        candidate := s.plan.candidate.map (finishPlan s.params s.plan.walkEnd s.plan.tallies) } } = _
    rw [hc]
    rfl
  rw [show (s.advance t).plan.build = .finishing from hb, ← hfinish]
  exact State.when_true ..

/-- Settles O32: the finished candidate by its reasons and its balance, and its verdict handed on. -/
theorem finishingStepGivesVerdict : Obligations.FinishingStepGivesVerdict := by
  rintro t c live s hr hb hc hsound rfl
  refine ⟨_, _, exec_finishingStep hr hb hc, verdictTaken_handVerdict hr rfl rfl, finishPlan_epoch .., ?_, ?_, ?_, ?_, ?_,
    finishPlan_body_none hsound, mem_finishPlan_reasons, finishPlan_counts_short, fun b hbody => ?_⟩
  case refine_6 =>
    obtain ⟨hcounts, rfl⟩ := finishPlan_body_some hbody
    refine ⟨fun hzero => ?shift, fun hone k hk => ?trim⟩
    case shift =>
      have hmode : modeOf s.params.balance = .shift := if_pos hzero
      rw [hcounts, hmode]
      refine ⟨rfl, rfl, rfl, rfl, fun x y z r hmem hx hy hz hxy hyz hxz h1 h2 h3 hfirst hlast => ?_⟩
      have heq := balanceShift_eq (n := s.params.cells) hmem hx hy hz hxy hyz hxz h1 h2 h3 hfirst hlast
      have hbalance : balanceOf .shift s.params.cells s.plan.tallies.live =
        balanceShift s.params.cells s.plan.tallies.live := rfl
      rw [hbalance, heq]
      exact ⟨rfl, planAngle_shift hx hy hz hxy hyz hxz rfl rfl rfl⟩
    case trim =>
      have hmode : modeOf s.params.balance = .trim := if_neg hone
      rw [hcounts, hmode, hk]
      exact ⟨rfl, rfl, rfl, rfl, rfl, rfl, rfl, rfl⟩
  case refine_3 => 
    by_cases h : shortPhases s.params.minLive s.plan.tallies.live = []
    · rw [finishPlan_balanced h]; rfl
    · rw [finishPlan_short h]; rfl
  case refine_4 => rw [finishPlan_verdict]; exact verdictOf_notViable
  case refine_5 => rw [finishPlan_verdict]; exact verdictOf_viable
  all_goals
    by_cases h : shortPhases s.params.minLive s.plan.tallies.live = []
    · rw [finishPlan_balanced h]
    · rw [finishPlan_short h]

end Sys2Proof.Proofs

/-! # Versions, epochs and the merge of one index

PROOFS about serial comparison (R2, R6, R29) and the merge of one index (R17 to R21). -/

namespace Sys2Proof.Proofs

open Sys2Proof.Machine Sys2Proof.Safety

/-! ## Serial comparison -/

theorem toNat_half_sub (a b : Half) : (a - b).toNat = (65536 + a.toNat - b.toNat) % 65536 := by
  rw [BitVec.toNat_sub]
  congr 1
  have := b.isLt
  omega

/-- R2, R29: serial comparison with its tie broken by value. -/
theorem serialAfter_iff (a b : Half) :
    (serialNewer a b || (decide ((a - b).toNat = 32768) && decide (b.toNat < a.toNat))) = true ↔ SerialAfter a b := by
  simp only [SerialAfter, forall_eq, serialNewer, toNat_half_sub, Bool.or_eq_true, Bool.and_eq_true, decide_eq_true_eq]

theorem epochNewer_iff (a b : Half) : epochNewer a b = true ↔ SerialAfter a b := serialAfter_iff a b

theorem versionNewer_iff (a b : Half) : versionNewer a b = true ↔ a ≠ 0 ∧ (b = 0 ∨ SerialAfter a b) := by
  unfold versionNewer
  split
  next ha => simp [ha]
  next ha =>
    split
    next hb => simp [ha, hb]
    next hb => rw [serialAfter_iff]; simp [ha, hb]

theorem versionSucc_eq (v : Half) : versionSucc v = if v.toNat = 65535 then 1 else v + 1#16 := by
  unfold versionSucc
  have : v = 65535#16 ↔ v.toNat = 65535 := by rw [← BitVec.toNat_inj]; rfl
  simp only [this]
  rfl

/-! ## The merge of one index -/

section
variable {now : Time} {r h : RosterEntry}

/-- R17, R18: a newer version. -/
theorem mergeObserved_newer (hn : versionNewer r.version h.version = true) (hv : r.version ≠ h.version) :
    mergeObserved now r h = (r.adopt now h, some .theirsNewer) := by
  rw [mergeObserved, if_neg (Ne.symm hv), if_pos hn]

/-- R17: an older version. -/
theorem mergeObserved_older (hn : versionNewer r.version h.version = false) (hv : r.version ≠ h.version) :
    mergeObserved now r h = (h, some .oursNewer) := by
  rw [mergeObserved, if_neg (Ne.symm hv), if_neg (by rw [hn]; simp)]

theorem mergeObserved_same (hv : r.version = h.version) (hc : sameContent h r = true) :
    mergeObserved now r h = (h, none) := by
  rw [mergeObserved, if_pos hv.symm, if_pos hc]

/-- R20: the owner's content and an observer's differ. -/
theorem sameContent_of_source (h1 : h.source ≠ r.source) : sameContent h r = false := by
  rw [sameContent, beq_eq_false_iff_ne.mpr h1, Bool.and_false, Bool.false_and]

theorem mergeObserved_owner (hv : r.version = h.version) (h1 : h.source = .observer) (h2 : r.source = .owner) :
    mergeObserved now r h = (r.adopt now h, some .theirsNewer) := by
  have hne : h.source ≠ r.source := by rw [h1, h2]; simp
  rw [mergeObserved, if_pos hv.symm, if_neg (by rw [sameContent_of_source hne]; simp), if_neg hne, if_pos h2]

theorem mergeObserved_observer (hv : r.version = h.version) (h1 : h.source = .owner) (h2 : r.source = .observer) :
    mergeObserved now r h = (h, some .oursNewer) := by
  have hne : h.source ≠ r.source := by rw [h1, h2]; simp
  rw [mergeObserved, if_pos hv.symm, if_neg (by rw [sameContent_of_source hne]; simp), if_neg hne,
    if_neg (by rw [h2]; simp)]

/-- R20: one source and two contents. -/
theorem mergeObserved_conflict (hv : r.version = h.version) (hs : h.source = r.source) (hc : sameContent h r = false) :
    mergeObserved now r h = (if prevails r h then r.adopt now h else h, some .conflict) := by
  rw [mergeObserved, if_pos hv.symm, if_neg (by rw [hc]; simp), if_pos hs]

theorem prevails_iff : prevails r h = true ↔ h.cond.code < r.cond.code ∨ (h.cond = r.cond ∧ h.cls < r.cls) := by
  simp [prevails]

/-- R21: another content received for the own entry. -/
theorem mergeOwned_reasserts (hv : h.version = r.version ∨ versionNewer r.version h.version = true)
    (hc : sameContent h r = false) :
    mergeOwned now r h = ({ h with version := versionSucc r.version }, some .oursNewer) := by
  rw [mergeOwned, if_pos hv, if_neg (by rw [hc]; simp)]

end

/-- Settles O24: versions, their successor, and one index compared. -/
theorem mergeTakesNewerEntry : Obligations.MergeTakesNewerEntry := by
  refine ⟨versionNewer_iff, versionSucc_eq, fun now r h => ?_⟩
  have hobserved : mergeEntry false now r h = mergeObserved now r h := rfl
  have howned : mergeEntry true now r h = mergeOwned now r h := rfl
  rw [hobserved, howned]
  refine ⟨mergeObserved_newer, fun hv hn => mergeObserved_older hn hv, mergeObserved_same, fun hv h1 h2 => ?_,
    mergeObserved_observer, fun hv hs hc => ?_, mergeOwned_reasserts⟩
  · rw [mergeObserved_owner hv h1 h2]
    exact ⟨rfl, h2, rfl, rfl⟩
  · rw [mergeObserved_conflict hv hs hc]
    by_cases hp : prevails r h = true
    · rw [if_pos hp, if_pos (prevails_iff.mp hp)]
      exact ⟨rfl, hv, rfl⟩
    · rw [if_neg hp, if_neg fun hh => hp (prevails_iff.mpr hh)]
      exact ⟨rfl, rfl, rfl⟩

end Sys2Proof.Proofs

/-! # Frames read back

PROOFS about the layouts of Tables 9-4 to 9-9: what is written is read back (R146, R147, R163 to R165). -/

namespace Sys2Proof.Proofs

open Sys2Proof.Machine Sys2Proof.Safety

/-! ## Fields -/

theorem bytesOfHalf_eq (h : Half) : bytesOfHalf h = [h.extractLsb' 8 8, h.extractLsb' 0 8] := rfl

/-- R164: a 16-bit field is read back from its two bytes. -/
@[simp] theorem halfOfBytes_bytes (h : Half) : halfOfBytes (h.extractLsb' 8 8) (h.extractLsb' 0 8) = h := by
  refine BitVec.eq_of_getLsbD_eq fun i hi => ?_
  simp only [halfOfBytes, BitVec.getLsbD_append, BitVec.getLsbD_extractLsb']
  by_cases h8 : i < 8
  · simp [h8]
  · have : 8 + (i - 8) = i := by omega
    simp [h8, this]
    omega

/-- Table 9-1: a kind is read back from its byte. -/
theorem kind_ofByte_byte (k : Kind) : Kind.ofByte k.byte = some k := by
  cases k <;> rfl

/-- Table 9-5: the flags of a STATE are read back. -/
theorem stateFlags_read (p l : Bool) :
    (BitVec.ofBool p ++ BitVec.ofBool l ++ 0#6).getLsbD 7 = p ∧ (BitVec.ofBool p ++ BitVec.ofBool l ++ 0#6).getLsbD 6 = l := by
  revert p l
  decide

/-- Table 9-9: the flags of a LINE frame are read back. -/
theorem lineFlags_read (l : LinePayload) :
    l.flags.getLsbD 7 = l.runReq ∧ l.flags.getLsbD 6 = l.brakeOpen ∧ l.flags.getLsbD 5 = l.dir ∧
    l.flags.getLsbD 4 = l.overhaul ∧ l.flags.getLsbD 3 = l.slowZone ∧ l.flags.getLsbD 2 = l.driveTrip := by
  have h : ∀ a b c d e f : Bool, ∀ x : Byte, x = BitVec.ofBool a ++ BitVec.ofBool b ++ BitVec.ofBool c ++ BitVec.ofBool d
      ++ BitVec.ofBool e ++ BitVec.ofBool f ++ 0#2 →
      x.getLsbD 7 = a ∧ x.getLsbD 6 = b ∧ x.getLsbD 5 = c ∧ x.getLsbD 4 = d ∧ x.getLsbD 3 = e ∧ x.getLsbD 2 = f := by
    rintro a b c d e f x rfl
    revert a b c d e f
    decide
  exact h _ _ _ _ _ _ _ rfl

/-- Table 9-6: the condition, the source and the class of an entry are read back. -/
theorem itemFields_read (e : SummaryItem) :
    (e.cond ++ 0#3 ++ BitVec.ofBool e.owner).extractLsb' 4 4 = e.cond ∧
    (e.cond ++ 0#3 ++ BitVec.ofBool e.owner).getLsbD 0 = e.owner ∧ (0#4 ++ e.cls).extractLsb' 0 4 = e.cls := by
  have h1 : ∀ (c : BitVec 4) (o : Bool), (c ++ 0#3 ++ BitVec.ofBool o).extractLsb' 4 4 = c ∧
      (c ++ 0#3 ++ BitVec.ofBool o).getLsbD 0 = o := by decide
  have h2 : ∀ k : BitVec 4, (0#4 ++ k).extractLsb' 0 4 = k := by decide
  exact ⟨(h1 _ _).1, (h1 _ _).2, h2 _⟩

/-! ## Payloads -/

/-- Table 9-6: entries are read back. -/
theorem readItems_bytes : ∀ es : List SummaryItem, readItems (es.flatMap SummaryItem.bytes) = some es
  | [] => rfl
  | e :: es => by
    obtain ⟨hcond, howner, hcls⟩ := itemFields_read e
    simp only [List.flatMap_cons, SummaryItem.bytes, bytesOfHalf_eq, List.cons_append, List.nil_append, readItems,
      readItems_bytes es, hcond, howner, hcls, halfOfBytes_bytes]

/-- Table 9-9: the bytes of the optional blocks. -/
def lineBlocks (l : LinePayload) : List Byte :=
  (l.catchBlock.map CatchBlock.bytes).getD [] ++ (l.switchBlock.map SwitchBlock.bytes).getD []

theorem lineBytes_eq (l : LinePayload) :
    l.bytes = bytesOfHalf l.mark ++ [l.flags, l.faultCount] ++ bytesOfHalf l.encFreq ++ bytesOfHalf l.driveFreq
      ++ bytesOfHalf l.driveAngle ++ lineBlocks l := by
  unfold LinePayload.bytes lineBlocks
  cases l.catchBlock <;> cases l.switchBlock <;> simp only [Option.map_none, Option.map_some, Option.getD_none,
    Option.getD_some, List.append_assoc]

/-- Table 9-9: the optional blocks are read back. -/
theorem readBlocks_lineBlocks (l : LinePayload) : readBlocks (lineBlocks l) = some (l.catchBlock, l.switchBlock) := by
  unfold lineBlocks
  cases l.catchBlock <;> cases l.switchBlock <;>
    simp only [Option.map_none, Option.map_some, Option.getD_none, Option.getD_some, CatchBlock.bytes,
      SwitchBlock.bytes, bytesOfHalf_eq, List.cons_append, List.nil_append, List.append_nil, readBlocks,
      halfOfBytes_bytes]

/-- R165: how long a SUMMARY's entries are. -/
theorem itemBytes_length : ∀ es : List SummaryItem, (es.flatMap SummaryItem.bytes).length = 4 * es.length
  | [] => rfl
  | e :: es => by
    rw [List.flatMap_cons, List.length_append, itemBytes_length es]
    simp [SummaryItem.bytes, bytesOfHalf_eq]
    omega

/-- R165: a payload the part can send. -/
def Payload.sendable (p : Payload) : Prop := ∀ es, p = .summary es → summaryCount es.length = true

/-- Tables 9-5 to 9-9: a payload is read back. -/
theorem readPayload_bytes {p : Payload} (h : Payload.sendable p) : readPayload p.kind p.bytes = some p := by
  cases p with
  | alarm o c ph => rfl
  | step c r d w =>
    simp only [Payload.bytes, Payload.kind, bytesOfHalf_eq, List.cons_append, List.nil_append, readPayload,
      halfOfBytes_bytes]
  | line l =>
    obtain ⟨h7, h6, h5, h4, h3, h2⟩ := lineFlags_read l
    simp only [Payload.bytes, Payload.kind, lineBytes_eq, bytesOfHalf_eq, List.cons_append, List.nil_append,
      readPayload, readBlocks_lineBlocks, h7, h6, h5, h4, h3, h2, halfOfBytes_bytes]
  | state p =>
    obtain ⟨h7, h6⟩ := stateFlags_read p.planPresent p.lineLost
    simp only [Payload.bytes, Payload.kind, StatePayload.bytes, bytesOfHalf_eq, List.cons_append, List.nil_append,
      readPayload, h7, h6, halfOfBytes_bytes]
  | summary es =>
    have hcount := h es rfl
    have hsmall : (BitVec.ofNat 8 es.length).toNat = es.length := by
      simp only [summaryCount, Bool.and_eq_true, decide_eq_true_eq] at hcount
      rw [BitVec.toNat_ofNat]
      omega
    simp only [Payload.bytes, Payload.kind, readPayload, hsmall, hcount, readItems_bytes, if_true]

/-- R165: a payload the part can send is shorter than 256 bytes. -/
theorem payloadBytes_length {p : Payload} (h : Payload.sendable p) : p.bytes.length < 256 := by
  cases p with
  | alarm o c ph => simp [Payload.bytes]
  | step c r d w => simp [Payload.bytes, bytesOfHalf_eq]
  | line l =>
    simp only [Payload.bytes, lineBytes_eq, lineBlocks, bytesOfHalf_eq, List.length_append, List.length_cons,
      List.length_nil]
    cases l.catchBlock <;> cases l.switchBlock <;> simp [CatchBlock.bytes, SwitchBlock.bytes, bytesOfHalf_eq]
  | state p => simp [Payload.bytes, StatePayload.bytes, bytesOfHalf_eq]
  | summary es =>
    have hcount := h es rfl
    simp only [summaryCount, Bool.and_eq_true, decide_eq_true_eq] at hcount
    simp only [Payload.bytes, List.length_cons, itemBytes_length]
    omega

/-! ## Frames -/

theorem sendable_of_wf {f : Frame} (h : f.wf = true) : f.station.toNat ≤ 27 ∧ Payload.sendable f.payload := by
  simp only [Frame.wf, Bool.and_eq_true, decide_eq_true_eq] at h
  refine ⟨h.1, fun es hes => ?_⟩
  have hcount := h.2
  rw [hes] at hcount
  exact hcount

/-- R147, R163: a frame is read back from its bytes. -/
theorem readFrame_bytes {f : Frame} (h : f.wf = true) : readFrame f.bytes = some f := by
  obtain ⟨hstation, hsend⟩ := sendable_of_wf h
  have hlength : (BitVec.ofNat 8 f.payload.bytes.length).toNat = f.payload.bytes.length := by
    rw [BitVec.toNat_ofNat]
    exact Nat.mod_eq_of_lt (payloadBytes_length hsend)
  have hbytes : f.bytes = f.station :: f.payload.kind.byte :: BitVec.ofNat 8 f.payload.bytes.length ::
      f.epoch.extractLsb' 8 8 :: f.epoch.extractLsb' 0 8 :: (f.payload.bytes ++ bytesOfHalf (crc f.body)) := by
    simp [Frame.bytes, Frame.body, bytesOfHalf_eq]
  have hbody : [f.station, f.payload.kind.byte, BitVec.ofNat 8 f.payload.bytes.length, f.epoch.extractLsb' 8 8,
      f.epoch.extractLsb' 0 8] ++ f.payload.bytes = f.body := by
    simp [Frame.body, bytesOfHalf_eq]
  rw [hbytes, readFrame]
  simp only [hlength, List.take_left, List.drop_left, hbody, hstation, and_self, if_true, kind_ofByte_byte,
    readPayload_bytes hsend, halfOfBytes_bytes]

/-- Settles O19: the transmission's bits, its bytes, and the frame's own layout. -/
theorem transmissionReadsBackAsFrame : Obligations.TransmissionReadsBackAsFrame := by
  intro f h
  rw [examine, Frame.transmission, bitsOfCells_cellOfBit]
  simp only [bytesOfBits_bitsOfBytes, if_true, readFrame_bytes h]

end Sys2Proof.Proofs

/-! # A frame heard and its epoch taken

PROOFS about every valid frame from another station (R29, R34, R54, R156, R160): the heard table and the isolation clock, and
what the rest of a frame leaves in JOINING, LOCKOUT and TRIPPED. -/

namespace Sys2Proof.Proofs

open Sys2Proof.Machine Sys2Proof.Safety

/-! ## The isolation clock -/

/-- R160: the isolation clock set at the present time, with a frame taken. -/
def FrameNoted (s : State) : Prop := s.bus.isoClock = s.now ∧ s.round.firstTaken = true

theorem frameNoted_setEpoch {s : State} (e : Half) (hs : FrameNoted s) : FrameNoted (s.setEpoch e) := by
  refine ⟨by simpa using hs.1, ?_⟩
  unfold State.setEpoch
  split
  · exact hs.2
  · exact when_keeps (P := fun r : State => r.round.firstTaken = true) hs.2 fun _ => hs.2

theorem frameNoted_keptByParts : KeptByParts FrameNoted := by
  constructor
  case bus =>
    rintro s f - hclock - ⟨h1, h2⟩
    exact ⟨hclock.elim (fun h => h.trans h1) id, h2⟩
  case round =>
    rintro s f - - - - - htaken - ⟨h1, h2⟩
    exact ⟨h1, htaken h2⟩
  case planEntryChange =>
    intro s i hs
    simpa [FrameNoted] using hs
  case blocks =>
    rintro s p - - ⟨h1, h2⟩
    refine ⟨?_, by rw [blocksOnEntry_round]; exact h2⟩
    rw [blocksOnEntry_bus]
    show (if p = .joining then s.now else s.bus.isoClock) = (s.blocksOnEntry p).now
    rw [h1, ite_self]
    simp [State.blocksOnEntry]
  case setEpochCleared => exact fun e _ hs => frameNoted_setEpoch e hs
  all_goals
    intros
    assumption

theorem frameNoted_kept : Kept FrameNoted := frameNoted_keptByParts.kept frameNoted_setEpoch fun _ hr => hr

/-- R29, R160: the isolation clock and the mark of a frame taken, once a frame is heard. -/
theorem frameNoted_takeFrame (f : Frame) (s : State) : FrameNoted (s.takeFrame f) := by
  have hheard : (s.hear f).bus.isoClock = s.now :=
    when_keeps (P := fun r : State => r.bus.isoClock = s.now) rfl fun _ => by
      unfold State.queueState State.enqueue
      split <;> rfl
  have hended : (s.hear f).endIsolation.bus.isoClock = s.now := by
    refine when_keeps (P := fun r : State => r.bus.isoClock = s.now) hheard fun _ => ?_
    rw [(enter_joining _).2.1]
    simp [Bif.onEntry, Bif.emptied]
  have hnow : (s.hear f).endIsolation.now = s.now := by simp
  exact frameNoted_kept.takeEpoch_noted f ⟨hended.trans hnow.symm, rfl⟩

/-! ## The heard table -/

/-- R157: time passing leaves what a station's frames said. -/
theorem heardAt_advance_state (t : Time) (n : Nat) (s : State) :
    ((s.advance t).heardAt n).state = (s.heardAt n).state := by
  have hmap : (s.advance t).bus.heard = s.bus.heard.map (HeardEntry.aged (max s.now t) s.report s.quietTime) := rfl
  rw [State.heardAt, State.heardAt, hmap, List.getD_eq_getElem?_getD, List.getD_eq_getElem?_getD, List.getElem?_map]
  cases s.bus.heard[n]? <;> rfl

/-- R156: the heard table once a frame is taken. -/
theorem takeFrame_heard (f : Frame) (s : State) :
    (s.takeFrame f).bus.heard = s.bus.heard.set f.station.toNat
      ⟨.heard, some s.now, some f.epoch, (heardStateOf s.now f).or (s.heardAt f.station.toNat).state⟩ := by
  have hheard : (s.hear f).bus.heard = s.bus.heard.set f.station.toNat
      ⟨.heard, some s.now, some f.epoch, (heardStateOf s.now f).or (s.heardAt f.station.toNat).state⟩ :=
    when_keeps (P := fun r : State => r.bus.heard = s.bus.heard.set f.station.toNat
      ⟨.heard, some s.now, some f.epoch, (heardStateOf s.now f).or (s.heardAt f.station.toNat).state⟩) rfl fun _ => by
        have hqueue : ∀ r : State, r.queueState.bus.heard = r.bus.heard := fun r => by simp
        rw [hqueue]
        rfl
  rw [State.takeFrame]
  simpa using hheard

/-! ## What the rest of a frame leaves in JOINING, LOCKOUT and TRIPPED -/

/-- The phases in which neither an entry change nor a frame's facts have an effect on the phase. -/
def Phase.idles (p : Phase) : Prop := p = .joining ∨ p = .lockout ∨ p = .tripped

/-- What the rest of a frame leaves in such a phase: the round but for armed set, early steps, line facts and presence, the
own-entry authority, the plan, and without a plan the restart state and the Line Port. -/
structure Idles (s r : State) : Prop where
  round : r.round = { s.round with
    armed := r.round.armed, refusal := r.round.refusal, early := r.round.early, facts := r.round.facts
    runDemand := r.round.runDemand, lineLost := r.round.lineLost, linePresent := r.round.linePresent }
  authority : r.roster.authority = s.roster.authority
  store : r.store = s.store
  inForce : r.plan.inForce = s.plan.inForce
  plan : s.plan.build = .none → r.plan = s.plan
  line : s.plan.inForce = none → r.catcher = s.catcher ∧ r.port = s.port

theorem Idles.refl (s : State) : Idles s s := ⟨rfl, rfl, rfl, rfl, fun _ => rfl, fun _ => ⟨rfl, rfl⟩⟩

theorem Idles.trans {s r q : State} (h1 : Idles s r) (h2 : Idles r q) : Idles s q where
  round := by rw [h2.round, h1.round]
  authority := h2.authority.trans h1.authority
  store := h2.store.trans h1.store
  inForce := h2.inForce.trans h1.inForce
  plan := fun hb => by
    have h := h1.plan hb
    exact (h2.plan (by rw [h]; exact hb)).trans h
  line := fun hn => by
    obtain ⟨hc, hp⟩ := h1.line hn
    obtain ⟨hc', hp'⟩ := h2.line (h1.inForce.trans hn)
    exact ⟨hc'.trans hc, hp'.trans hp⟩

theorem Idles.phase {s r : State} (h : Idles s r) : r.round.phase = s.round.phase := by rw [h.round]

/-- A change of the bus and of the roster's own fields. -/
theorem idles_roster {s r : State} (hround : r.round = s.round) (hauth : r.roster.authority = s.roster.authority)
    (hstore : r.store = s.store) (hplan : r.plan = s.plan) (hcatcher : r.catcher = s.catcher) (hport : r.port = s.port) :
    Idles s r :=
  ⟨by rw [hround], hauth, hstore, by rw [hplan], fun _ => hplan, fun _ => ⟨hcatcher, hport⟩⟩

theorem idles_queueState (s : State) : Idles s s.queueState := by
  refine idles_roster ?_ ?_ ?_ ?_ ?_ ?_ <;> simp

theorem idles_queueSummary (s : State) : Idles s s.queueSummary := by
  refine idles_roster ?_ (queueSummary_authority s) ?_ ?_ ?_ ?_ <;> simp

theorem idles_onRoster {f : Roster → Roster} {s : State} (hf : (f s.roster).authority = s.roster.authority) :
    Idles s (s.onRoster f) := idles_roster rfl hf rfl rfl rfl rfl

/-- R65: an entry change taken by the Plan Unit. -/
theorem idles_planEntryChange (i : Nat) (s : State) : Idles s (s.planEntryChange i) where
  round := by simp
  authority := by simp
  store := by simp
  inForce := by
    unfold State.planEntryChange
    repeat' split
    all_goals simp [State.startWalk]
  plan := fun hb => by rw [State.planEntryChange, hb]
  line := fun _ => by simp

section
variable {s : State} (hp : Phase.idles s.round.phase)
include hp

/-- R38: an entry change. -/
theorem entryChange_idle (o : Origin) : s.entryChange o = s := by
  unfold State.entryChange
  rcases hp with h | h | h <;> rw [h]

theorem idles_handChange (o : Origin) (i : Nat) : Idles s (s.handChange o i) := by
  have h := idles_planEntryChange i s
  rw [State.handChange, entryChange_idle (by rwa [h.phase])]
  exact h

theorem idles_checkIndex (i : Nat) : Idles s (s.checkIndex i) := by
  refine when_keeps (P := Idles s) (.refl s) fun _ => ?_
  have hwrite : Idles s (s.writeEntry i ((s.entryAt i).marked s.now)) := idles_onRoster rfl
  exact (hwrite.trans (idles_handChange (by rwa [hwrite.phase]) ..)).trans (idles_queueSummary _)

omit hp in
theorem idles_checkIndices (l : List Nat) : ∀ {s : State}, Phase.idles s.round.phase → Idles s (s.checkIndices l) := by
  induction l with
  | nil => exact fun _ => .refl _
  | cons i l ih =>
    intro s hp
    have h := idles_checkIndex hp i
    exact h.trans (ih (by rwa [h.phase]))

theorem idles_silenceCheckOf (n : Nat) : Idles s (s.silenceCheckOf n) :=
  when_keeps (P := Idles s) (.refl s) fun _ => idles_checkIndices _ hp

/-- R32: the presence check. -/
theorem idles_checkPresence : Idles s s.checkPresence := by
  unfold State.checkPresence
  split
  · exact ⟨rfl, rfl, rfl, rfl, fun _ => rfl, fun _ => ⟨rfl, rfl⟩⟩
  · split
    · have hlost : ∀ r : State, r.round.phase = s.round.phase → r.lineStationLost = r := by
        intro r hr
        unfold State.lineStationLost
        rw [hr]
        rcases hp with h | h | h <;> rw [h]
      rw [hlost (s.onRound fun r => { r with lineLost := true, linePresent := false }) rfl]
      exact ⟨rfl, rfl, rfl, rfl, fun _ => rfl, fun _ => ⟨rfl, rfl⟩⟩
    · exact .refl s

/-- R46, R49, R51: no phase rule is tested. -/
theorem testAgreement_idle : s.testAgreement = s := by
  unfold State.testAgreement
  rcases hp with h | h | h <;> rw [h]

theorem testCatching_idle : s.testCatching = s := by
  have hne : s.round.phase ≠ .catching := by rcases hp with h | h | h <;> rw [h] <;> simp
  rw [State.testCatching, beq_eq_false_iff_ne.mpr hne, State.when_false]

theorem testArming_idle : s.testArming = s := by
  have hne : s.round.phase ≠ .arming := by rcases hp with h | h | h <;> rw [h] <;> simp
  rw [State.testArming, beq_eq_false_iff_ne.mpr hne, State.when_false]

theorem drives_idle : s.round.phase.drives = false := by
  rcases hp with h | h | h <;> rw [h] <;> rfl

omit hp in
theorem idles_countDifference (n : Nat) (h : HeardState) : Idles s (s.countDifference n h) := by
  unfold State.countDifference
  split
  · exact .refl s
  · split
    · split
      · exact idles_onRoster rfl
      · exact (idles_queueSummary s).trans (idles_onRoster rfl)
    · exact idles_onRoster rfl

/-- R168: a STATE that does not show LOCKOUT in TRIPPED. -/
theorem idles_stateTaken {n : Nat} {h : HeardState} (hlock : s.round.phase = .tripped → h.phase ≠ .lockout) :
    Idles s (s.stateTaken n h) := by
  have hspread : s.spreadLockout h = s := by
    have hno : (h.phase == .lockout && h.epoch == s.round.epoch && !s.round.phase.dropsAlarm) = false := by
      rcases hp with hp | hp | hp
      · simp [hp, Phase.dropsAlarm]
      · simp [hp, Phase.dropsAlarm]
      · rw [beq_eq_false_iff_ne.mpr (hlock hp), Bool.false_and, Bool.false_and]
    unfold State.spreadLockout
    dsimp only
    rw [hno, Bool.false_and, State.when_false]
  have h1 : Idles s ((s.countDifference n h).silenceCheckOf n) :=
    (idles_countDifference n h).trans (idles_silenceCheckOf (by rwa [(idles_countDifference n h).phase]) n)
  have h2 : Idles s (((s.countDifference n h).silenceCheckOf n).when (n == 0) State.checkPresence) :=
    when_keeps (P := Idles s) h1 fun _ => h1.trans (idles_checkPresence (by rwa [h1.phase]))
  have h3 : Idles s ((((s.countDifference n h).silenceCheckOf n).when (n == 0) State.checkPresence).when (n == 0)
      State.testCatching) :=
    when_keeps (P := Idles s) h2 fun _ => by rwa [testCatching_idle (by rwa [h2.phase])]
  unfold State.stateTaken
  rw [hspread]
  dsimp only
  rw [testAgreement_idle (by rwa [h3.phase])]
  exact when_keeps (P := Idles s) h3 fun _ => h3.trans (idles_queueState _)

/-- R16 to R24: a SUMMARY merged. -/
theorem idles_mergeSummary (items : List SummaryItem) : Idles s (s.mergeSummary items) := by
  unfold State.mergeSummary
  split
  next rs _ =>
    split
    · have hwrite : ∀ f : Roster → Roster, (f s.roster).authority = s.roster.authority →
          ∀ l, Idles s ((s.onRoster f).handMerge l) := by
        intro f hf l
        have h := idles_onRoster (s := s) hf
        cases l with
        | nil => exact h
        | cons i _ => exact h.trans (idles_handChange (by rwa [h.phase]) ..)
      have hanswer : ∀ r : State, Idles r r.answer := by
        intro r
        unfold State.answer
        split
        · exact .refl r
        · split
          · exact idles_onRoster rfl
          · exact (idles_queueSummary r).trans (idles_onRoster rfl)
      exact when_keeps (P := Idles s) (hwrite _ rfl _) fun _ => (hwrite _ rfl _).trans (hanswer _)
    · exact .refl s
  next => exact .refl s

omit hp in
/-- R50: a STEP noted. -/
theorem idles_noteStep (n : Nat) (code : Byte) (d : Half) : Idles s (s.noteStep n code d) := by
  unfold State.noteStep
  split
  · split
    next hd =>
      have hround : (s.recordStep n (code == stepArmed)).round = Round.recordStep n (code == stepArmed) s.round := by
        unfold State.recordStep State.afterRemoval State.when
        split <;> simp
      refine ⟨?_, by simp, by simp, by simp, fun _ => by simp, fun hn => ?_⟩
      · rw [hround]
        unfold Round.recordStep
        split <;> rfl
      · simp [State.planHasDigest, hn] at hd
    next => exact ⟨rfl, rfl, rfl, rfl, fun _ => rfl, fun _ => ⟨rfl, rfl⟩⟩
  · exact .refl s

theorem idles_stepTaken (f : Frame) : Idles s (s.stepTaken f) := by
  unfold State.stepTaken
  split
  next code _ d _ _ =>
    refine when_keeps (P := Idles s) (.refl s) fun _ => ?_
    have h := idles_noteStep (s := s) f.number code d
    rw [testArming_idle (by rwa [h.phase])]
    exact h
  next => exact .refl s

/-- R36: a LINE frame that clears no LOCKOUT. -/
theorem idles_lineTaken {e : Half} {l : LinePayload} (hclear : s.round.phase = .lockout →
    (s.round.facts.countChanged l && !l.runReq) = false) : Idles s (s.lineTaken e l) := by
  have hfacing : Idles s (s.onRound (Round.facing e l)) :=
    ⟨rfl, rfl, rfl, rfl, fun _ => rfl, fun _ => ⟨rfl, rfl⟩⟩
  have hcount : (s.onRound (Round.facing e l)).when (s.round.facts.countChanged l && !l.runReq) State.countAction =
      s.onRound (Round.facing e l) := by
    rcases hp with hq | hq | hq
    · refine when_keeps (P := fun r => r = s.onRound (Round.facing e l)) rfl fun _ => ?_
      rw [State.countAction, show (s.onRound (Round.facing e l)).round.phase = .joining from hq]
    · rw [hclear hq, State.when_false]
    · refine when_keeps (P := fun r => r = s.onRound (Round.facing e l)) rfl fun _ => ?_
      rw [State.countAction, show (s.onRound (Round.facing e l)).round.phase = .tripped from hq]
  have hswitch : (s.onRound (Round.facing e l)).takeSwitch e l = s.onRound (Round.facing e l) := by
    rw [State.takeSwitch, show (s.onRound (Round.facing e l)).round.phase.drives = false from drives_idle hp, Bool.and_false, State.when_false]
  have hfacts : ∀ fresh, (s.onRound (Round.facing e l)).actOnFacts fresh = s.onRound (Round.facing e l) := by
    intro fresh
    rw [State.actOnFacts]
    rcases hp with hq | hq | hq
    all_goals rw [show (s.onRound (Round.facing e l)).round.phase = _ from hq]
  unfold State.lineTaken
  dsimp only
  rw [hcount, hswitch, hfacts]
  exact hfacing

end

end Sys2Proof.Proofs

/-! # Valid frames from other stations

PROOFS that a valid frame of any kind is heard and its epoch taken (R29, R54, R147, R156, R160). -/

namespace Sys2Proof.Proofs

open Sys2Proof.Machine Sys2Proof.Safety

/-! ## The frames of the five kinds -/

/-- R147: what a station does with a frame of a kind. -/
def takeOf : Kind → Frame → State → State
  | .alarm => State.takeAlarm
  | .step => State.takeStep
  | .line => State.takeLine
  | .state => State.takeState
  | .summary => State.takeSummary

/-- The command that hands on a received transmission of a kind. -/
def receivedOf (t : Time) (x : Transmission) : Kind → Instr
  | .alarm => .alarmReceived t x
  | .step => .stepReceived t x
  | .line => .lineReceived t x
  | .state => .stateReceived t x
  | .summary => .summaryReceived t x

theorem exec_receivedOf {t : Time} {x : Transmission} {f : Frame} {k : Kind} {s : State} (hr : s.runs = true)
    (hx : examineKind k x = some f) (hf : f.station.toNat ≠ s.number) :
    exec (receivedOf t x k) s = .next (takeOf k f (s.advance t)) := by
  have hvalid := fun take => State.receive_valid (take := take) (s := s.advance t) hx hf
  cases k <;> exact (State.runAt_runs hr).trans (congrArg _ (hvalid _))

theorem kind_of_examineKind {k : Kind} {x : Transmission} {f : Frame} (h : examineKind k x = some f) :
    f.payload.kind = k := by
  unfold examineKind at h
  split at h
  · split at h
    next hk => exact Option.some.inj h ▸ hk
    next => simp at h
  · simp at h

/-- R156, R160: the rest of a frame leaves the isolation clock, the mark of a frame taken and the heard table. -/
theorem takeOf_noted (k : Kind) (f : Frame) (s : State) :
    FrameNoted (takeOf k f s) ∧ (takeOf k f s).bus.heard = (s.takeFrame f).bus.heard := by
  have hnoted := frameNoted_takeFrame f s
  have h := frameNoted_kept
  cases k
  case alarm =>
    refine ⟨when_keeps hnoted fun _ => when_keeps hnoted fun _ => h.epochTrip _ hnoted, ?_⟩
    simp [takeOf, State.takeAlarm]
  case step => exact ⟨h.stepTaken f hnoted, by simp [takeOf, State.takeStep]⟩
  case line =>
    simp only [takeOf, State.takeLine]
    split
    · exact ⟨when_keeps hnoted fun _ => h.lineTaken _ _ hnoted, by simp⟩
    · exact ⟨hnoted, rfl⟩
  case state =>
    simp only [takeOf, State.takeState]
    split
    · exact ⟨h.stateTaken _ _ trivial trivial hnoted, by simp⟩
    · exact ⟨hnoted, rfl⟩
  case summary =>
    simp only [takeOf, State.takeSummary]
    split
    · exact ⟨h.mergeSummary _ (h.clearDiff trivial hnoted), by simp⟩
    · exact ⟨hnoted, rfl⟩

/-- R166: the phase a STATE in range shows. -/
theorem phase_of_heardState {now : Time} {f : Frame} {h : HeardState} (hh : heardStateOf now f = some h) :
    ∃ p, f.payload = .state p ∧ p.phase? = some h.phase := by
  unfold heardStateOf at hh
  split at hh
  next p hp =>
    split at hh
    next ph hph =>
      refine ⟨p, hp, ?_⟩
      rw [hph, ← Option.some.inj hh]
    next => simp at hh
  next => simp at hh

theorem code_of_lockout {b : Byte} (h : Phase.ofCode b = some .lockout) : b = 9 := by
  unfold Phase.ofCode at h
  revert h
  repeat' split
  all_goals simp_all

/-- R29: the rest of a frame in JOINING, LOCKOUT and TRIPPED, where it neither spreads nor clears a LOCKOUT. -/
theorem takeOf_idles {k : Kind} {f : Frame} {s : State} (hp : Phase.idles (s.takeFrame f).round.phase)
    (hstate : (s.takeFrame f).round.phase = .tripped → ∀ p, f.payload = .state p → p.phase ≠ 9)
    (halarm : k = .alarm → (f.epoch == s.round.epoch && !s.round.phase.outside) = false)
    (hline : (s.takeFrame f).round.phase = .lockout → f.number = 0 → ∀ l, f.payload = .line l →
      ((s.takeFrame f).round.facts.countChanged l && !l.runReq) = false) :
    Idles (s.takeFrame f) (takeOf k f s) := by
  cases k
  case alarm =>
    rw [takeOf, State.takeAlarm, halarm rfl, State.when_false]
    exact .refl _
  case step => exact idles_stepTaken hp f
  case line =>
    simp only [takeOf, State.takeLine]
    split
    next l hl =>
      exact when_keeps (P := Idles _) (.refl _) fun h0 => idles_lineTaken hp fun hq => hline hq (beq_iff_eq.mp h0) l hl
    next => exact .refl _
  case state =>
    simp only [takeOf, State.takeState]
    split
    next h hh =>
      refine idles_stateTaken hp fun hq hlock => ?_
      obtain ⟨p, hpay, hphase⟩ := phase_of_heardState hh
      rw [hlock] at hphase
      exact hstate hq p hpay (code_of_lockout hphase)
    next => exact .refl _
  case summary =>
    simp only [takeOf, State.takeSummary]
    split
    next items _ =>
      have hclear : Idles (s.takeFrame f) (s.takeFrame f).clearDiff := idles_onRoster rfl
      exact hclear.trans (idles_mergeSummary (by rwa [hclear.phase]) items)
    next => exact .refl _

/-! ## The epoch taken -/

theorem ne_of_epochNewer {a b : Half} (h : epochNewer a b = true) : a ≠ b := fun he => by
  rw [he, epochNewer_self] at h
  simp at h

/-- R29: the epoch stored in JOINING. -/
theorem takeEpoch_joining {f : Frame} {s : State} (hp : s.round.phase = .joining) :
    (s.takeEpoch f).round.phase = .joining ∧ (s.takeEpoch f).round.attempts = s.round.attempts ∧
    (s.takeEpoch f).round.joinLeft = s.round.joinLeft ∧ (s.takeEpoch f).roster = s.roster ∧
    (epochNewer f.epoch s.round.epoch = true ∨ s.round.firstTaken = false → (s.takeEpoch f).round.epoch = f.epoch) ∧
    (¬epochNewer f.epoch s.round.epoch = true → s.round.firstTaken = true →
      (s.takeEpoch f).round.epoch = s.round.epoch) := by
  have hfirst : (s.round.phase == .joining && !s.round.firstTaken) = !s.round.firstTaken := by simp [hp]
  have hstored : ∀ r : State, (r.setEpoch f.epoch).round.phase = r.round.phase ∧
      (r.setEpoch f.epoch).round.attempts = r.round.attempts ∧ (r.setEpoch f.epoch).round.joinLeft = r.round.joinLeft ∧
      (r.setEpoch f.epoch).round.epoch = f.epoch := by
    intro r
    by_cases he : f.epoch = r.round.epoch
    · rw [State.setEpoch, if_pos he]
      exact ⟨rfl, rfl, rfl, he.symm⟩
    · rw [State.setEpoch_round he]
      exact ⟨rfl, rfl, rfl, rfl⟩
  obtain ⟨h1, h2, h3, h4⟩ := hstored (s.onRound fun r => { r with firstTaken := true })
  unfold State.takeEpoch
  dsimp only
  rw [if_pos hp, hfirst]
  split
  next hgo => exact ⟨h1.trans hp, h2, h3, by simp, fun _ => h4, fun hno ht => by simp [hno, ht] at hgo⟩
  next hno => exact ⟨hp, rfl, rfl, rfl, fun hyes => by simp_all, fun _ _ => rfl⟩

/-- R29: a newer epoch in LOCKOUT. -/
theorem takeFrame_lockout {f : Frame} {s : State} (hp : s.round.phase = .lockout)
    (hn : epochNewer f.epoch s.round.epoch = true) :
    (s.takeFrame f).round.phase = .lockout ∧ (s.takeFrame f).round.epoch = f.epoch ∧
    (s.takeFrame f).round.attempts = s.round.attempts ∧ (s.takeFrame f).round.facts = s.round.facts := by
  have hne := ne_of_epochNewer hn
  have hended : (s.hear f).endIsolation = s.hear f := by
    rw [State.endIsolation, State.enterIf, (State.hear_frame f s).2.2.2.2.1, beq_eq_false_iff_ne.mpr (by rw [hp]; simp),
      State.when_false]
  have heq : s.takeFrame f = ((s.hear f).onRound fun r => { r with firstTaken := true }).setEpoch f.epoch := by
    rw [State.takeFrame, hended, State.takeEpoch]
    simp [hp, hn]
  rw [heq, State.setEpoch_round (s := (s.hear f).onRound _) (by simpa using hne)]
  simp [hp]

/-- R29: a phase in which a newer epoch is caught up with. -/
def Phase.catchesUp (p : Phase) : Prop := p ≠ .joining ∧ p ≠ .isolated ∧ p ≠ .lockout

/-- R29: the station with the frame heard and the epoch `e` stored. -/
def epochStored (e : Half) (f : Frame) (s : State) : State :=
  ((s.hear f).onRound fun r => { r with firstTaken := true }).setEpoch e

theorem takeFrame_newer {f : Frame} {s : State} (hp : Phase.catchesUp s.round.phase)
    (hn : epochNewer f.epoch s.round.epoch = true) :
    s.takeFrame f = ((s.hear f).onRound fun r => { r with firstTaken := true }).adoptEpoch f := by
  obtain ⟨h1, h2, h3⟩ := hp
  have hended : (s.hear f).endIsolation = s.hear f := by
    rw [State.endIsolation, State.enterIf, (State.hear_frame f s).2.2.2.2.1, beq_eq_false_iff_ne.mpr h2, State.when_false]
  rw [State.takeFrame, hended, State.takeEpoch]
  simp [h1, h3, hn]

/-- R29: the state in which another epoch is stored, read by the trip that follows. -/
theorem epochStored_holds {e : Half} {f : Frame} {s : State} (hne : e ≠ s.round.epoch) :
    (epochStored e f s).round = { s.round with epoch := e, resettle := 0, early := [], firstTaken := true } ∧
    (epochStored e f s).plan.inForce = s.plan.inForce ∧ (epochStored e f s).port = s.port ∧
    (epochStored e f s).store = s.store ∧ (epochStored e f s).now = s.now ∧
    (epochStored e f s).catcher.budget = s.catcher.budget ∧
    (epochStored e f s).catcher.budgetTimer = s.catcher.budgetTimer := by
  have hstored : ∀ r : State, (r.setEpoch e).plan.inForce = r.plan.inForce ∧
      (r.setEpoch e).catcher.budget = r.catcher.budget ∧
      (r.setEpoch e).catcher.budgetTimer = r.catcher.budgetTimer := by
    intro r
    unfold State.setEpoch
    split
    · exact ⟨rfl, rfl, rfl⟩
    · exact when_keeps (P := fun q : State => q.plan.inForce = r.plan.inForce ∧ q.catcher.budget = r.catcher.budget ∧
        q.catcher.budgetTimer = r.catcher.budgetTimer) ⟨rfl, rfl, rfl⟩ fun _ => ⟨rfl, rfl, rfl⟩
  obtain ⟨hplan, hbudget, htimer⟩ := hstored ((s.hear f).onRound fun r => { r with firstTaken := true })
  refine ⟨?_, hplan.trans (by simp), by simp [epochStored], by simp [epochStored], by simp [epochStored],
    hbudget.trans (by simp), htimer.trans (by simp)⟩
  rw [epochStored, State.setEpoch_round (by simpa using hne)]
  simp

/-- R29, R99: what a trip from the stored epoch makes of the restart state, in the words of the state before the frame. -/
theorem restart_of_epochStored {e : Half} {f : Frame} {s r : State} (hne : e ≠ s.round.epoch)
    (h : RestartSetAnew (epochStored e f s) s.now e r) : RestartSetAnew s s.now e r := by
  obtain ⟨hround, hplan, hport, hstore, -, hbudget, htimer⟩ := epochStored_holds (f := f) hne
  exact RestartSetAnew.congr h (by rw [hport]) (by rw [hport]) (by rw [hport]) (by rw [hport]) (by rw [hport])
    (by rw [hport]) hstore hplan (by rw [hround]) hbudget htimer rfl rfl rfl

/-- R29: catch-up enters TRIPPED. -/
theorem takeFrame_catchUp {f : Frame} {s : State} (hp : Phase.catchesUp s.round.phase)
    (hn : epochNewer f.epoch s.round.epoch = true) (ha : f.payload.kind ≠ .alarm)
    (hs : ∀ p, f.payload = .state p → p.phase ≠ 9) :
    s.takeFrame f = (epochStored f.epoch f s).enterBase .tripped := by
  rw [takeFrame_newer hp hn, State.adoptEpoch]
  cases hpay : f.payload with
  | alarm o c p => exact absurd (by rw [hpay]; rfl) ha
  | state p =>
    have hno : p.phase? ≠ some .lockout := fun h => hs p hpay (code_of_lockout h)
    simp only [hno, if_false]
    rfl
  | step c r d w => rfl
  | line l => rfl
  | summary es => rfl

/-- R29, Table 2-3: the round and the plan after catch-up. -/
theorem catchUp_holds {f : Frame} {s : State} (hn : epochNewer f.epoch s.round.epoch = true) :
    ((epochStored f.epoch f s).enterBase .tripped).round =
      ({ s.round with epoch := f.epoch, resettle := 0, early := [], firstTaken := true } : Round).onEntry s.now s.params
        .tripped ∧
    ((epochStored f.epoch f s).enterBase .tripped).plan.inForce = none ∧
    ((epochStored f.epoch f s).enterBase .tripped).plan.candidate = none ∧
    ((epochStored f.epoch f s).enterBase .tripped).plan.build = .none ∧
    (s.isLine = true → RestartSetAnew s s.now f.epoch ((epochStored f.epoch f s).enterBase .tripped)) := by
  obtain ⟨hround, -, -, hstore, hnow, -, -⟩ := epochStored_holds (f := f) (ne_of_epochNewer hn)
  obtain ⟨hin, hcand, hbuild, -⟩ := State.enterBase_plan .tripped (epochStored f.epoch f s) rfl
  refine ⟨?_, hin, hcand, hbuild, fun hl => ?_⟩
  · rw [State.enterBase_round, hround, hnow, State.params_congr hstore]
  · have h := enterBase_tripped_restart (s := epochStored f.epoch f s) ((isLine_congr hstore).trans hl)
    rw [hnow, hround] at h
    exact restart_of_epochStored (ne_of_epochNewer hn) h

/-! ## The frame and what follows it -/

/-- R29, R54: JOINING, entered or held, keeps the epoch it stored. -/
theorem takeOf_joining {k : Kind} {f : Frame} {s : State} (hp : s.round.phase = .joining ∨ s.round.phase = .isolated) :
    (takeOf k f s).round.phase = .joining ∧ (takeOf k f s).round.attempts = s.round.attempts ∧
    (epochNewer f.epoch s.round.epoch = true ∨ s.round.firstTaken = false → (takeOf k f s).round.epoch = f.epoch) ∧
    (¬epochNewer f.epoch s.round.epoch = true → s.round.firstTaken = true →
      (takeOf k f s).round.epoch = s.round.epoch) ∧
    (s.round.phase = .isolated → (takeOf k f s).round.joinLeft = 3 ∧ (takeOf k f s).roster.authority = false) := by
  have hround : (s.hear f).round = s.round := by simp
  have hended : (s.hear f).endIsolation.round.phase = .joining ∧
      (s.hear f).endIsolation.round.attempts = s.round.attempts ∧
      (s.hear f).endIsolation.round.epoch = s.round.epoch ∧
      (s.hear f).endIsolation.round.firstTaken = s.round.firstTaken ∧
      (s.round.phase = .isolated → (s.hear f).endIsolation.round.joinLeft = 3 ∧
        (s.hear f).endIsolation.roster.authority = false) := by
    rcases hp with hj | hi
    · have heq : (s.hear f).endIsolation = s.hear f := by
        rw [State.endIsolation, State.enterIf, hround, hj]
        exact State.when_false ..
      rw [heq, hround]
      exact ⟨hj, rfl, rfl, rfl, fun h => by rw [hj] at h; simp at h⟩
    · have heq : (s.hear f).endIsolation = (s.hear f).enter .joining := by
        rw [State.endIsolation, State.enterIf, hround, hi]
        exact State.when_true ..
      obtain ⟨h1, -, -, h4⟩ := enter_joining (s.hear f)
      rw [heq, h1, h4, hround]
      exact ⟨rfl, rfl, rfl, rfl, fun _ => ⟨rfl, rfl⟩⟩
  obtain ⟨hj, hattempts, hepoch, hfirst, hisolated⟩ := hended
  obtain ⟨h1, h2, h3, h4, h5, h6⟩ := takeEpoch_joining (f := f) hj
  rw [hepoch, hfirst] at h5 h6
  have hphase : (s.takeFrame f).round.phase = .joining := h1
  have hout : s.round.phase.outside = true := by rcases hp with h | h <;> rw [h] <;> rfl
  have hidles := takeOf_idles (k := k) (f := f) (s := s) (.inl hphase) (fun h => by rw [hphase] at h; simp at h)
    (fun _ => by rw [hout, Bool.not_true, Bool.and_false]) (fun h => by rw [hphase] at h; simp at h)
  rw [hidles.round, hidles.authority]
  refine ⟨h1, h2.trans hattempts, h5, fun hn ht => h6 hn ht, fun hi => ?_⟩
  obtain ⟨hleft, hauth⟩ := hisolated hi
  exact ⟨h3.trans hleft, (congrArg Roster.authority h4).trans hauth⟩

/-- R29, R58: LOCKOUT keeps the newer epoch it stored. -/
theorem takeOf_lockout {k : Kind} {f : Frame} {s : State} (hp : s.round.phase = .lockout)
    (hn : epochNewer f.epoch s.round.epoch = true)
    (hclear : ∀ l n, f.payload = .line l → f.station = 0 → s.round.facts.faultCount = some n →
      n = l.faultCount ∨ l.runReq = true) :
    (takeOf k f s).round.phase = .lockout ∧ (takeOf k f s).round.epoch = f.epoch ∧
    (takeOf k f s).round.attempts = s.round.attempts := by
  obtain ⟨hphase, hepoch, hattempts, hfacts⟩ := takeFrame_lockout hp hn
  have hidles := takeOf_idles (k := k) (f := f) (s := s) (.inr (.inl hphase)) (fun h => by rw [hphase] at h; simp at h)
    (fun _ => by
      have hne := ne_of_epochNewer hn
      rw [beq_eq_false_iff_ne.mpr hne, Bool.false_and])
    (fun _ h0 l hl => by
      rw [hfacts, LineFacts.countChanged]
      cases hcount : s.round.facts.faultCount with
      | none => rfl
      | some n =>
        rcases hclear l n hl (BitVec.eq_of_toNat_eq h0) hcount with h | h
        · simp [h]
        · simp [h])
  rw [hidles.round]
  exact ⟨hphase, hepoch, hattempts⟩

/-- R29: catch-up stands. -/
theorem takeOf_catchUp {k : Kind} {f : Frame} {s : State} (hp : Phase.catchesUp s.round.phase)
    (hn : epochNewer f.epoch s.round.epoch = true) (hk : f.payload.kind = k) (ha : k ≠ .alarm)
    (hs : ∀ p, f.payload = .state p → p.phase ≠ 9) :
    Idles ((epochStored f.epoch f s).enterBase .tripped) (takeOf k f s) := by
  have heq := takeFrame_catchUp hp hn (by rwa [hk]) hs
  have hphase : (s.takeFrame f).round.phase = .tripped := by rw [heq, (catchUp_holds hn).1]; rfl
  rw [← heq]
  exact takeOf_idles (.inr (.inr hphase)) (fun _ => hs) (fun h => absurd h ha) fun h => by rw [hphase] at h; simp at h

/-- Settles O20: every valid frame is heard, and its epoch taken by the phase it finds. -/
theorem validFrameIsHeardAndAdopted : Obligations.ValidFrameIsHeardAndAdopted := by
  refine ⟨epochNewer_iff, fun t x f c k s hr hf hx hc newer hnewer => ?_⟩
  have hcommand : c = receivedOf t x k := by
    rcases hc with ⟨rfl, rfl⟩ | ⟨rfl, rfl⟩ | ⟨rfl, rfl⟩ | ⟨rfl, rfl⟩ | ⟨rfl, rfl⟩ <;> rfl
  have hkind := kind_of_examineKind hx
  obtain ⟨⟨hclock, htaken⟩, hheard⟩ := takeOf_noted k f (s.advance t)
  have hnow : (takeOf k f (s.advance t)).now = max s.now t := by
    have : (takeOf k f (s.advance t)).now = (s.advance t).now := by cases k <;> simp [takeOf]
    exact this
  refine ⟨_, (congrArg (exec · s) hcommand).trans (exec_receivedOf hr hx hf), hclock.trans hnow, htaken, ?_, fun hp => ?_,
    fun hn hp hclear => ?_, fun hn h1 h2 h3 ha hs => ?_⟩
  · rw [hheard, takeFrame_heard, heardAt_advance_state]
    rfl
  · obtain ⟨h1, h2, h3, h4, h5⟩ := takeOf_joining (k := k) (f := f) (s := s.advance t) hp
    exact ⟨h1, h2, fun h => h3 (h.imp_left hnewer.mp), fun hn ht => h4 (fun h => hn (hnewer.mpr h)) ht, h5⟩
  · exact takeOf_lockout (s := s.advance t) hp (hnewer.mp hn) hclear
  · have hidles := takeOf_catchUp (s := s.advance t) ⟨h1, h2, h3⟩ (hnewer.mp hn) hkind ha hs
    obtain ⟨hround, hin, hcand, hbuild, hrestart⟩ := catchUp_holds (f := f) (s := s.advance t) (hnewer.mp hn)
    have hplan := hidles.plan hbuild
    obtain ⟨hcatcher, hport⟩ := hidles.line hin
    have hidle := hidles.round
    rw [hround] at hidle
    have hphase : (takeOf k f (s.advance t)).round.phase = .tripped := by rw [hidle]; rfl
    refine ⟨hphase, by rw [hidle]; rfl, by rw [hidle]; rfl, by rw [hidle]; rfl, by rw [hidle]; rfl, by rw [hidle]; rfl,
      by rw [hidle]; rfl, by rw [hplan, hin], by rw [hplan, hcand], State.gateEn_of_phase (by rw [hphase]; rfl),
      fun hl => ?_⟩
    have hrelease : ∀ r : State, r.round.phase = .tripped → r.release = false := fun r h => by
      simp [State.release, h, Phase.drives]
    exact RestartSetAnew.congr (hrestart hl) rfl rfl rfl rfl rfl rfl rfl rfl rfl rfl rfl hcatcher hport
      ((hrelease _ hphase).trans (hrelease _ (by rw [hround]; rfl)).symm)

end Sys2Proof.Proofs

/-! # ALARM frames

PROOFS about an ALARM from another station (R29, R33 to R35). -/

namespace Sys2Proof.Proofs

open Sys2Proof.Machine Sys2Proof.Safety

/-- R35: a trip by the attempts that remain in the window, at any station. -/
theorem takeTrip_holds {s : State} {pruned : List Time}
    (hpruned : pruned = pruneAttempts s.now (sec s.params.window) s.round.attempts) :
    s.takeTrip.plan.inForce = none ∧ s.takeTrip.round.epoch = s.round.epoch ∧
    s.takeTrip.round.resettle = s.round.resettle ∧
    (s.params.rounds ≤ pruned.length → s.takeTrip.round.phase = .lockout ∧ s.takeTrip.round.attempts = pruned) ∧
    (pruned.length < s.params.rounds → s.takeTrip.round.phase = .tripped ∧ s.takeTrip.round.tripTime = some s.now ∧
      s.takeTrip.round.attempts = recordAttempt s.now pruned) := by
  subst hpruned
  obtain ⟨hplan, hepoch, -⟩ := State.takeTrip_clears s
  refine ⟨hplan, hepoch, ?_, fun h => ?_, fun h => ?_⟩
  · unfold State.takeTrip
    dsimp only
    split <;> rw [State.enterBase_round] <;> rfl
  · rw [State.takeTrip_lockout s h, State.enterBase_round]
    exact ⟨rfl, rfl⟩
  · rw [State.takeTrip_tripped s h, State.enterBase_round]
    exact ⟨rfl, rfl, rfl⟩

/-- R29, R34, R35: a trip in an epoch newly stored, in the words of the state before the frame. -/
theorem epochStored_trips {e : Half} {f : Frame} {s : State} (hne : e ≠ s.round.epoch) {pruned : List Time}
    (hpruned : pruned = pruneAttempts s.now (sec s.params.window) s.round.attempts) :
    (epochStored e f s).takeTrip.plan.inForce = none ∧ (epochStored e f s).takeTrip.round.epoch = e ∧
    (epochStored e f s).takeTrip.round.resettle = 0 ∧
    (s.params.rounds ≤ pruned.length → (epochStored e f s).takeTrip.round.phase = .lockout ∧
      (epochStored e f s).takeTrip.round.attempts = pruned) ∧
    (pruned.length < s.params.rounds → (epochStored e f s).takeTrip.round.phase = .tripped ∧
      (epochStored e f s).takeTrip.round.tripTime = some s.now ∧
      (epochStored e f s).takeTrip.round.attempts = recordAttempt s.now pruned ∧
      (s.isLine = true → RestartSetAnew s s.now e (epochStored e f s).takeTrip)) := by
  obtain ⟨hround, -, -, hstore, hnow, -, -⟩ := epochStored_holds (f := f) hne
  have hparams := State.params_congr hstore
  have hpruned' : pruned = pruneAttempts (epochStored e f s).now (sec (epochStored e f s).params.window)
      (epochStored e f s).round.attempts := by
    rw [hnow, hparams, hround]
    exact hpruned
  obtain ⟨h1, h2, h3, h4, h5⟩ := takeTrip_holds hpruned'
  rw [hparams] at h4 h5
  rw [hround] at h2 h3
  refine ⟨h1, h2, h3, h4, fun h => ?_⟩
  obtain ⟨h6, h7, h8⟩ := h5 h
  rw [hnow] at h7 h8
  refine ⟨h6, h7, h8, fun hl => restart_of_epochStored (f := f) hne ?_⟩
  obtain ⟨hline, -⟩ := takeTrip_line ((isLine_congr hstore).trans hl) hpruned'
  obtain ⟨-, -, -, hrestart⟩ := hline (by rwa [hparams])
  rwa [hnow, hround] at hrestart

/-- R34: an ALARM without a trip. -/
theorem takeAlarm_stands {f : Frame} {s : State} (h1 : s.round.phase ≠ .joining) (h2 : s.round.phase ≠ .isolated)
    (hn : epochNewer f.epoch s.round.epoch = false)
    (h : f.epoch ≠ s.round.epoch ∨ s.round.phase.overtaken = false) :
    s.takeAlarm f = (s.hear f).onRound fun r => { r with firstTaken := true } := by
  have hheard := State.takeFrame_not_newer h1 h2 hn
  rw [State.takeAlarm, hheard]
  rcases h with hne | ho
  · rw [beq_eq_false_iff_ne.mpr hne, Bool.false_and, State.when_false]
  · refine when_keeps (P := fun r => r = (s.hear f).onRound fun r => { r with firstTaken := true }) rfl fun _ => ?_
    have hstill : ((s.hear f).onRound fun r => { r with firstTaken := true }).round.phase.overtaken = false := by
      simpa using ho
    rw [State.equalAlarm, hstill, State.when_false]

/-- Settles O21: an ALARM by its epoch against the station's own. -/
theorem alarmIsTakenByItsEpoch : Obligations.AlarmIsTakenByItsEpoch := by
  intro t x f s hr hx hf h1 h2 h3 pruned hpruned
  have hexec : exec (.alarmReceived t x) s = .next ((s.advance t).takeAlarm f) := exec_receivedOf (k := .alarm) hr hx hf
  have hpay : ∃ o c p, f.payload = .alarm o c p := by
    have hkind := kind_of_examineKind hx
    cases hp : f.payload with
    | alarm o c p => exact ⟨o, c, p, rfl⟩
    | _ => simp [hp, Payload.kind] at hkind
  obtain ⟨o, c, p, hpay⟩ := hpay
  refine ⟨fun hn => ?newer, fun he ht hs => ?equal, fun hno => ?none⟩
  case newer =>
    have hne := ne_of_epochNewer hn
    have htake : (s.advance t).takeAlarm f = (epochStored f.epoch f (s.advance t)).takeTrip := by
      have hguard : (f.epoch == (s.advance t).round.epoch && !(s.advance t).round.phase.outside) = false := by
        rw [show (f.epoch == (s.advance t).round.epoch) = false from beq_eq_false_iff_ne.mpr hne, Bool.false_and]
      rw [State.takeAlarm, hguard, State.when_false, takeFrame_newer (s := s.advance t) ⟨h1, h2, h3⟩ hn,
        State.adoptEpoch, hpay]
      rfl
    obtain ⟨hin, hepoch, hresettle, hlockout, htripped⟩ :=
      epochStored_trips (f := f) (s := s.advance t) hne hpruned
    rw [htake] at hexec
    exact ⟨_, hexec, hepoch, hresettle, hin, hlockout, htripped⟩
  case equal =>
    have hne : epochSucc s.round.epoch ≠ s.round.epoch := fun h => by
      unfold epochSucc at h
      simp at h
    have hout : s.round.phase.outside = false ∧ s.round.phase.overtaken = true := by
      cases hp : s.round.phase <;> simp_all [Phase.outside, Phase.overtaken]
    have htake : (s.advance t).takeAlarm f = (epochStored (epochSucc s.round.epoch) f (s.advance t)).takeTrip := by
      have hnot : epochNewer f.epoch (s.advance t).round.epoch = false := by
        show epochNewer f.epoch s.round.epoch = false
        rw [he, epochNewer_self]
      have hguard : (f.epoch == (s.advance t).round.epoch && !(s.advance t).round.phase.outside) = true := by
        show (f.epoch == s.round.epoch && !s.round.phase.outside) = true
        rw [he, hout.1, beq_self_eq_true]
        rfl
      have hover : (((s.advance t).hear f).onRound fun r => { r with firstTaken := true }).round.phase.overtaken = true := by
        simpa using hout.2
      have hepoch : (((s.advance t).hear f).onRound fun r => { r with firstTaken := true }).round.epoch = s.round.epoch := by
        simp
      rw [State.takeAlarm, hguard, State.when_true, State.takeFrame_not_newer (s := s.advance t) h1 h2 hnot,
        State.equalAlarm, hover, State.when_true, hepoch]
      rfl
    obtain ⟨hin, hepoch, -, hlockout, htripped⟩ :=
      epochStored_trips (e := epochSucc s.round.epoch) (f := f) (s := s.advance t) hne hpruned
    rw [htake] at hexec
    refine ⟨_, hexec, hepoch, hin, fun h => (hlockout h).1, fun h => ?_⟩
    obtain ⟨h4, -, -, h5⟩ := htripped h
    exact ⟨h4, h5⟩
  case none =>
    have hnot : epochNewer f.epoch s.round.epoch = false := by
      rcases hno with ⟨he, -⟩ | ⟨-, hn⟩
      · rw [he, epochNewer_self]
      · exact hn
    have hstands := takeAlarm_stands (s := s.advance t) h1 h2 hnot (by
      rcases hno with ⟨-, hp⟩ | ⟨hne, -⟩
      · exact .inr (by rcases hp with h | h <;> (show s.round.phase.overtaken = false; rw [h]; rfl))
      · exact .inl hne)
    rw [hstands] at hexec
    exact ⟨_, hexec, by simp, by simp, by simp⟩

end Sys2Proof.Proofs

/-! # STEP frames

PROOFS about a STEP taken, from another station or as the own one (R50, R51), and the entry to RUNNING with its RELEASE
(R115, R177, R179). -/

namespace Sys2Proof.Proofs

open Sys2Proof.Machine Sys2Proof.Safety

/-! ## Entry to RUNNING -/

/-- R115, R177: the catch part given to the record in force. -/
theorem supplyCatch_holds {k : CatchRecord} {supplied : Prop} {part : CatchOutcome × Half × Option Half} {s : State}
    (hk : k = s.catcher.record) (hsupplied : supplied ↔ k.epoch = some s.round.epoch ∧ k.used = false)
    (hcaught : supplied → k.outcome = .caught ∨ k.outcome = .carried →
      part = (k.outcome, frequencyField k.freq, k.angle.map fun a =>
        BitVec.ofNat 16 (a.toNat + k.freq.natAbs * (s.now - k.angleTime) * 65536 / 10 ^ 8)))
    (hcold : supplied → k.outcome = .cold ∨ k.outcome = .standstill → part = (k.outcome, frequencyField k.freq, none))
    (hfailed : supplied → k.outcome = .failed → part = (.failed, 0, none))
    (hnone : ¬supplied ∨ k.outcome = .none ∨ k.outcome = .expired → part = (.none, 0, none)) :
    s.supplyCatch.catcher = { s.catcher with record := { k with used := true } } ∧
    s.supplyCatch.port.record = { s.port.record with outcome := part.1, freq := part.2.1, angle := part.2.2 } ∧
    s.supplyCatch.port.presented = s.port.presented ∧
    (s.port.presented = none →
      s.supplyCatch.port.rready = (s.port.rready || decide (s.supplyCatch.port.record ≠ s.port.record))) := by
  subst hk
  have hpart : part = s.catcher.record.supply s.round.epoch s.now := by
    unfold CatchRecord.supply
    by_cases hs : supplied
    · have hgo : (s.catcher.record.epoch == some s.round.epoch && !s.catcher.record.used) = true := by
        obtain ⟨h1, h2⟩ := hsupplied.mp hs
        simp [h1, h2]
      rw [hgo, if_pos rfl]
      cases ho : s.catcher.record.outcome with
      | none => exact hnone (.inr (.inl ho))
      | caught => rw [hcaught hs (.inl ho), ho]; rfl
      | carried => rw [hcaught hs (.inr ho), ho]; rfl
      | cold => rw [hcold hs (.inl ho), ho]
      | standstill => rw [hcold hs (.inr ho), ho]
      | failed => exact hfailed hs ho
      | expired => exact hnone (.inr (.inr ho))
    · have hgo : ¬((s.catcher.record.epoch == some s.round.epoch && !s.catcher.record.used) = true) := fun h =>
        hs (hsupplied.mpr (by simpa using h))
      rw [if_neg hgo]
      exact hnone (.inl hs)
  rw [hpart]
  refine ⟨rfl, ?_⟩
  simp only [State.supplyCatch, State.changeRecord, State.onCatcher_port, State.onPort_port]
  split
  next hsame =>
    refine ⟨rfl, rfl, fun hp => ?_⟩
    simp only [Port.onLso, hp, Option.getD_none] at hsame
    simp only [hsame, ne_eq, not_true, decide_false, Bool.or_false]
  next hother =>
    refine ⟨rfl, rfl, fun hp => ?_⟩
    simp only [Port.onLso, hp, Option.getD_none] at hother
    simp only [ne_eq, hother, not_false_eq_true, decide_true, Bool.or_true]

/-- R132, R180: ARMING left for RUNNING. -/
def armingLeft (s : State) : State :=
  (s.onWatch fun w => { w with check := .idle, sentArmed := false, sentRefused := false }).onPort
    fun q => { q with stepDecision := none }

/-- R113, R132: the line station's port and catch unit after an entry to RUNNING from ARMING, and the plan. -/
theorem enterBase_running_of_arming {s : State} (hp : s.round.phase = .arming) :
    (s.enterBase .running).port = { s.port with stepDecision := none } ∧
    (s.isLine = true → (s.enterBase .running).catcher = s.catcher.budgetIdle) ∧
    (s.enterBase .running).plan = s.plan := by
  have hleft : phaseLeft .running s = armingLeft s := by
    have harming : s.leaveArming .running = armingLeft s := by
      rw [State.leaveArming, hp]
      exact State.when_true ..
    have hcatching : (armingLeft s).leaveCatching = armingLeft s := by
      rw [State.leaveCatching, show (armingLeft s).round.phase = .arming from hp]
      exact State.when_false ..
    have hrevising : (armingLeft s).leaveRevising = armingLeft s := by
      rw [State.leaveRevising, show (armingLeft s).round.phase = .arming from hp]
      exact State.when_false ..
    rw [phaseLeft, harming, hcatching, hrevising]
  have hplan : ∀ r : State, (r.blocksOnEntry .running).plan = r.plan := fun r => by
    simp [State.blocksOnEntry, PlanUnit.onEntry, Phase.clearsPlan, Phase.drives]
  have hport : ∀ r : State, (r.blocksOnEntry .running).port = r.port := fun r => by
    simp [State.blocksOnEntry, Phase.clearsPlan]
  have hcontext : ∀ r : State, r.contextOnEntry .running = r := fun _ => rfl
  have hwalk : ∀ r : State, r.walkOnEntry .running = r := fun _ => rfl
  obtain ⟨h1, h2⟩ := enterBase_port_catcher .running s
  rw [hcontext, hleft] at h1 h2
  refine ⟨?_, fun hl => ?_, ?_⟩
  · rw [h1, hport]
    rfl
  · rw [h2, blocksOnEntry_catcher_line (s := armingLeft s) hl]
    rfl
  · have hbase : s.enterBase .running = ((phaseLeft .running s).blocksOnEntry .running).framesOnEntry s.round.phase .running := by
      rw [State.enterBase, hwalk, hcontext]
      rfl
    rw [hbase, hleft]
    simp [hplan, armingLeft]

/-- R51, R179: RUNNING entered from ARMING with run request present, and what stands then. -/
structure RunningEntered (s r : State) : Prop where
  round : r.round = s.round.onEntry s.now s.params .running
  inForce : r.plan = s.plan
  store : r.store = s.store
  powered : r.powered = s.powered
  supplied : s.isLine = true → s.plan.inForce.isSome = true → ∃ q : State, r.catcher = q.supplyCatch.catcher ∧
    r.port = q.supplyCatch.port ∧ q.catcher = s.catcher.budgetIdle ∧ q.port = { s.port with stepDecision := none } ∧
    q.round.epoch = s.round.epoch ∧ q.now = s.now

theorem enterPhase_running {s : State} (hp : s.round.phase = .arming) (hrun : s.round.facts.runReq = true) :
    RunningEntered s (s.enterPhase .running) := by
  obtain ⟨hport, hcatcher, hplan⟩ := enterBase_running_of_arming hp
  have hround := State.enterBase_round .running s
  have hstore : (s.enterBase .running).store = s.store := by simp
  have hnow : (s.enterBase .running).now = s.now := by simp
  have hpowered : (s.enterBase .running).powered = s.powered := by simp
  have hkeeps : ∀ c : Bool, ((s.enterBase .running).when c State.supplyCatch).round = (s.enterBase .running).round ∧
      ((s.enterBase .running).when c State.supplyCatch).plan = (s.enterBase .running).plan ∧
      ((s.enterBase .running).when c State.supplyCatch).store = (s.enterBase .running).store ∧
      ((s.enterBase .running).when c State.supplyCatch).powered = (s.enterBase .running).powered := fun c =>
    when_keeps (P := fun r : State => r.round = (s.enterBase .running).round ∧ r.plan = (s.enterBase .running).plan ∧
      r.store = (s.enterBase .running).store ∧ r.powered = (s.enterBase .running).powered) ⟨rfl, rfl, rfl, rfl⟩
      fun _ => by simp
  have heq : s.enterPhase .running =
      (s.enterBase .running).when ((s.enterBase .running).releaseRises .arming) State.supplyCatch := by
    rw [State.enterPhase, hp]
    rfl
  obtain ⟨k1, k2, k3, k4⟩ := hkeeps ((s.enterBase .running).releaseRises .arming)
  rw [heq]
  refine ⟨k1.trans hround, k2.trans hplan, k3.trans hstore, k4.trans hpowered, fun hl hin => ?_⟩
  have hrises : (s.enterBase .running).releaseRises .arming = true := by
    rw [State.releaseRises, (isLine_congr hstore).trans hl, hplan, hin, hround]
    show (true && !Phase.drives .arming && true && s.round.facts.runReq) = true
    rw [hrun]
    rfl
  rw [hrises, State.when_true]
  exact ⟨s.enterBase .running, rfl, rfl, hcatcher hl, hport, by rw [hround]; rfl, hnow⟩

/-! ## ARMING tested -/

/-- R51: the armed set of the plan in force. -/
theorem armedComplete_eq {p : Plan} {s : State} (hp : s.plan.inForce = some p) :
    s.armedComplete = true ↔ ∀ m ∈ p.armedNeeded, m ∈ s.round.armed := by
  rw [State.armedComplete, hp]
  simp

theorem testArming_eq {s : State} (hp : s.round.phase = .arming) : s.testArming = s.testTransition := by
  rw [State.testArming, hp]
  exact State.when_true ..

section
variable {s : State} {n : Nat} (hp : s.round.phase = .arming) (hc : s.heldOutcome ≠ some .expired)
include hp hc

/-- R51: ARMING stands with an armed set that is not complete. -/
theorem arming_stands (hr : s.round.refusal = .none)
    (ha : ∀ p, s.plan.inForce = some p → ∃ m ∈ p.armedNeeded, m ∉ s.round.armed) : s.testArming = s := by
  have hincomplete : s.armedComplete = false := by
    cases hplan : s.plan.inForce with
    | none => rw [State.armedComplete, hplan]
    | some p =>
      obtain ⟨m, hm, hnot⟩ := ha p hplan
      exact Bool.eq_false_iff.mpr fun h => hnot ((armedComplete_eq hplan).mp h m hm)
  have hnone : s.entryTransition = none := by
    simp [State.entryTransition, hp, hc, hr, hincomplete]
  have hcell : s.cellRefusal = s := by
    rw [State.cellRefusal, hr]
    exact (congrArg (fun b => s.when b State.resettle) (Bool.and_false _)).trans (State.when_false ..)
  have htest : s.testTransition = s := by
    rw [State.testTransition, entryFuel, State.settleEntry, hnone]
    exact hcell
  rw [testArming_eq hp, htest]

/-- R51: a complete armed set with run request present leads to RUNNING. -/
theorem arming_runs {p : Plan} (hr : s.round.refusal = .none) (hplan : s.plan.inForce = some p)
    (ha : ∀ m ∈ p.armedNeeded, m ∈ s.round.armed) (hrun : s.round.facts.runReq = true)
    (hd : s.round.deferred = false) : RunningEntered s s.testArming := by
  have hnext : s.entryTransition = some (s, .running) := by
    simp [State.entryTransition, hp, hc, hr, (armedComplete_eq hplan).mpr ha]
  have hentered := enterPhase_running hp hrun
  have hstands : (s.enterPhase .running).settleEntry (6 + 1) = s.enterPhase .running := by
    refine settleEntry_stands ?_ (by rw [hentered.round]; simp [Round.onEntry])
    unfold State.entryTransition
    rw [hentered.round]
    simp [Round.onEntry, hrun, hd, deferredAfter]
  have htest : s.testTransition = s.enterPhase .running := by
    have hfuel : s.testTransition = State.settleEntry (7 + 1) s := rfl
    rw [hfuel, State.settleEntry, hnext]
    exact hstands
  have harms : s.testArming = s.enterPhase .running := by
    rw [testArming_eq hp, htest]
  rw [harms]
  exact hentered

/-- R51: a refusal by a cell station. -/
theorem arming_resettles (hr : s.round.refusal = .cell) : s.testArming = s.resettle := by
  have hnone : s.entryTransition = none := by
    simp [State.entryTransition, hp, hc, hr]
  have hcell : s.cellRefusal = s.resettle := by
    have hgo : (s.round.phase == .arming && s.heldOutcome != some .expired && s.round.refusal == .cell) = true := by
      simp [hp, hc, hr]
    rw [State.cellRefusal, hgo, State.when_true]
  have htest : s.testTransition = s.resettle := by
    rw [State.testTransition, entryFuel, State.settleEntry, hnone]
    exact hcell
  rw [testArming_eq hp, htest]

/-- R51: a refusal by the line station. -/
theorem arming_halts (hr : s.round.refusal = .line) (hd : s.round.deferred = false) :
    s.testArming = s.enterBase .halted := by
  have hnext : s.entryTransition = some (s, .halted) := by
    simp [State.entryTransition, hp, hc, hr]
  have hround := State.enterBase_round .halted s
  have henters : s.enterPhase .halted = s.enterBase .halted := rfl
  have hstands : (s.enterBase .halted).settleEntry (6 + 1) = s.enterBase .halted := by
    refine settleEntry_stands ?_ (by rw [hround]; simp [Round.onEntry])
    unfold State.entryTransition
    rw [hround]
    simp [Round.onEntry, hd, deferredAfter, runDemandAfter, hp]
  have htest : s.testTransition = s.enterBase .halted := by
    have hfuel : s.testTransition = State.settleEntry (7 + 1) s := rfl
    rw [hfuel, State.settleEntry, hnext]
    exact hstands
  rw [testArming_eq hp, htest]

end

/-! ## A STEP noted -/

/-- R114: the overdue flag's effect is on the catch unit and the scanner alone. -/
theorem overdueExpiry_fields (s : State) :
    s.overdueExpiry = { s with catcher := s.overdueExpiry.catcher, scanner := s.overdueExpiry.scanner } := by
  have hexpired : s.setExpired = { s with catcher := s.setExpired.catcher, scanner := s.setExpired.scanner } := by
    unfold State.setExpired
    split <;> rfl
  unfold State.overdueExpiry State.when
  split
  · show s.setExpired.onCatcher _ = _
    rw [hexpired]
    rfl
  · rfl

section
variable {n : Nat} {d : Half} {s : State}

/-- R50: ARMED for the plan in force. -/
theorem noteStep_armed (hd : s.planHasDigest d = true) :
    s.noteStep n 1 d = s.onRound fun r => { r with armed := insertRising n r.armed } := by
  have hkept : ∀ l : List Nat, 0 ∈ l → 0 ∈ insertRising n l := by
    intro l
    induction l with
    | nil => simp
    | cons m l ih =>
      intro h
      unfold insertRising
      split
      · exact List.mem_cons_of_mem _ h
      · split
        · exact h
        · rcases List.mem_cons.mp h with h | h
          · exact h ▸ List.mem_cons_self
          · exact List.mem_cons_of_mem _ (ih h)
  have hremoval : (s.round.armed.contains 0 && !(insertRising n s.round.armed).contains 0) = false := by
    by_cases h : 0 ∈ s.round.armed
    · simp [hkept _ h]
    · simp [h]
  have hnote : s.noteStep n 1 d = s.recordStep n true := by
    rw [State.noteStep, if_pos (.inl rfl), if_pos hd]
    rfl
  have hround : Round.recordStep n true s.round = { s.round with armed := insertRising n s.round.armed } := rfl
  rw [hnote, State.recordStep, State.afterRemoval, State.onRound_round, hround, hremoval, State.when_false]
  rfl

/-- R50, R114: REFUSED for the plan in force. -/
theorem noteStep_refused (hd : s.planHasDigest d = true) :
    s.noteStep n 2 d = { s with
      round := Round.recordStep n false s.round, catcher := (s.noteStep n 2 d).catcher
      scanner := (s.noteStep n 2 d).scanner } ∧
    (s.catcher.overdue = false → (s.noteStep n 2 d).catcher = s.catcher ∧ (s.noteStep n 2 d).scanner = s.scanner) := by
  have hnote : s.noteStep n 2 d = s.recordStep n false := by
    rw [State.noteStep, if_pos (.inr rfl), if_pos hd]
    rfl
  rw [hnote, State.recordStep, State.afterRemoval]
  refine ⟨?_, fun ho => ?_⟩
  · unfold State.when
    split
    · rw [overdueExpiry_fields]
      rfl
    · rfl
  · refine when_keeps (P := fun r : State => r.catcher = s.catcher ∧ r.scanner = s.scanner) ⟨rfl, rfl⟩ fun _ => ?_
    rw [State.overdueExpiry, State.onRound_catcher, ho, Bool.and_false, State.when_false]
    exact ⟨rfl, rfl⟩

/-- R50: a STEP of another digest. -/
theorem noteStep_early {code : Byte} (hc : code = 1 ∨ code = 2) (hd : s.planHasDigest d = false) :
    s.noteStep n code d = s.onRound fun r =>
      { r with early := (r.early.filter fun e => e.station != n) ++ [⟨n, code == 1, d⟩] } := by
  rw [State.noteStep, if_pos (show code = stepArmed ∨ code = stepRefused from hc), if_neg (by rw [hd]; simp)]
  rfl

/-- R166: a STEP of no code. -/
theorem noteStep_other {code : Byte} (h1 : code ≠ 1) (h2 : code ≠ 2) : s.noteStep n code d = s := by
  rw [State.noteStep, if_neg (show ¬(code = stepArmed ∨ code = stepRefused) from not_or.mpr ⟨h1, h2⟩)]

end

theorem mem_insertRising {m n : Nat} {l : List Nat} : m ∈ insertRising n l ↔ m = n ∨ m ∈ l := by
  induction l with
  | nil => simp [insertRising]
  | cons k l ih =>
    unfold insertRising
    split
    · simp
    · split
      next h => simp [h]
      next => rw [List.mem_cons, ih, List.mem_cons, or_left_comm]

/-! ## A STEP taken -/

/-- R51: a STEP that leaves the phase, with the armed set after it. -/
def StepStands (s : State) (armed : List Nat) : Prop :=
  s.round.phase ≠ .arming ∨ (s.heldOutcome ≠ some .expired ∧ s.round.refusal = .none ∧
    ∀ p, s.plan.inForce = some p → ∃ m ∈ p.armedNeeded, m ∉ armed)

theorem testArming_of_not {s : State} (hp : s.round.phase ≠ .arming) : s.testArming = s := by
  rw [State.testArming, beq_eq_false_iff_ne.mpr hp, State.when_false]

theorem testArming_stands {s : State} (h : StepStands s s.round.armed) : s.testArming = s := by
  by_cases hp : s.round.phase = .arming
  · obtain ⟨h1, h2, h3⟩ := h.resolve_left fun hne => hne hp
    exact arming_stands hp h1 h2 h3
  · exact testArming_of_not hp

theorem stepTaken_eq {f : Frame} {code rev w : Byte} {d : Half} {s : State} (hpay : f.payload = .step code rev d w)
    (he : f.epoch = s.round.epoch) : s.stepTaken f = (s.noteStep f.number code d).testArming := by
  rw [State.stepTaken, hpay]
  simp only [he, beq_self_eq_true, State.when_true]

section
variable {s : State} {n : Nat} {d : Half}

/-- R50, R51: ARMED with an armed set that stays incomplete. -/
theorem armed_stands (hd : s.planHasDigest d = true) (h : StepStands s (insertRising n s.round.armed)) :
    (s.noteStep n 1 d).testArming = s.onRound fun r => { r with armed := insertRising n r.armed } := by
  rw [noteStep_armed hd]
  exact testArming_stands (s := s.onRound fun r => { r with armed := insertRising n r.armed }) h

/-- R50: a STEP of another digest in a phase that stands. -/
theorem early_stands {code : Byte} (hc : code = 1 ∨ code = 2) (hd : s.planHasDigest d = false)
    (h : StepStands s s.round.armed) :
    (s.noteStep n code d).testArming = s.onRound fun r =>
      { r with early := (r.early.filter fun e => e.station != n) ++ [⟨n, code == 1, d⟩] } := by
  rw [noteStep_early hc hd]
  exact testArming_stands (s := s.onRound fun r =>
    { r with early := (r.early.filter fun e => e.station != n) ++ [⟨n, code == 1, d⟩] }) h

/-- R51: ARMED that completes the armed set. -/
theorem armed_runs {p : Plan} (hp : s.round.phase = .arming) (hc : s.heldOutcome ≠ some .expired)
    (hr : s.round.refusal = .none) (hd : s.planHasDigest d = true) (hplan : s.plan.inForce = some p)
    (ha : ∀ m ∈ p.armedNeeded, m = n ∨ m ∈ s.round.armed) (hrun : s.round.facts.runReq = true)
    (hdef : s.round.deferred = false) :
    RunningEntered (s.onRound fun r => { r with armed := insertRising n r.armed }) (s.noteStep n 1 d).testArming := by
  rw [noteStep_armed hd]
  exact arming_runs (s := s.onRound fun r => { r with armed := insertRising n r.armed }) hp hc hr hplan
    (fun m hm => mem_insertRising.mpr (ha m hm)) hrun hdef

/-- R51: REFUSED by a cell station. -/
theorem refused_resettles (hp : s.round.phase = .arming) (hc : s.heldOutcome ≠ some .expired)
    (hr : s.round.refusal = .none) (hd : s.planHasDigest d = true) (hn : n ≠ 0)
    (hle : s.round.resettle ≤ s.params.resettle) :
    (s.noteStep n 2 d).testArming.round.resettle = s.round.resettle + 1 ∧
    (s.noteStep n 2 d).testArming.round.epoch = s.round.epoch ∧
    (s.round.resettle + 1 ≤ s.params.resettle → (s.noteStep n 2 d).testArming.round.phase = .settling) ∧
    (s.params.resettle < s.round.resettle + 1 → (s.noteStep n 2 d).testArming.round.phase = .lockout) := by
  obtain ⟨hnote, -⟩ := noteStep_refused (n := n) hd
  have hrecord : Round.recordStep n false s.round =
      { s.round with armed := s.round.armed.filter fun m => m != n, refusal := .cell } := by
    simp [Round.recordStep, hn, hr]
  rw [hrecord] at hnote
  generalize s.noteStep n 2 d = x at *
  have hround : x.round = { s.round with armed := s.round.armed.filter fun m => m != n, refusal := .cell } := by rw [hnote]
  have hparams : x.params = s.params := by rw [hnote]; rfl
  have hheld : x.heldOutcome = s.heldOutcome := by rw [hnote]; rfl
  rw [arming_resettles (by rw [hround]; exact hp) (by rwa [hheld]) (by rw [hround])]
  obtain ⟨h1, h2, h3, h4⟩ := resettle_round (s := x) (by rw [hround, hparams]; exact hle)
  rw [hround, hparams] at h3 h4
  rw [hround] at h1 h2
  exact ⟨h1, h2, fun h => (h3 h).1, fun h => (h4 h).1⟩

/-- R51: REFUSED by the line station. -/
theorem refused_halts (hp : s.round.phase = .arming) (hc : s.heldOutcome ≠ some .expired)
    (hd : s.planHasDigest d = true) (hdef : s.round.deferred = false) :
    (s.noteStep 0 2 d).testArming.round.phase = .halted ∧ (s.noteStep 0 2 d).testArming.round.runDemand = false ∧
    (s.noteStep 0 2 d).testArming.round.epoch = s.round.epoch ∧
    (s.noteStep 0 2 d).testArming.plan.inForce = s.plan.inForce := by
  obtain ⟨hnote, -⟩ := noteStep_refused (n := 0) hd
  have hrecord : Round.recordStep 0 false s.round =
      { s.round with armed := s.round.armed.filter fun m => m != 0, refusal := .line } := by
    simp [Round.recordStep]
  rw [hrecord] at hnote
  generalize s.noteStep 0 2 d = x at *
  have hround : x.round = { s.round with armed := s.round.armed.filter fun m => m != 0, refusal := .line } := by rw [hnote]
  have hheld : x.heldOutcome = s.heldOutcome := by rw [hnote]; rfl
  have hplan : x.plan = s.plan := by rw [hnote]
  rw [arming_halts (by rw [hround]; exact hp) (by rwa [hheld]) (by rw [hround]) (by rw [hround]; exact hdef),
    enterBase_inForce rfl, State.enterBase_round, hround, hplan]
  simp [Round.onEntry, runDemandAfter, hp]

end

/-- R29, R147: the station with a frame heard, or with its own frame sent: the round but for the mark of a frame taken, the
plan, the port, the restart state and the store are those before. -/
structure FrameHeard (t : Time) (first : Bool) (s r : State) : Prop where
  round : r.round = { s.round with firstTaken := first }
  plan : r.plan = s.plan
  port : r.port = s.port
  catcher : r.catcher = s.catcher
  store : r.store = s.store
  now : r.now = max s.now t
  powered : r.powered = s.powered
  roster : r.roster = s.roster
  bypass : r.bypass = s.bypass
  watch : r.watch = s.watch
  scanner : r.scanner = s.scanner

theorem frameHeard_hear (t : Time) (f : Frame) (s : State) :
    FrameHeard t true s (((s.advance t).hear f).onRound fun r => { r with firstTaken := true }) where
  round := by simp
  plan := by simp
  port := by simp
  catcher := by simp
  store := by simp
  now := by simp
  powered := by simp
  roster := by simp
  bypass := by simp
  watch := by simp
  scanner := by simp

theorem FrameHeard.heldOutcome {t : Time} {first : Bool} {s r : State} (h : FrameHeard t first s r) :
    r.heldOutcome = s.heldOutcome := by
  rw [State.heldOutcome, State.heldOutcome, h.round]

theorem FrameHeard.planHasDigest {t : Time} {first : Bool} {d : Half} {s r : State} (h : FrameHeard t first s r) :
    r.planHasDigest d = s.planHasDigest d := by
  rw [State.planHasDigest, State.planHasDigest, h.plan]

theorem planHasDigest_some {d : Half} {s : State} (h : s.planHasDigest d = true) : ∃ p, s.plan.inForce = some p := by
  unfold State.planHasDigest at h
  cases hp : s.plan.inForce with
  | none => simp [hp] at h
  | some p => exact ⟨p, rfl⟩

theorem exec_stepReceived {t : Time} {x : Transmission} {f : Frame} {code rev w : Byte} {d : Half} {s : State}
    (hr : s.runs = true) (hx : examineKind .step x = some f) (hpay : f.payload = .step code rev d w)
    (hf : f.station.toNat ≠ s.number) (he : f.epoch = s.round.epoch) (h1 : s.round.phase ≠ .joining)
    (h2 : s.round.phase ≠ .isolated) :
    exec (.stepReceived t x) s = .next ((State.noteStep f.station.toNat code d
      (((s.advance t).hear f).onRound fun r => { r with firstTaken := true })).testArming) := by
  have hexec : exec (.stepReceived t x) s = .next ((s.advance t).takeStep f) := exec_receivedOf (k := .step) hr hx hf
  have hnot : epochNewer f.epoch (s.advance t).round.epoch = false := by
    show epochNewer f.epoch s.round.epoch = false
    rw [he, epochNewer_self]
  rw [hexec, State.takeStep, State.takeFrame_not_newer (s := s.advance t) h1 h2 hnot, stepTaken_eq hpay (by simpa using he)]
  rfl

/-- Settles O25: a STEP of the epoch by its code, its digest and the phase. -/
theorem stepIsRecordedForPlanInForce : Obligations.StepIsRecordedForPlanInForce := by
  rintro t x f rev d w code s n hr hx hpay rfl hf he hjoin hiso
  have hheard := frameHeard_hear t f s
  refine ⟨_, exec_stepReceived hr hx hpay hf he hjoin hiso, ?_⟩
  generalize ((s.advance t).hear f).onRound (fun r => { r with firstTaken := true }) = r at *
  have hd : r.planHasDigest d = s.planHasDigest d := hheard.planHasDigest
  have hc := hheard.heldOutcome
  have hround := hheard.round
  refine ⟨fun armed' still harmed hstill => ?_, fun p hp hplan hdig hheld hrefusal => ?_⟩
  · have hstands : still → StepStands r armed' := by
      intro h
      rcases hstill.mp h with h | ⟨h1, h2, h3⟩
      · exact .inl (by rw [hround]; exact h)
      · exact .inr ⟨by rwa [hc], by rw [hround]; exact h2, by rwa [hheard.plan]⟩
    refine ⟨?_, ?_, ?_, fun h1 h2 h => ?_⟩
    · rintro rfl hdig h
      rw [if_pos ⟨rfl, hdig⟩] at harmed
      rw [armed_stands (hd.trans hdig) (by rw [hround]; exact harmed ▸ hstands h), State.onRound_round, hround]
    · rintro rfl hdig hp
      obtain ⟨hnote, -⟩ := noteStep_refused (n := f.station.toNat) (hd.trans hdig)
      have hnround : (r.noteStep f.station.toNat 2 d).round = Round.recordStep f.station.toNat false r.round := by rw [hnote]
      rw [testArming_of_not (by rw [hnround, hround]; exact hp), hnround, hround]
      rfl
    · intro hcode hdig h
      rw [hdig] at harmed
      simp only [Bool.false_eq_true, and_false, if_false] at harmed
      rw [early_stands hcode (hd.trans hdig) (by rw [hround]; exact harmed ▸ hstands h), State.onRound_round, hround]
    · rw [if_neg fun hh => h1 hh.1] at harmed
      rw [noteStep_other h1 h2, testArming_stands (by rw [hround]; exact harmed ▸ hstands h), hround]
  · have hp' : r.round.phase = .arming := by rw [hround]; exact hp
    have hc' : r.heldOutcome ≠ some .expired := by rwa [hc]
    have hr' : r.round.refusal = .none := by rw [hround]; exact hrefusal
    have hparams := State.params_congr hheard.store
    refine ⟨?_, ?_, ?_⟩
    · rintro rfl ha hrun hdef
      have hentered := armed_runs (n := f.station.toNat) hp' hc' hr' (hd.trans hdig) (by rw [hheard.plan]; exact hplan)
        (by rw [hround]; exact ha) (by rw [hround]; exact hrun) (by rw [hround]; exact hdef)
      have hfinal := hentered.round
      rw [State.onRound_round, hround] at hfinal
      have hin := hentered.inForce
      rw [State.onRound_plan, hheard.plan] at hin
      refine ⟨by rw [hfinal]; rfl, by rw [hfinal]; rfl, by rw [hfinal]; rfl, by rw [hfinal]; rfl, by rw [hin, hplan],
        fun hl => ?_⟩
      obtain ⟨q, hcatcher, hport, hqc, hqp, hqe, hqn⟩ := hentered.supplied
        ((isLine_congr (r := r.onRound _) hheard.store).trans hl) (by
          rw [State.onRound_plan, hheard.plan, hplan]
          rfl)
      have hstore : (r.noteStep f.station.toNat 1 d).testArming.store = s.store := hentered.store.trans hheard.store
      have hpowered : (r.noteStep f.station.toNat 1 d).testArming.powered = s.powered :=
        hentered.powered.trans hheard.powered
      rw [State.onRound_catcher, hheard.catcher] at hqc
      rw [State.onRound_port, hheard.port] at hqp
      rw [State.onRound_round, hround] at hqe
      rw [State.onRound_now, hheard.now] at hqn
      have hbudget : q.supplyCatch.catcher.budget = .idle ∧ q.supplyCatch.catcher.budgetTimer = none := by
        have : q.supplyCatch.catcher = { q.catcher with record := { q.catcher.record with used := true } } := rfl
        rw [this, hqc]
        exact ⟨rfl, rfl⟩
      rw [hcatcher, hport]
      refine ⟨?_, hbudget.1, hbudget.2, fun k supplied part hk hs hcaught hcold hfailed hnone => ?_⟩
      · have hruns : (r.noteStep f.station.toNat 1 d).testArming.runs = true := by
          rw [State.runs, hpowered, hstore]
          exact hr
        rw [State.release, hruns, isLine_congr hstore, hl, hfinal, hin, hplan]
        rfl
      · obtain ⟨g1, g2, g3, g4⟩ := supplyCatch_holds (s := q) (k := k) (supplied := supplied) (part := part)
          (by rw [hk, hqc]; rfl) (by rw [hs, hqe]) (by rw [hqn]; exact hcaught) hcold hfailed hnone
        rw [hqp] at g2 g3 g4
        rw [g1]
        exact ⟨rfl, g2, g3, g4⟩
    · rintro rfl hn hle
      have h := refused_resettles (n := f.station.toNat) hp' hc' hr' (hd.trans hdig) hn (by rw [hround, hparams]; exact hle)
      rw [hround, hparams] at h
      exact h
    · rintro rfl hn hdef
      have h := refused_halts hp' hc' (hd.trans hdig) (by rw [hround]; exact hdef)
      rw [hround, hheard.plan, hplan] at h
      rw [hn]
      exact h

end Sys2Proof.Proofs

/-! # Switch marks

PROOFS about a LINE frame in REVISING (R77, R86, R87, R92): the adoption at its switch mark, the failed switch, and a frame
before the mark. -/

namespace Sys2Proof.Proofs

open Sys2Proof.Machine Sys2Proof.Safety

/-! ## What an adoption hands on -/

/-- R47, R50, R87: the armed set cleared leaves everything but the armed set, the early steps, the catch and the scanner. -/
theorem clearArmed_fields (d : Half) (s : State) :
    s.clearArmed d = { s with
      round := { s.round with armed := (s.clearArmed d).round.armed, refusal := (s.clearArmed d).round.refusal, early := [] }
      catcher := (s.clearArmed d).catcher, scanner := (s.clearArmed d).scanner } := by
  have hremoval : ∀ (l : List Nat) (r : State), r.afterRemoval l =
      { r with catcher := (r.afterRemoval l).catcher, scanner := (r.afterRemoval l).scanner } := by
    intro l r
    unfold State.afterRemoval State.when
    split
    · exact overdueExpiry_fields r
    · rfl
  have hrecord : ∀ (n : Nat) (a : Bool) (r : State), r.recordStep n a = { r with
      round := { r.round with armed := (r.recordStep n a).round.armed, refusal := (r.recordStep n a).round.refusal }
      catcher := (r.recordStep n a).catcher, scanner := (r.recordStep n a).scanner } := by
    intro n a r
    rw [State.recordStep, hremoval]
    unfold State.onRound Round.recordStep
    split <;> rfl
  have hfold : ∀ (l : List EarlyStep) (r : State), ∃ a f c x,
      l.foldl (fun s e => s.recordStep e.station e.armed) r =
        { r with round := { r.round with armed := a, refusal := f }, catcher := c, scanner := x } := by
    intro l
    induction l with
    | nil => exact fun r => ⟨_, _, _, _, rfl⟩
    | cons e l ih =>
      intro r
      obtain ⟨a, f, c, x, h⟩ := ih (r.recordStep e.station e.armed)
      rw [List.foldl_cons, h, hrecord]
      exact ⟨a, f, c, x, rfl⟩
  rw [State.clearArmed, State.recordEarly]
  generalize hq : (s.onRound fun r => { r with armed := [], refusal := .none }).afterRemoval s.round.armed = q
  obtain ⟨a, f, c, x, h⟩ := hfold (q.round.early.filter fun e => e.digest == d) q
  rw [h, ← hq, hremoval]
  rfl

section
variable {s : State} (hp : s.round.phase = .revising)
include hp

/-- R38: an own write in REVISING moves no round, and no candidate where none is held. -/
theorem requestWrite_revising (c : Condition) (k : FaultClass) :
    (s.requestWrite c k).round = s.round ∧ (s.plan.build = .none → (s.requestWrite c k).plan = s.plan) := by
  have hcancel : ∀ r : State, r.cancelSwitch.round = r.round ∧ r.cancelSwitch.plan = r.plan := fun r => by simp
  unfold State.requestWrite
  split
  next i _ =>
    split
    · exact ⟨rfl, fun _ => rfl⟩
    · have hwrite : ((s.writeEntry i ((s.entryAt i).owned c k)).timeRest c).round = s.round ∧
          ((s.writeEntry i ((s.entryAt i).owned c k)).timeRest c).plan = s.plan := ⟨rfl, rfl⟩
      have hsummary : ∀ r : State, r.queueSummary.round = r.round ∧ r.queueSummary.plan = r.plan := fun r => by simp
      rw [State.assertEntry, (hsummary _).1, (hsummary _).2, State.handChange]
      generalize (s.writeEntry i ((s.entryAt i).owned c k)).timeRest c = q at *
      have hphase : (q.planEntryChange i).round.phase = .revising := by simp [hwrite.1, hp]
      rw [entryChange_revising (by simp) hphase, (hcancel _).1, (hcancel _).2]
      refine ⟨by simp [hwrite.1], fun hb => ?_⟩
      rw [State.planEntryChange, hwrite.2, hb]
      exact hwrite.2
  next => exact ⟨rfl, fun _ => rfl⟩

/-- R137: a CLOSE in REVISING. -/
theorem closeCmd_revising (hl : s.isLine = false) :
    s.closeCmd.round = s.round ∧ s.closeCmd.bypass = closeOf s ∧ (s.plan.build = .none → s.closeCmd.plan = s.plan) := by
  have hconfirm : ∀ r : State, r.round.phase = .revising → r.confirmClosed.round = r.round ∧
      r.confirmClosed.bypass = r.bypass ∧ (r.plan.build = .none → r.confirmClosed.plan = r.plan) := by
    intro r hr
    have hwrite : (r.when r.faultedWithLatch fun s => s.requestWrite .bypassed s.watch.leading).round = r.round ∧
        (r.when r.faultedWithLatch fun s => s.requestWrite .bypassed s.watch.leading).bypass = r.bypass ∧
        (r.plan.build = .none →
          (r.when r.faultedWithLatch fun s => s.requestWrite .bypassed s.watch.leading).plan = r.plan) :=
      when_keeps (P := fun q : State => q.round = r.round ∧ q.bypass = r.bypass ∧ (r.plan.build = .none → q.plan = r.plan))
        ⟨rfl, rfl, fun _ => rfl⟩ fun _ =>
          have ⟨h1, h2⟩ := requestWrite_revising hr .bypassed r.watch.leading
          ⟨h1, by simp, h2⟩
    unfold State.confirmClosed
    refine when_keeps (P := fun q : State => q.round = r.round ∧ q.bypass = r.bypass ∧
      (r.plan.build = .none → q.plan = r.plan)) hwrite fun _ => ?_
    simpa using hwrite
  rw [closeCmd_eq hl]
  exact when_keeps (P := fun q : State => q.round = s.round ∧ q.bypass = closeOf s ∧
    (s.plan.build = .none → q.plan = s.plan)) ⟨rfl, rfl, fun _ => rfl⟩ fun _ => hconfirm { s with bypass := closeOf s } hp

end

/-! ## The command of a change of role -/

/-- Table 4-2: the Bypass Controller after the command that a change of role brings. -/
def roleBypass (old : CellRole) (s : State) : Bypass :=
  if s.isLine then s.bypass
  else if s.cellRole.isActive then
    if old.isActive = true ∨ s.bypass.state = .opened ∨ s.bypass.state = .opening ∨ s.watch.latch ≠ [] then s.bypass
    else openFrom .switch s s.bypass.state
  else if s.bypass.state = .closed ∨ s.bypass.state = .closing then s.bypass
  else closeOf s

theorem roleAction_cell {old : CellRole} {s : State} (hl : s.isLine = false) :
    s.roleAction old = if s.cellRole.isActive then
        if old.isActive = true ∨ s.bypass.state = .opened ∨ s.bypass.state = .opening then s else s.openCmd .switch
      else if s.bypass.state = .closed ∨ s.bypass.state = .closing then s else s.closeCmd := by
  have hcell : s.isCell = true := by rw [isCell_eq_not_isLine, hl, Bool.not_false]
  unfold State.roleAction
  rw [hcell]
  cases s.cellRole <;> rfl

theorem roleAction_line {old : CellRole} {s : State} (hl : s.isLine = true) : s.roleAction old = s := by
  have hcell : s.isCell = false := by rw [isCell_eq_not_isLine, hl, Bool.not_true]
  unfold State.roleAction
  rw [hcell]
  rfl

/-- R87: what the command of a change of role leaves in REVISING without a candidate. -/
structure RoleActed (old : CellRole) (s r : State) : Prop where
  round : r.round = s.round
  plan : r.plan = s.plan
  bypass : r.bypass = roleBypass old s
  store : r.store = s.store
  powered : r.powered = s.powered
  now : r.now = s.now
  line : s.isLine = true → r = s

theorem roleAction_revising {old : CellRole} {s : State} (hp : s.round.phase = .revising) (hb : s.plan.build = .none) :
    RoleActed old s (s.roleAction old) := by
  cases hl : s.isLine with
  | true =>
    have hstands := roleAction_line (old := old) hl
    have hbypass : s.bypass = roleBypass old s := by
      unfold roleBypass
      rw [if_pos hl]
    rw [hstands]
    exact ⟨rfl, rfl, hbypass, rfl, rfl, rfl, fun _ => rfl⟩
  | false =>
    have hcell : s.isCell = true := by rw [isCell_eq_not_isLine, hl, Bool.not_false]
    have hstays : roleBypass old s = s.bypass → RoleActed old s s := fun h =>
      ⟨rfl, rfl, h.symm, rfl, rfl, rfl, fun _ => rfl⟩
    have hnot : ¬ s.isLine = true := by simp [hl]
    rw [roleAction_cell hl]
    split
    next hactive =>
      split
      next hmoves =>
        exact hstays (by unfold roleBypass; rw [if_neg hnot, if_pos hactive, if_pos (hmoves.imp_right (.imp_right .inl))])
      next hstands =>
        by_cases hlatch : s.watch.latch = []
        · rw [openCmd_eq .switch hcell hlatch fun h => hstands (.inr (.inl h))]
          exact ⟨rfl, rfl, by unfold roleBypass; rw [if_neg hnot, if_pos hactive, if_neg (by simpa [hlatch] using hstands)], rfl, rfl, rfl,
            fun h => absurd h hnot⟩
        · have hopen : s.openCmd .switch = s := by
            unfold State.openCmd
            rw [if_pos (by simp [hlatch])]
          rw [hopen]
          exact hstays (by unfold roleBypass; rw [if_neg hnot, if_pos hactive, if_pos (.inr (.inr (.inr hlatch)))])
    next hpassive =>
      split
      next hstands => exact hstays (by unfold roleBypass; rw [if_neg hnot, if_neg hpassive, if_pos hstands])
      next hmoves =>
        obtain ⟨hround, hbypass, hplan⟩ := closeCmd_revising hp hl
        exact ⟨hround, hplan hb, by rw [hbypass]; unfold roleBypass; rw [if_neg hnot, if_neg hpassive, if_neg hmoves],
          by simp, by simp, by simp, fun h => absurd h hnot⟩

end Sys2Proof.Proofs

/-! # Adoption at a switch mark

PROOFS about a candidate adopted at its switch mark (R77, R87, R88), for a cell station and for the line station alike. -/

namespace Sys2Proof.Proofs

open Sys2Proof.Machine Sys2Proof.Safety

/-! ## The record on LSO -/

/-- R87, R177: the presented record in force, SWITCH pulsed, switch pending cleared. -/
theorem switchRecords_port (p : Plan) (s : State) :
    (s.switchRecords p).port.presented = none ∧ (s.switchRecords p).port.switchPending = none ∧
    (s.switchRecords p).port.switchPulse = some (s.now + 10) ∧
    ∀ x, s.port.presented = some x → (s.switchRecords p).port.record = x ∧
      (s.switchRecords p).port.rready = s.port.rready := by
  rw [State.switchRecords, State.onPort_port, State.changeRecord, State.onPort_port]
  split
  next => exact ⟨rfl, rfl, rfl, fun x hx => ⟨by simp [hx], rfl⟩⟩
  next hdiffers =>
    refine ⟨rfl, rfl, rfl, fun x hx => absurd ?_ hdiffers⟩
    simp [Port.onLso, hx]

/-- R85, R177: a switch withdrawn where no record is presented. -/
theorem withdrawSwitch_port {s : State} (h : s.port.presented = none) :
    s.withdrawSwitch.port = { s.port with switchPending := none } := by
  simp only [State.withdrawSwitch, State.changeRecord, State.onPort_port]
  rw [if_pos (by rw [Port.onLso, Port.onLso, h])]
  cases hport : s.port
  simp_all

/-! ## The adoption -/

/-- R77, R87: the candidate `c` adopted at its mark frame. -/
structure SwitchAdopted (c : Plan) (s r : State) : Prop where
  plan : r.plan = s.plan.adoptPlan c
  phase : r.round.phase = .running
  epoch : r.round.epoch = s.round.epoch
  facts : r.round.facts = s.round.facts
  deferred : r.round.deferred = false
  timer : r.round.phaseTimer = none
  armed : s.round.early = [] → r.round.armed = [] ∧ r.round.refusal = .none
  bypass : r.bypass = roleBypass s.cellRole (s.onPlan (PlanUnit.adoptPlan c))
  store : r.store = s.store
  powered : r.powered = s.powered
  now : r.now = s.now
  records : s.isLine = true → r.port.switchPending = none ∧ r.port.presented = none ∧
    r.port.switchPulse = some (s.now + 10) ∧
    ∀ x, s.port.presented = some x → r.port.record = x ∧ r.port.rready = s.port.rready

/-- R30, R87: what the entry to RUNNING leaves of the adoption. -/
theorem switchAdopted_enterBase {c : Plan} {s z : State} (hp : s.round.phase = .revising) (hd : s.round.deferred = false)
    (hround : z.round = { s.round with armed := z.round.armed, refusal := z.round.refusal, early := [] })
    (harmed : s.round.early = [] → z.round.armed = [] ∧ z.round.refusal = .none) (hplan : z.plan = s.plan.adoptPlan c)
    (hbypass : z.bypass = roleBypass s.cellRole (s.onPlan (PlanUnit.adoptPlan c))) (hstore : z.store = s.store)
    (hpowered : z.powered = s.powered) (hnow : z.now = s.now)
    (hport : s.isLine = true → z.port.switchPending = none ∧ z.port.presented = none ∧
      z.port.switchPulse = some (s.now + 10) ∧
      ∀ x, s.port.presented = some x → z.port.record = x ∧ z.port.rready = s.port.rready) :
    SwitchAdopted c s (z.enterBase .running) := by
  have hphase : z.round.phase = .revising := by rw [hround]; exact hp
  have hframe : ∀ r : State, (r.enterBase .running).store = r.store ∧ (r.enterBase .running).powered = r.powered ∧
      (r.enterBase .running).now = r.now ∧ (r.enterBase .running).bypass = r.bypass := fun r => by simp
  obtain ⟨hs, hw, hn, hb⟩ := hframe z
  have hentry := State.enterBase_round .running z
  have hheld := (enterBase_running_holds hphase).1
  have hline : s.isLine = true → (z.enterBase .running).port = { z.port with switchPending := none } := fun hl => by
    rw [enterBase_running_port hphase (by rw [State.isLine, hstore]; exact hl), withdrawSwitch_port (hport hl).2.1]
  generalize z.enterBase .running = r at *
  have hrr : r.round = { s.round with
      phase := .running, resettle := 0, armed := z.round.armed, refusal := z.round.refusal, early := []
      tripRound := r.round.tripRound, deferred := false, runDemand := r.round.runDemand, phaseTimer := none } := by
    rw [hentry, hround]
    simp [Round.onEntry, deferredAfter, hd, Phase.clearsArmed, Phase.clearsPlan, phaseDeadline]
  refine ⟨hheld.trans hplan, by rw [hrr], by rw [hrr], by rw [hrr], by rw [hrr], by rw [hrr], ?_, hb.trans hbypass,
    hs.trans hstore, hw.trans hpowered, hn.trans hnow, fun hl => ?_⟩
  · rw [hrr]
    exact harmed
  · rw [hline hl]
    obtain ⟨_, hpresented, hpulse, hrecord⟩ := hport hl
    exact ⟨rfl, hpresented, hpulse, hrecord⟩

/-- R50, R87: no early step, an armed set cleared. -/
theorem clearArmed_none (d : Half) {s : State} (h : s.round.early = []) :
    (s.clearArmed d).round.armed = [] ∧ (s.clearArmed d).round.refusal = .none := by
  have hremoval : ∀ (l : List Nat) (r : State), (r.afterRemoval l).round = r.round := fun l r => by simp
  rw [State.clearArmed, State.recordEarly]
  generalize hq : (s.onRound fun r => { r with armed := [], refusal := .none }).afterRemoval s.round.armed = q
  have hround : q.round = { s.round with armed := [], refusal := .none } := by rw [← hq, hremoval]; rfl
  rw [hround]
  simp [h, hround]

/-- R77, R87: the adoption of a candidate at its mark frame. -/
theorem switchAdopted {c : Plan} {d : Half} {s : State} (hp : s.round.phase = .revising)
    (hrun : s.round.facts.runReq = true) (hd : s.round.deferred = false) : SwitchAdopted c s (s.adoptSwitch c d) := by
  rw [State.adoptSwitch]
  generalize hy : (s.onPlan (PlanUnit.adoptPlan c)).clearArmed d = y
  have hfields := clearArmed_fields d (s.onPlan (PlanUnit.adoptPlan c))
  have harmed : s.round.early = [] → y.round.armed = [] ∧ y.round.refusal = .none := fun h => hy ▸ clearArmed_none d h
  rw [hy] at hfields
  have hround : y.round = { s.round with armed := y.round.armed, refusal := y.round.refusal, early := [] } := by
    rw [hfields]; rfl
  have hplan : y.plan = s.plan.adoptPlan c := by rw [hfields]; rfl
  have hstore : y.store = s.store := by rw [hfields]; rfl
  have hpowered : y.powered = s.powered := by rw [hfields]; rfl
  have hnow : y.now = s.now := by rw [hfields]; rfl
  have hport : y.port = s.port := by rw [hfields]; rfl
  have hbypass : roleBypass s.cellRole y = roleBypass s.cellRole (s.onPlan (PlanUnit.adoptPlan c)) := by
    rw [hfields]; rfl
  have hphase : y.round.phase = .revising := by rw [hround]; exact hp
  have hacted := roleAction_revising (old := s.cellRole) hphase (by rw [hplan]; rfl)
  generalize y.roleAction s.cellRole = z at hacted
  have hrecords : ∀ r : State, ((r.when s.isLine (State.switchRecords c)).round = r.round ∧
      (r.when s.isLine (State.switchRecords c)).plan = r.plan ∧
      (r.when s.isLine (State.switchRecords c)).bypass = r.bypass ∧
      (r.when s.isLine (State.switchRecords c)).store = r.store ∧
      (r.when s.isLine (State.switchRecords c)).powered = r.powered ∧
      (r.when s.isLine (State.switchRecords c)).now = r.now) := fun r => by simp
  obtain ⟨h1, h2, h3, h4, h5, h6⟩ := hrecords z
  have hheld : s.isLine = true → (z.when s.isLine (State.switchRecords c)).port.switchPending = none ∧
      (z.when s.isLine (State.switchRecords c)).port.presented = none ∧
      (z.when s.isLine (State.switchRecords c)).port.switchPulse = some (s.now + 10) ∧
      ∀ x, s.port.presented = some x → (z.when s.isLine (State.switchRecords c)).port.record = x ∧
        (z.when s.isLine (State.switchRecords c)).port.rready = s.port.rready := by
    intro hl
    rw [hl, State.when_true]
    obtain ⟨ha, hb, hc, hx⟩ := switchRecords_port c z
    have hzp : z.port = s.port := by rw [hacted.line (by rw [State.isLine, hstore]; exact hl), hport]
    rw [hacted.now, hnow] at hc
    rw [hzp] at hx
    exact ⟨hb, ha, hc, hx⟩
  generalize z.when s.isLine (State.switchRecords c) = x at *
  have hxr : x.round = y.round := h1.trans hacted.round
  rw [enter_running_stays (by rw [hxr]; exact hphase) (by rw [hxr, hround]; exact hrun) (by rw [hxr, hround]; exact hd)]
  exact switchAdopted_enterBase hp hd (by rw [hxr]; exact hround) (by rw [hxr]; exact harmed)
    (h2.trans (hacted.plan.trans hplan)) (h3.trans (hacted.bypass.trans hbypass)) (h4.trans (hacted.store.trans hstore))
    (h5.trans (hacted.powered.trans hpowered)) (h6.trans (hacted.now.trans hnow)) hheld

end Sys2Proof.Proofs

/-! # A LINE frame taken

PROOFS about a LINE frame taken by the Round Controller (R36, R37, R77, R86, R92), a cell station's from station 0 or the
line station's own. -/

namespace Sys2Proof.Proofs

open Sys2Proof.Machine Sys2Proof.Safety

/-! ## The line facts -/

/-- R36, R37: the line facts and the run demand of a LINE frame. -/
def lineFaced (e : Half) (l : LinePayload) (s : State) : State := s.onRound (Round.facing e l)

theorem lineFaced_round (e : Half) (l : LinePayload) (s : State) : (lineFaced e l s).round = { s.round with
    facts := ⟨l.runReq, l.runReq, l.brakeOpen, some l.faultCount, catchHeldAfter e l s.round.facts.catchHeld, some l.mark⟩
    runDemand := l.runReq && (s.round.runDemand || !s.round.facts.prevRun) } := by
  have hdemand : (if l.runReq then s.round.runDemand || s.round.facts.freshRun l else false) =
      (l.runReq && (s.round.runDemand || !s.round.facts.prevRun)) := by
    unfold LineFacts.freshRun
    cases l.runReq <;> rfl
  rw [← hdemand]
  rfl

section
variable {e : Half} {l : LinePayload} {s : State}

/-- R58, R59: with run request present no fault-reset count is acted on. -/
theorem lineTaken_request (hrun : l.runReq = true) (hp : s.round.phase ≠ .halted) :
    s.lineTaken e l = ((lineFaced e l s).takeSwitch e l).actOnFacts false := by
  have hfresh : ((lineFaced e l s).round.phase == .halted) = false := beq_eq_false_iff_ne.mpr hp
  have hcount : (s.round.facts.countChanged l && !l.runReq) = false := by rw [hrun, Bool.not_true, Bool.and_false]
  rw [State.lineTaken, hcount, State.when_false]
  show State.actOnFacts (s.round.facts.freshRun l && ((lineFaced e l s).round.phase == .halted)) _ = _
  rw [hfresh, Bool.and_false]
  rfl

/-- R36: TRIPPED, SETTLING and PLANNING read no fact of a LINE frame. -/
theorem lineTaken_noted (hp : s.round.phase = .tripped ∨ s.round.phase = .settling ∨ s.round.phase = .planning) :
    s.lineTaken e l = lineFaced e l s := by
  have hphase : (lineFaced e l s).round.phase = s.round.phase := rfl
  have hcount : (lineFaced e l s).countAction = lineFaced e l s := by
    unfold State.countAction
    rw [hphase]
    rcases hp with h | h | h <;> rw [h]
  have hswitch : (lineFaced e l s).takeSwitch e l = lineFaced e l s := by
    unfold State.takeSwitch
    rw [hphase, show s.round.phase.drives = false by rcases hp with h | h | h <;> rw [h] <;> rfl, Bool.and_false,
      State.when_false]
  have hacts : ∀ fresh, (lineFaced e l s).actOnFacts fresh = lineFaced e l s := by
    intro fresh
    unfold State.actOnFacts
    rw [hphase]
    rcases hp with h | h | h <;> rw [h]
  rw [State.lineTaken]
  show State.actOnFacts _ (((lineFaced e l s).when _ State.countAction).takeSwitch e l) = _
  rw [show ∀ b, (lineFaced e l s).when b State.countAction = lineFaced e l s from fun b => by
    cases b
    · exact State.when_false ..
    · exact (State.when_true ..).trans hcount, hswitch, hacts]

end

/-! ## A switch block in REVISING -/

/-- R86: the switch record of a LINE frame with a switch block, where a plan is in force. -/
def switchNoted (e : Half) (w : SwitchBlock) (s : State) : State :=
  s.onPlan fun u => { u with switchRecord := some ⟨e, w.rev, w.mark, w.digest⟩ }

/-- R92: a plan in force of the block's revision, a record before of that revision: no switch has failed. -/
theorem switchFailed_same {l : LinePayload} {w : SwitchBlock} {p : Plan} {s : State} (hw : l.switchBlock = some w)
    (hp : s.plan.inForce = some p) (hrev : p.revision = w.rev) (hrec : ∀ r ∈ s.plan.switchRecord, r.rev = w.rev) :
    s.switchFailed l = false := by
  have hmark : failsAtMark l.mark l.switchBlock p = false := by simp [failsAtMark, hw, hrev]
  have hpast : failsPastMark l.mark s.plan.switchRecord p = false := by
    unfold failsPastMark
    cases hr : s.plan.switchRecord with
    | none => rfl
    | some r => simp [hrev, hrec r hr]
  simp [State.switchFailed, hp, hmark, hpast]

/-- R92: before the mark, with no mark of the switch record missed, no switch has failed. -/
theorem switchFailed_early {l : LinePayload} {w : SwitchBlock} {s : State} (hw : l.switchBlock = some w)
    (hm : l.mark ≠ w.mark) (hrec : ∀ r ∈ s.plan.switchRecord, serialNewer l.mark r.mark = false) :
    s.switchFailed l = false := by
  have hmark : ∀ p, failsAtMark l.mark l.switchBlock p = false := fun p => by simp [failsAtMark, hw, hm]
  have hpast : ∀ p, failsPastMark l.mark s.plan.switchRecord p = false := by
    intro p
    unfold failsPastMark
    cases hr : s.plan.switchRecord with
    | none => rfl
    | some r => simp [hrec r hr]
  unfold State.switchFailed
  split
  · rw [hmark, hpast]
    rfl
  · rfl

/-- R86: no failed switch: the switch record alone. -/
theorem followSwitch_notes {e : Half} {l : LinePayload} {w : SwitchBlock} {s : State} (hw : l.switchBlock = some w)
    (hheld : l.mark = w.mark → s.plan.inForce.isSome = true) (hf : s.switchFailed l = false) :
    s.followSwitch e l = switchNoted e w s := by
  have hrecord : recordAfter e l s.plan.inForce.isSome = some ⟨e, w.rev, w.mark, w.digest⟩ := by
    unfold recordAfter
    simp only [hw]
    rw [if_neg fun h => by simp [hheld h.1] at h]
  rw [State.followSwitch, hf, State.when_false, switchNoted, State.onPlan, State.onPlan, hrecord]

section
variable {e : Half} {l : LinePayload} {w : SwitchBlock} {c : Plan} {b : PlanBody} {s : State}
variable (hp : s.round.phase = .revising) (he : e = s.round.epoch) (hw : l.switchBlock = some w) (hrun : l.runReq = true)
variable (hb : s.plan.build = .built) (hc : s.plan.candidate = some c)
include hp he hw hrun

omit hw in
/-- R86: the adoption test and what follows it. -/
theorem lineTaken_revising : s.lineTaken e l =
    (((lineFaced e l s).testSwitch e l).when ((lineFaced e l s).testSwitch e l).round.phase.drives
      (State.followSwitch e l)).actOnFacts false := by
  have hgo : (e == (lineFaced e l s).round.epoch && (lineFaced e l s).round.phase.drives) = true := by
    rw [show (lineFaced e l s).round.epoch = s.round.epoch from rfl,
      show (lineFaced e l s).round.phase = s.round.phase from rfl, hp, he, beq_self_eq_true]
    rfl
  rw [lineTaken_request hrun (by rw [hp]; decide), State.takeSwitch, hgo, State.when_true]

/-- R77, R86: no adoption and no failed switch. -/
theorem lineTaken_stands (hno : (lineFaced e l s).switchAdopts e l.mark w = none)
    (hheld : l.mark = w.mark → s.plan.inForce.isSome = true) (hf : (lineFaced e l s).switchFailed l = false) :
    s.lineTaken e l = switchNoted e w (lineFaced e l s) := by
  have htest : (lineFaced e l s).testSwitch e l = lineFaced e l s := by
    unfold State.testSwitch
    simp only [hw, hno]
  have hacts : (switchNoted e w (lineFaced e l s)).actOnFacts false = switchNoted e w (lineFaced e l s) := by
    unfold State.actOnFacts
    rw [show (switchNoted e w (lineFaced e l s)).round.phase = .revising from hp]
    show State.enterIf (!l.runReq) .halted _ = _
    rw [hrun]
    rfl
  rw [lineTaken_revising hp he hrun, htest, show (lineFaced e l s).round.phase.drives = true by
    rw [show (lineFaced e l s).round.phase = .revising from hp]; rfl, State.when_true,
    followSwitch_notes (s := lineFaced e l s) hw hheld hf, hacts]

/-- R92: a failed switch raises a local alarm of class LINE. -/
theorem lineTaken_fails (hno : (lineFaced e l s).switchAdopts e l.mark w = none)
    (hf : (lineFaced e l s).switchFailed l = true) :
    ∃ u, s.lineTaken e l = State.localAlarm FaultClass.line ((lineFaced e l s).onPlan u) := by
  have htest : (lineFaced e l s).testSwitch e l = lineFaced e l s := by
    unfold State.testSwitch
    simp only [hw, hno]
  refine ⟨fun u => { u with switchRecord := recordAfter e l u.inForce.isSome }, ?_⟩
  rw [lineTaken_revising hp he hrun, htest, show (lineFaced e l s).round.phase.drives = true by
    rw [show (lineFaced e l s).round.phase = .revising from hp]; rfl, State.when_true, State.followSwitch, hf,
    State.when_true]
  have hphase : ∀ u, ((lineFaced e l s).onPlan u).round.phase.dropsAlarm = false := fun u => by
    rw [show ((lineFaced e l s).onPlan u).round.phase = .revising from hp]
    rfl
  have htaken := (localAlarm_taken FaultClass.line (hphase fun u => { u with
    switchRecord := recordAfter e l u.inForce.isSome })).phase
  unfold State.actOnFacts
  rcases htaken with h | h <;> rw [h]

/-- R77, R86, R87: the candidate adopted at its mark frame; RUNNING with run request present. -/
theorem lineTaken_adopts {d : Half} (hd : s.round.deferred = false)
    (hrec : ∀ r ∈ s.plan.switchRecord, r.rev = w.rev) (hrev : c.revision = w.rev)
    (hadopts : (lineFaced e l s).switchAdopts e l.mark w = some (c, d)) :
    ∃ r, SwitchAdopted c (lineFaced e l s) r ∧ s.lineTaken e l = switchNoted e w r := by
  have htest : (lineFaced e l s).testSwitch e l = (lineFaced e l s).adoptSwitch c d := by
    unfold State.testSwitch
    simp only [hw, hadopts]
  have hadopted := switchAdopted (c := c) (d := d) (s := lineFaced e l s) hp hrun hd
  refine ⟨_, hadopted, ?_⟩
  rw [lineTaken_revising hp he hrun, htest]
  generalize (lineFaced e l s).adoptSwitch c d = r at *
  have hplan : r.plan.inForce = some c := by rw [hadopted.plan]; rfl
  have hrecord : ∀ x ∈ r.plan.switchRecord, x.rev = w.rev := by rw [hadopted.plan]; exact hrec
  rw [show r.round.phase.drives = true by rw [hadopted.phase]; rfl, State.when_true,
    followSwitch_notes hw (fun _ => by rw [hplan]; rfl) (switchFailed_same hw hplan hrev hrecord)]
  unfold State.actOnFacts
  rw [show (switchNoted e w r).round.phase = .running from hadopted.phase]
  show State.enterIf (!r.round.facts.runReq) .halted _ = _
  rw [hadopted.facts, show (lineFaced e l s).round.facts.runReq = l.runReq from rfl, hrun]
  rfl

omit hw hrun in
include hb hc in
/-- R77: what a switch block of the station's epoch finds. -/
theorem switchAdopts_viable (hv : c.verdict = .viable) (hbody : c.body = some b) :
    (lineFaced e l s).switchAdopts e l.mark w =
      if l.mark = w.mark ∧ c.revision = w.rev ∧ b.digest = w.digest then some (c, b.digest) else none := by
  have hviable : (lineFaced e l s).viableCandidate = some (c, b.digest) :=
    viableCandidate_eq (s := lineFaced e l s) hb hc hv hbody
  unfold State.switchAdopts
  rw [hviable]
  by_cases hm : l.mark = w.mark
  · rw [if_pos ⟨hp, he, hm⟩]
    simp [hm]
  · rw [if_neg fun h => hm h.2.2, if_neg fun h => hm h.1]

omit hp he hw hrun in
include hb hc in
theorem switchAdopts_none (hv : c.verdict ≠ .viable) : (lineFaced e l s).switchAdopts e l.mark w = none := by
  have hviable : (lineFaced e l s).viableCandidate = none := viableCandidate_none (s := lineFaced e l s) hb hc hv
  unfold State.switchAdopts
  rw [hviable]
  split <;> rfl

end

end Sys2Proof.Proofs

/-! # The ends of an attempt

PROOFS about a completed attempt and a collision (R27, R36, R50, R149, R150): the queue, and the own frame taken by the own
blocks. -/

namespace Sys2Proof.Proofs

open Sys2Proof.Machine Sys2Proof.Safety

/-! ## The own frame -/

/-- R149: the time moved on, with the BIF as a completed attempt leaves it. -/
def sent (t : Time) (u : Bif) (s : State) : State := { s.advance t with bus := u }

theorem frameHeard_sent (t : Time) (u : Bif) (s : State) : FrameHeard t s.round.firstTaken s (sent t u s) where
  round := rfl
  plan := rfl
  port := by simp [sent]
  catcher := rfl
  store := rfl
  now := rfl
  powered := rfl
  roster := rfl
  bypass := rfl
  watch := rfl
  scanner := rfl

/-- R149: ATTEMPT_COMPLETED hands the frame on from the queue it leaves. -/
theorem exec_attemptCompleted {t : Time} {a : Attempt} {s : State} (hr : s.runs = true) (ha : s.bus.attempt = some a) :
    exec (.attemptCompleted t) s = .next ((sent t (Bif.completed (max s.now t) (s.advance t).bus) s).takeOwn a.frame) := by
  refine (State.runAt_runs hr).trans (congrArg _ ?_)
  rw [State.advance_bus_attempt, ha]
  rfl

theorem takeOwn_step {f : Frame} {code rev w : Byte} {d : Half} {s : State} (hpay : f.payload = .step code rev d w)
    (he : f.epoch = s.round.epoch) : s.takeOwn f = (s.noteStep f.number code d).testArming := by
  rw [← stepTaken_eq hpay he]
  unfold State.takeOwn
  rw [hpay]

theorem takeOwn_line {f : Frame} {l : LinePayload} {s : State} (hpay : f.payload = .line l) (hl : s.isLine = true) :
    s.takeOwn f = s.lineTaken f.epoch l := by
  unfold State.takeOwn
  simp only [hpay, hl, State.when_true]

theorem takeOwn_summary {f : Frame} {s : State} (hk : f.payload.kind = .summary) : s.takeOwn f = s.clearDiff := by
  unfold State.takeOwn
  cases hpay : f.payload <;> simp_all [Payload.kind]

theorem takeOwn_none {f : Frame} {s : State} (hk : f.payload.kind = .state ∨ f.payload.kind = .alarm) :
    s.takeOwn f = s := by
  unfold State.takeOwn
  cases hpay : f.payload <;> simp_all [Payload.kind]

/-! ## The own STEP -/

/-- R50: an own STEP outside ARMING. -/
theorem ownStep_notes {t : Time} {u : Bif} {code : Byte} {d : Half} {n : Nat} {s : State} (hp : s.round.phase ≠ .arming) :
    (code = 1 → s.planHasDigest d = true → ((sent t u s).noteStep n code d).testArming =
      { s.advance t with bus := u, round := { s.round with armed := insertRising n s.round.armed } }) ∧
    (code = 2 → s.planHasDigest d = true → ∃ s', ((sent t u s).noteStep n code d).testArming = s' ∧
      s' = { s.advance t with bus := u, round := s'.round, catcher := s'.catcher, scanner := s'.scanner } ∧
      s'.round = { s.round with
        armed := s.round.armed.filter fun m => m != n
        refusal := if n = 0 then .line else if s.round.refusal = .line then .line else .cell } ∧
      (s.catcher.overdue = false → s'.catcher = s.catcher ∧ s'.scanner = s.scanner)) ∧
    ((code = 1 ∨ code = 2) → s.planHasDigest d = false → ((sent t u s).noteStep n code d).testArming =
      { s.advance t with
        bus := u
        round := { s.round with early := (s.round.early.filter fun e => e.station != n) ++ [⟨n, code == 1, d⟩] } }) := by
  have hsent := frameHeard_sent t u s
  refine ⟨?_, ?_, fun hcode hd => ?_⟩
  · rintro rfl hd
    exact armed_stands (s := sent t u s) (hsent.planHasDigest.trans hd) (.inl hp)
  · rintro rfl hd
    obtain ⟨hnote, hcatch⟩ := noteStep_refused (n := n) (hsent.planHasDigest.trans hd)
    have hround : ((sent t u s).noteStep n 2 d).round = Round.recordStep n false s.round := by rw [hnote]; rfl
    refine ⟨_, testArming_of_not (by rw [hround]; exact hp), ?_, by rw [hround]; rfl, hcatch⟩
    exact hnote.trans (by rw [hround]; rfl)
  · exact early_stands (s := sent t u s) hcode (hsent.planHasDigest.trans hd) (.inl hp)

/-- R51: an own STEP in ARMING. -/
theorem ownStep_arming {t : Time} {u : Bif} {code : Byte} {d : Half} {n : Nat} {p : Plan} {s : State} (hr : s.runs = true)
    (hp : s.round.phase = .arming) (hplan : s.plan.inForce = some p) (hd : s.planHasDigest d = true)
    (hc : s.heldOutcome ≠ some .expired) (href : s.round.refusal = .none) :
    (code = 1 → (∃ m ∈ p.armedNeeded, m ≠ n ∧ m ∉ s.round.armed) → ((sent t u s).noteStep n code d).testArming =
      { s.advance t with bus := u, round := { s.round with armed := insertRising n s.round.armed } }) ∧
    (code = 1 → (∀ m ∈ p.armedNeeded, m = n ∨ m ∈ s.round.armed) → s.round.facts.runReq = true →
      s.round.deferred = false → ∃ s', ((sent t u s).noteStep n code d).testArming = s' ∧ s'.round.phase = .running ∧
        s'.round.armed = insertRising n s.round.armed ∧ s'.round.epoch = s.round.epoch ∧ s'.plan.inForce = some p ∧
        (s.isLine = true → s'.release = true)) ∧
    (code = 2 → n ≠ 0 → s.round.resettle ≤ s.params.resettle →
      ∃ s', ((sent t u s).noteStep n code d).testArming = s' ∧ s'.round.resettle = s.round.resettle + 1 ∧
        s'.round.epoch = s.round.epoch ∧
        (s.round.resettle + 1 ≤ s.params.resettle → s'.round.phase = .settling) ∧
        (s.params.resettle < s.round.resettle + 1 → s'.round.phase = .lockout)) ∧
    (code = 2 → n = 0 → s.round.deferred = false →
      ∃ s', ((sent t u s).noteStep n code d).testArming = s' ∧ s'.round.phase = .halted ∧ s'.round.runDemand = false ∧
        s'.round.epoch = s.round.epoch ∧ s'.plan.inForce = some p) := by
  have hsent := frameHeard_sent t u s
  have hd' := hsent.planHasDigest.trans hd
  refine ⟨?_, ?_, ?_, ?_⟩
  · rintro rfl ⟨m, hm, hne, hnot⟩
    refine armed_stands (s := sent t u s) hd' (.inr ⟨hc, href, fun q hq => ?_⟩)
    obtain rfl : p = q := Option.some.inj (hplan.symm.trans hq)
    exact ⟨m, hm, fun h => (mem_insertRising.mp h).elim hne hnot⟩
  · rintro rfl ha hrun hdef
    have hentered := armed_runs (s := sent t u s) (n := n) hp hc href hd' hplan ha hrun hdef
    have hround := hentered.round
    have hin : ((sent t u s).noteStep n 1 d).testArming.plan.inForce = some p := by rw [hentered.inForce]; exact hplan
    have hstore : ((sent t u s).noteStep n 1 d).testArming.store = s.store := hentered.store
    have hpowered : ((sent t u s).noteStep n 1 d).testArming.powered = s.powered := hentered.powered
    have hphase : ((sent t u s).noteStep n 1 d).testArming.round.phase = .running := by rw [hround]; rfl
    refine ⟨_, rfl, hphase, by rw [hround]; rfl, by rw [hround]; rfl, hin, fun hl => ?_⟩
    have hruns : ((sent t u s).noteStep n 1 d).testArming.runs = true := by
      rw [State.runs, hpowered, hstore]
      exact hr
    rw [State.release, hruns, isLine_congr hstore, hl, hphase, hin]
    rfl
  · rintro rfl hn hle
    exact ⟨_, rfl, refused_resettles (s := sent t u s) hp hc href hd' hn hle⟩
  · rintro rfl rfl hdef
    obtain ⟨h1, h2, h3, h4⟩ := refused_halts (s := sent t u s) hp hc hd' hdef
    exact ⟨_, rfl, h1, h2, h3, h4.trans hplan⟩

/-! ## The own mark frame -/

/-- R77, R87: the line station's own mark frame adopts the candidate. -/
theorem ownMark_adopts {e : Half} {l : LinePayload} {w : SwitchBlock} {c : Plan} {b : PlanBody} {t : Time} {u : Bif}
    {s : State} (hr : s.runs = true) (hl : s.isLine = true) (he : e = s.round.epoch) (hp : s.round.phase = .revising)
    (hrun : l.runReq = true) (hd : s.round.deferred = false) (hw : l.switchBlock = some w) (hm : l.mark = w.mark)
    (hb : s.plan.build = .built) (hc : s.plan.candidate = some c) (hv : c.verdict = .viable) (hrev : c.revision = w.rev)
    (hbody : c.body = some b) (hdig : b.digest = w.digest) (hrec : ∀ r ∈ s.plan.switchRecord, r.rev = w.rev) :
    ∃ s', (sent t u s).lineTaken e l = s' ∧ s'.plan.inForce = some c ∧ s'.plan.candidate = none ∧
      s'.round.phase = .running ∧ s'.round.epoch = s.round.epoch ∧ s'.round.phaseTimer = none ∧
      (s.round.early = [] → s'.round.armed = [] ∧ s'.round.refusal = .none) ∧
      s'.port.switchPulse = some (max s.now t + 10) ∧ s'.switchOut = true ∧ s'.port.switchPending = none ∧
      s'.reviseOut = false ∧ s'.release = true ∧ s'.port.presented = none ∧
      ∀ r, s.port.presented = some r → s'.port.record = r ∧ s'.port.rready = s.port.rready := by
  have hadopts : (lineFaced e l (sent t u s)).switchAdopts e l.mark w = some (c, b.digest) := by
    rw [switchAdopts_viable (s := sent t u s) hp he hb hc hv hbody, if_pos ⟨hm, hrev, hdig⟩]
  obtain ⟨r, hr', heq⟩ := lineTaken_adopts (s := sent t u s) hp he hw hrun hd hrec hrev hadopts
  have hport : (lineFaced e l (sent t u s)).port = s.port := (frameHeard_sent t u s).port
  obtain ⟨hpending, hpresented, hpulse, hrecord⟩ := hr'.records hl
  rw [hport] at hrecord
  have hruns : (switchNoted e w r).runs = true := by
    show (r.powered && !r.store.resetLow) = true
    rw [hr'.powered, hr'.store]
    exact hr
  have hline : (switchNoted e w r).isLine = true := (isLine_congr (r := switchNoted e w r) hr'.store).trans hl
  have hin : (switchNoted e w r).plan.inForce = some c := by
    show r.plan.inForce = some c
    rw [hr'.plan]
    rfl
  refine ⟨_, heq, hin, ?_, hr'.phase, hr'.epoch, hr'.timer, hr'.armed, hpulse, ?_, hpending, ?_, ?_, hpresented, hrecord⟩
  · show r.plan.candidate = none
    rw [hr'.plan]
    rfl
  · rw [State.switchOut, hruns, hline]
    show (true && true && r.port.switchPulse.isSome) = true
    rw [hpulse]
    rfl
  · rw [State.reviseOut]
    show ((switchNoted e w r).runs && _ && r.port.switchPending.isSome) = false
    rw [hpending, Option.isSome_none, Bool.and_false]
  · rw [State.release, hruns, hline, hin]
    show (true && true && r.round.phase.drives && true) = true
    rw [hr'.phase]
    rfl

/-- Settles O14: the queue after an attempt, and the own frame by its kind. -/
theorem attemptEndsMoveQueue : Obligations.AttemptEndsMoveQueue := by
  refine ⟨?_, ?_⟩
  · intro t a g front rest s u hr ha hq hfront hg hu
    have hexec : exec (.attemptCompleted t) s = .next ((sent t u s).takeOwn a.frame) := by
      rw [exec_attemptCompleted hr ha, hu, Bif.completed, State.advance_bus_queue, hq, leaveQueue_split hfront hg]
        <;> rfl
    rw [hexec]
    refine ⟨fun hk => ?_, fun hk => ?_, ?_, ?_⟩
    · rw [takeOwn_none hk]
      rfl
    · rw [takeOwn_summary hk]
      rfl
    · rintro code rev d w n hpay rfl he
      rw [takeOwn_step (s := sent t u s) hpay he]
      simp only [Host.Outcome.next.injEq]
      exact ⟨fun hp => ownStep_notes hp, fun p hp hplan hd hc href => ownStep_arming hr hp hplan hd hc href⟩
    · intro l hpay hl
      rw [takeOwn_line (s := sent t u s) hpay hl]
      refine ⟨fun hp => ?_, fun w c b he hp hrun hd hw hm hb hc hv hrev hbody hdig hrec => ?_⟩
      · rw [lineTaken_noted (s := sent t u s) hp]
        exact congrArg (fun r => Host.Outcome.next { s.advance t with bus := u, round := r })
          (lineFaced_round a.frame.epoch l (sent t u s))
      · obtain ⟨s', heq, h⟩ := ownMark_adopts (t := t) (u := u) hr hl he hp hrun hd hw hm hb hc hv hrev hbody hdig hrec
        exact ⟨s', congrArg _ heq, h⟩
  · intro t a g front rest s hr ha hq hfront hg
    refine (State.runAt_runs hr).trans (congrArg _ ?_)
    rw [State.advance_bus_attempt, ha, Option.isSome_some, State.when_true, State.onBus, Bif.collided,
      State.advance_bus_queue, hq, collideQueue_split hfront hg] <;> rfl

end Sys2Proof.Proofs

/-! # The mark frame at a cell station

PROOFS about LINE_RECEIVED in REVISING with a switch block (R77, R86, R87, R92; Table 4-2). -/

namespace Sys2Proof.Proofs

open Sys2Proof.Machine Sys2Proof.Safety

/-- Table 8-1: the line station's number is 0. -/
theorem isLine_of_number_ne {s : State} (h : s.number ≠ 0) : s.isLine = false := by
  cases hrole : s.store.role with
  | cell => rw [State.isLine, hrole]; rfl
  | line => exact absurd (by rw [State.number, hrole]) h

/-! ## The command of the change of role -/

section
variable {old : CellRole} {s : State} (hl : s.isLine = false)
include hl

/-- Table 4-2: an OPEN for a station that becomes ACTIVE. -/
theorem roleBypass_active (hrole : s.cellRole.isActive = true) :
    (old.isActive = true ∨ s.watch.latch ≠ [] ∨ s.bypass.state = .opened ∨ s.bypass.state = .opening ∨
      s.bypass.state = .stuckOpen → roleBypass old s = s.bypass) ∧
    (old.isActive = false → s.watch.latch = [] →
      (s.bypass.state = .closed ∨ s.bypass.state = .stuckClosed → roleBypass old s = { s.bypass with
        state := .opening, hold := true, contact := some (s.now + 1000 * s.params.contact), coilRelease := none }) ∧
      (s.bypass.state = .closing → roleBypass old s = { s.bypass with pending := some .switch })) := by
  have hnot : ¬ s.isLine = true := by simp [hl]
  have hopens : old.isActive = false → s.watch.latch = [] → s.bypass.state ≠ .opened → s.bypass.state ≠ .opening →
      roleBypass old s = openFrom .switch s s.bypass.state := fun h1 h2 h3 h4 => by
    rw [roleBypass, if_neg hnot, if_pos hrole, if_neg (by simp [h1, h2, h3, h4])]
  refine ⟨fun h => ?_, fun h1 h2 => ⟨?_, fun h => ?_⟩⟩
  · rw [roleBypass, if_neg hnot, if_pos hrole]
    split
    · rfl
    next hno =>
      have hstuck : s.bypass.state = .stuckOpen := by
        rcases h with h | h | h | h | h
        · exact absurd (.inl h) hno
        · exact absurd (.inr (.inr (.inr h))) hno
        · exact absurd (.inr (.inl h)) hno
        · exact absurd (.inr (.inr (.inl h))) hno
        · exact h
      rw [hstuck]
      rfl
  · rintro (h | h)
    all_goals
      rw [hopens h1 h2 (by simp [h]) (by simp [h]), h]
      rfl
  · rw [hopens h1 h2 (by simp [h]) (by simp [h]), h]
    rfl

/-- Table 4-2: a CLOSE for a station that is SPARE or OUT. -/
theorem roleBypass_passive (hrole : s.cellRole.isActive = false) :
    (s.bypass.state = .closed ∨ s.bypass.state = .closing ∨ s.bypass.state = .stuckOpen →
      roleBypass old s = s.bypass) ∧
    (s.bypass.state = .opened →
      roleBypass old s = { s.bypass with state := .closing, gateOff := some (s.now + 10) }) ∧
    (s.bypass.state = .opening → roleBypass old s = { s.bypass with
      state := .closing, hold := false, contact := some (s.now + 1000 * s.params.contact), gateOff := none
      coilRelease := none }) ∧
    (s.bypass.state = .stuckClosed → roleBypass old s = { s.bypass with state := .closed }) := by
  have hnot : ¬ s.isLine = true := by simp [hl]
  have hcloses : s.bypass.state ≠ .closed → s.bypass.state ≠ .closing →
      roleBypass old s = closeFrom s s.bypass.state := fun h1 h2 => by
    rw [roleBypass, if_neg hnot, if_neg (by simp [hrole]), if_neg (by simp [h1, h2])]
    rfl
  have hstays : s.bypass.state = .closed ∨ s.bypass.state = .closing → roleBypass old s = s.bypass := fun h => by
    rw [roleBypass, if_neg hnot, if_neg (by simp [hrole]), if_pos h]
  refine ⟨?_, fun h => ?_, fun h => ?_, fun h => ?_⟩
  · rintro (h | h | h)
    · exact hstays (.inl h)
    · exact hstays (.inr h)
    · rw [hcloses (by simp [h]) (by simp [h]), h]
      rfl
  all_goals
    rw [hcloses (by simp [h]) (by simp [h]), h]
    rfl

end

/-! ## The mark frame -/

section
variable {t : Time} {s r : State} (hheard : FrameHeard t true s r)
variable {e : Half} {l : LinePayload} {w : SwitchBlock} {c : Plan} {b : PlanBody}
variable (he : e = s.round.epoch) (hp : s.round.phase = .revising) (hw : l.switchBlock = some w) (hrun : l.runReq = true)
variable (hb : s.plan.build = .built) (hc : s.plan.candidate = some c) (hbody : c.body = some b)
include hheard he hp hw hrun hb hc hbody

/-- R77, R87: the adoption, and the command of the change of role. -/
theorem lineMark_adopts (hl : s.isLine = false) (hd : s.round.deferred = false) (hv : c.verdict = .viable)
    (hm : l.mark = w.mark) (hrev : c.revision = w.rev) (hdig : b.digest = w.digest)
    (hrec : ∀ x ∈ s.plan.switchRecord, x.rev = w.rev) :
    ∃ z : State, (r.lineTaken e l).plan.inForce = some c ∧ (r.lineTaken e l).plan.candidate = none ∧
      (r.lineTaken e l).plan.build = .none ∧ (r.lineTaken e l).round.phase = .running ∧
      (r.lineTaken e l).round.epoch = s.round.epoch ∧
      (r.lineTaken e l).cellRole = roleInPlan s.store.ph.toNat s.store.pos.toNat c ∧
      (r.lineTaken e l).plan.switchRecord = some ⟨e, w.rev, w.mark, w.digest⟩ ∧
      (r.lineTaken e l).bypass = roleBypass s.cellRole z ∧ z.isLine = false ∧
      z.cellRole = (r.lineTaken e l).cellRole ∧ z.bypass = s.bypass ∧ z.watch = s.watch ∧ z.now = max s.now t ∧
      z.params = s.params := by
  have hround := hheard.round
  have hadopts : (lineFaced e l r).switchAdopts e l.mark w = some (c, b.digest) := by
    rw [switchAdopts_viable (s := r) (by rw [hround]; exact hp) (by rw [hround]; exact he) (by rw [hheard.plan]; exact hb)
      (by rw [hheard.plan]; exact hc) hv hbody, if_pos ⟨hm, hrev, hdig⟩]
  obtain ⟨q, hq, heq⟩ := lineTaken_adopts (s := r) (by rw [hround]; exact hp) (by rw [hround]; exact he) hw hrun
    (by rw [hround]; exact hd) (by rw [hheard.plan]; exact hrec) hrev hadopts
  have hplan := hq.plan
  have hstore : q.store = s.store := hq.store.trans hheard.store
  have hbypass := hq.bypass
  have hepoch : q.round.epoch = s.round.epoch := by rw [hq.epoch]; show r.round.epoch = _; rw [hround]
  have hold : (lineFaced e l r).cellRole = s.cellRole := by
    show r.cellRole = _
    rw [State.cellRole, State.cellRole, hheard.plan, hheard.store]
  have hrole : (switchNoted e w q).cellRole = roleInPlan s.store.ph.toNat s.store.pos.toNat c := by
    show q.cellRole = _
    rw [State.cellRole, hplan, hstore]
    rfl
  rw [hold] at hbypass
  rw [heq]
  refine ⟨(lineFaced e l r).onPlan (PlanUnit.adoptPlan c), by rw [switchNoted, State.onPlan_plan, hplan]; rfl,
    by rw [switchNoted, State.onPlan_plan, hplan]; rfl, by rw [switchNoted, State.onPlan_plan, hplan]; rfl, hq.phase, hepoch,
    hrole, rfl, hbypass, (isLine_congr (s := s) hheard.store).trans hl, ?_, hheard.bypass, hheard.watch, hheard.now,
    State.params_congr hheard.store⟩
  rw [hrole, ← hheard.store]
  rfl

/-- R92: at the mark without the candidate, a plan in force of another revision fails the switch. -/
theorem lineMark_fails (hm : l.mark = w.mark) (hno : c.verdict ≠ .viable ∨ c.revision ≠ w.rev ∨ b.digest ≠ w.digest)
    {p : Plan} (hplan : s.plan.inForce = some p) :
    (p.revision ≠ w.rev → ∃ u, r.lineTaken e l = State.localAlarm FaultClass.line ((lineFaced e l r).onPlan u)) ∧
    (p.revision = w.rev → (∀ x ∈ s.plan.switchRecord, x.rev = w.rev) →
      r.lineTaken e l = switchNoted e w (lineFaced e l r)) := by
  have hround := hheard.round
  have hnone : (lineFaced e l r).switchAdopts e l.mark w = none := by
    by_cases hv : c.verdict = .viable
    · rw [switchAdopts_viable (s := r) (by rw [hround]; exact hp) (by rw [hround]; exact he)
        (by rw [hheard.plan]; exact hb) (by rw [hheard.plan]; exact hc) hv hbody, if_neg fun h =>
          hno.elim (· hv) (·.elim (· h.2.1) (· h.2.2))]
    · exact switchAdopts_none (s := r) (by rw [hheard.plan]; exact hb) (by rw [hheard.plan]; exact hc) hv
  have hin : (lineFaced e l r).plan.inForce = some p := by
    show r.plan.inForce = _
    rw [hheard.plan, hplan]
  refine ⟨fun hne => ?_, fun hrev hrec => ?_⟩
  · refine lineTaken_fails (s := r) (by rw [hround]; exact hp) (by rw [hround]; exact he) hw hrun hnone ?_
    simp [State.switchFailed, hin, failsAtMark, hw, hm, hne]
  · exact lineTaken_stands (s := r) (by rw [hround]; exact hp) (by rw [hround]; exact he) hw hrun hnone
      (fun _ => by rw [hheard.plan, hplan]; rfl)
      (switchFailed_same hw hin hrev (by show ∀ x ∈ r.plan.switchRecord, _; rw [hheard.plan]; exact hrec))

omit hb hc hbody in
/-- R86: before the mark, the switch record alone. -/
theorem lineMark_waits (hm : l.mark ≠ w.mark) (hrec : ∀ x ∈ s.plan.switchRecord, serialNewer l.mark x.mark = false) :
    r.lineTaken e l = switchNoted e w (lineFaced e l r) := by
  have hround := hheard.round
  have hnone : (lineFaced e l r).switchAdopts e l.mark w = none := by
    unfold State.switchAdopts
    rw [if_neg fun h => hm h.2.2]
  exact lineTaken_stands (s := r) (by rw [hround]; exact hp) (by rw [hround]; exact he) hw hrun hnone
    (fun h => absurd h hm)
    (switchFailed_early hw hm (by show ∀ x ∈ r.plan.switchRecord, _; rw [hheard.plan]; exact hrec))

end

/-- Settles O27: the mark frame adopts, fails or leaves the switch, and a frame before the mark records it. -/
theorem markFrameAdoptsRevision : Obligations.MarkFrameAdoptsRevision := by
  intro t x f l w c b s hr hx hpay h0 hn he hp hw hrun hd hb hc hbody hrec
  have hheard := frameHeard_hear t f s
  have hl := isLine_of_number_ne hn
  have hroom : s.bus.queue.length ≤ 4 → RoomLeft ((s.advance t).hear f).bus.queue := fun h =>
    roomLeft_hear (s := s.advance t) (.inl (by simpa using h))
  have hdup : ((s.advance t).hear f).bus.duplicate = s.bus.duplicate := by simp
  rw [exec_lineReceived hr hx hpay h0 hn he (by rw [hp]; decide) (by rw [hp]; decide)]
  generalize hq : ((s.advance t).hear f).onRound (fun r => { r with firstTaken := true }) = q at *
  have hbus : q.bus = ((s.advance t).hear f).bus := by rw [← hq]; rfl
  refine ⟨fun hv hm hrev hdig => ?_, fun hm hno p hplan => ?_, fun hm hearly => ?_⟩
  · obtain ⟨z, h1, h2, h3, h4, h5, h6, h7, h8, hzl, hzr, hzb, hzw, hzn, hzp⟩ :=
      lineMark_adopts hheard he hp hw hrun hb hc hbody hl hd hv hm hrev hdig hrec
    refine ⟨_, rfl, h1, h2, h3, h4, h5, h6, h7, fun hact => ?_, fun hact => ?_⟩
    · have h := roleBypass_active (old := s.cellRole) hzl (hzr ▸ hact)
      rw [← h8, hzb, hzw, hzn, hzp] at h
      exact h
    · have h := roleBypass_passive (old := s.cellRole) hzl (hzr ▸ hact)
      rw [← h8, hzb, hzn, hzp] at h
      exact h
  · obtain ⟨hfails, hstands⟩ := lineMark_fails hheard he hp hw hrun hb hc hbody hm hno hplan
    refine ⟨fun hne => ⟨_, rfl, ?_⟩, fun hrev => ⟨_, rfl, ?_⟩⟩
    · obtain ⟨u, heq⟩ := hfails hne
      have hphase : ((lineFaced f.epoch l q).onPlan u).round.phase = .revising := by
        show q.round.phase = _
        rw [hheard.round]
        exact hp
      have halarm := localAlarm_taken FaultClass.line (s := (lineFaced f.epoch l q).onPlan u) (by rw [hphase]; rfl)
      have hepoch : ((lineFaced f.epoch l q).onPlan u).round.epoch = s.round.epoch := by
        show q.round.epoch = _
        rw [hheard.round]
      have hnumber : ((lineFaced f.epoch l q).onPlan u).number = s.number := number_congr hheard.store
      have hframe := halarm.frame
      rw [hphase, hnumber, fitted_congr (r := (lineFaced f.epoch l q).onPlan u) (s := s) hheard.store] at hframe
      rw [heq]
      refine ⟨by rw [halarm.epoch, hepoch], halarm.phase, halarm.inForce, State.gateEn_of_phase ?_, fun h1 h2 h3 => ?_⟩
      · rcases halarm.phase with h | h <;> rw [h] <;> rfl
      · rw [hp]
        exact hframe ((congrArg Bif.duplicate hbus).trans (hdup.trans h1)) h2 (by
          show RoomLeft q.bus.queue
          rw [hbus]
          exact hroom h3)
    · rw [hstands hrev hrec]
      refine ⟨?_, ?_, ?_⟩
      · show q.plan.inForce = _
        rw [hheard.plan, hplan]
      · show q.plan.candidate = _
        rw [hheard.plan, hc]
      · show q.round.phase = _
        rw [hheard.round]
        exact hp
  · have hwaits := lineMark_waits hheard he hp hw hrun hm fun x hx => (hearly x hx).2
    refine ⟨_, rfl, ?_⟩
    rw [hwaits]
    refine ⟨?_, ?_, ?_, rfl⟩
    · show q.plan.inForce = _
      rw [hheard.plan]
    · show q.plan.candidate = _
      rw [hheard.plan]
    · show q.round.phase = _
      rw [hheard.round]
      exact hp

end Sys2Proof.Proofs

/-! # The phase rules that read the line facts

PROOFS about what a LINE frame's facts make of the phase (R37, R41, R49, R51, R52, R53, R58, R59). -/

namespace Sys2Proof.Proofs

open Sys2Proof.Machine Sys2Proof.Safety

/-! ## Phases entered on the facts -/

/-- R41: HALTED entered without run demand and without a deferred change. -/
theorem halted_stands {n : Nat} {s : State} (hd : s.round.deferred = false) (hp : s.round.phase ≠ .revising)
    (hdem : runDemandAfter s.round.phase .halted s.round.facts.runReq s.round.runDemand = false) :
    State.settleEntry (n + 1) (s.enterPhase .halted) = s.enterBase .halted := by
  have hround := State.enterBase_round .halted s
  have henters : s.enterPhase .halted = s.enterBase .halted := rfl
  rw [henters]
  refine settleEntry_stands ?_ (by rw [hround]; simp [Round.onEntry])
  unfold State.entryTransition
  rw [hround]
  simp [Round.onEntry, deferredAfter, hd, hp, hdem]

/-- R41, R53: what HALTED so entered leaves. -/
theorem enterBase_halted_holds {s : State}
    (hdem : runDemandAfter s.round.phase .halted s.round.facts.runReq s.round.runDemand = false) :
    (s.enterBase .halted).round.phase = .halted ∧ (s.enterBase .halted).round.runDemand = false ∧
    (s.enterBase .halted).round.facts = s.round.facts ∧ (s.enterBase .halted).round.epoch = s.round.epoch ∧
    (s.enterBase .halted).plan.inForce = s.plan.inForce ∧ (s.enterBase .halted).gateEn = false := by
  have hround := State.enterBase_round .halted s
  have hphase : (s.enterBase .halted).round.phase = .halted := by rw [hround]; rfl
  exact ⟨hphase, by rw [hround]; exact hdem, by rw [hround]; rfl, by rw [hround]; rfl, enterBase_inForce rfl s,
    State.gateEn_of_phase (by rw [hphase]; rfl)⟩

/-- R41, R49: ARMING entered, which stands; at the line station the STEP is decided. -/
theorem arming_entered {n : Nat} {s : State} (hc : s.heldOutcome ≠ some .expired) (hr : s.round.refusal = .none)
    (ha : 0 ∉ s.round.armed) :
    ∃ q : State, State.settleEntry (n + 1) (s.enterPhase .arming) = q ∧ q.round.phase = .arming ∧
      q.round.facts = s.round.facts ∧ q.round.runDemand = s.round.runDemand ∧ q.plan.inForce = s.plan.inForce ∧
      (s.isLine = true → q = (s.enterBase .arming).decideStep) := by
  have hround := State.enterBase_round .arming s
  have hin := enterBase_inForce (p := .arming) rfl s
  have hline : (s.enterBase .arming).isLine = s.isLine := isLine_congr (by simp)
  have hstands : ∀ r : State, r.round = { (s.enterBase .arming).round with deferred := r.round.deferred } →
      State.settleEntry (n + 1) r = r ∧ r.round.phase = .arming ∧ r.round.facts = s.round.facts ∧
      r.round.runDemand = s.round.runDemand := by
    intro r hrr
    rw [hround] at hrr
    refine ⟨settleEntry_arming (by rw [hrr]; rfl) ?_ (by rw [hrr]; exact hr) (by rw [hrr]; exact ha), by rw [hrr]; rfl,
      by rw [hrr]; rfl, by rw [hrr]; rfl⟩
    have hheld : r.heldOutcome = s.heldOutcome := by
      rw [State.heldOutcome, hrr]
      rfl
    rwa [hheld]
  cases hl : s.isLine with
  | true =>
    have henters : s.enterPhase .arming = (s.enterBase .arming).decideStep := by
      rw [State.enterPhase, State.commandsOnEntry, hline, hl]
      rfl
    obtain ⟨h1, h2, h3, h4⟩ := hstands (s.enterBase .arming).decideStep (by simp)
    exact ⟨_, by rw [henters, h1], h2, h3, h4, by simpa using hin, fun _ => rfl⟩
  | false =>
    have henters : s.enterPhase .arming = (s.enterBase .arming).startCheck := by
      rw [State.enterPhase, State.commandsOnEntry, hline, hl]
      rfl
    have hcheck := checksOn_startCheck (s := s.enterBase .arming) (by rw [hround]; rfl)
    obtain ⟨h1, h2, h3, h4⟩ := hstands (s.enterBase .arming).startCheck hcheck.round
    exact ⟨_, by rw [henters, h1], h2, h3, h4, hcheck.plan.trans hin, fun h => by simp at h⟩

/-- R38, R41, R63: the quiet re-plan that a revision left for HALTED comes to. -/
theorem revising_halted {s : State} (hp : s.round.phase = .revising) :
    s.enter .halted = (s.enterBase .halted).enterBase .settling := by
  have hround := State.enterBase_round .halted s
  have hnext : (s.enterBase .halted).entryTransition = some (s.enterBase .halted, .settling) := by
    unfold State.entryTransition
    rw [hround]
    simp [Round.onEntry, deferredAfter, hp]
  have henters : ∀ r : State, r.enterPhase .halted = r.enterBase .halted ∧ r.enterPhase .settling = r.enterBase .settling :=
    fun _ => ⟨rfl, rfl⟩
  have hsettling := State.enterBase_round .settling (s.enterBase .halted)
  rw [State.enter, (henters s).1, show entryFuel = 6 + 1 + 1 from rfl, State.settleEntry, hnext]
  refine (congrArg (State.settleEntry _) (henters _).2).trans ?_
  refine settleEntry_stands ?_ (by rw [hsettling]; simp [Round.onEntry])
  unfold State.entryTransition
  rw [hsettling]
  rfl

/-- R63, R66: no candidate, or the one begun by the walk of SETTLING. -/
theorem walkOnEntry_settling {s : State} (hp : s.round.phase = .settling) (hb : s.plan.candidate = none) :
    ∀ q, (s.walkOnEntry .settling).plan.candidate = some q → q.revision = 0 ∧
      (s.walkOnEntry .settling).plan.build = .walking ∧ (s.walkOnEntry .settling).plan.cursor = 1 := by
  have hrevision : s.buildRevision = 0 := by
    unfold State.buildRevision
    rw [hp]
    rfl
  refine when_keeps (P := fun r : State => ∀ q, r.plan.candidate = some q → q.revision = 0 ∧ r.plan.build = .walking ∧
    r.plan.cursor = 1) (fun q hq => ?_) (fun _ q hq => ?_)
  · rw [hb] at hq
    simp at hq
  · obtain rfl := Option.some.inj hq
    exact ⟨hrevision, rfl, rfl⟩

/-- R66: REVISING left for HALTED discards the candidate. -/
theorem enterBase_halted_candidate {s : State} (hp : s.round.phase = .revising) :
    (s.enterBase .halted).plan.candidate = none := by
  have hframes : ∀ (p0 p : Phase) (r : State), (r.framesOnEntry p0 p).plan = r.plan := fun p0 p r => by simp
  have hblocks : ∀ r : State, r.round.phase = .revising → (r.blocksOnEntry .halted).plan.candidate = none := by
    intro r hr
    simp [State.blocksOnEntry, PlanUnit.onEntry, PlanUnit.discard, Phase.clearsPlan, Phase.drives, hr]
  have hleft : ∀ r : State, ((((r.leaveArming .halted).leaveCatching).leaveRevising).contextOnEntry .halted).round =
      r.round := fun r => by simp
  show ((((((s.leaveArming .halted).leaveCatching).leaveRevising).contextOnEntry .halted).blocksOnEntry
    .halted).framesOnEntry s.round.phase .halted).plan.candidate = none
  rw [hframes]
  exact hblocks _ (by rw [hleft]; exact hp)

/-- R66: no candidate held: none after the entry to SETTLING, or the one its walk begins. -/
theorem enterBase_settling_candidate {s : State} (hb : s.plan.candidate = none) :
    ∀ q, (s.enterBase .settling).plan.candidate = some q → q.revision = 0 ∧
      (s.enterBase .settling).plan.build = .walking ∧ (s.enterBase .settling).plan.cursor = 1 := by
  have hkept : ∀ r : State, ((((r.leaveArming .settling).leaveCatching).leaveRevising).contextOnEntry .settling).plan =
      r.plan := fun r => by simp
  have hframes : ∀ (p0 p : Phase) (r : State), (r.framesOnEntry p0 p).plan = r.plan ∧
      (r.framesOnEntry p0 p).round = r.round := fun p0 p r => by simp
  have hblocks : ∀ r : State, (r.blocksOnEntry .settling).plan.candidate = r.plan.candidate ∧
      (r.blocksOnEntry .settling).round.phase = .settling := fun r => by
    simp [State.blocksOnEntry, PlanUnit.onEntry, Phase.clearsPlan, Phase.drives, Round.onEntry]
  unfold State.enterBase
  refine walkOnEntry_settling ?_ ?_
  · rw [(hframes ..).2, (hblocks _).2]
  · rw [(hframes ..).1, (hblocks _).1, hkept, hb]

/-! ## The line port -/

/-- R85, R177: the Line Port after REVISING is left for HALTED. -/
theorem enterBase_halted_port {s : State} (hp : s.round.phase = .revising) (hl : s.isLine = true) :
    (s.enterBase .halted).port = s.withdrawSwitch.port := by
  have hblocks : ∀ r : State, (r.blocksOnEntry .halted).port = r.port := fun r => by
    simp [State.blocksOnEntry, Phase.clearsPlan]
  have hcontext : ∀ r : State, r.contextOnEntry .halted = r := fun _ => rfl
  have hleft : phaseLeft .halted s = s.withdrawSwitch := by
    have harming : s.leaveArming .halted = s := by
      rw [State.leaveArming, beq_eq_false_iff_ne.mpr (by simp [hp]), State.when_false]
    have hcatching : s.leaveCatching = s := by
      rw [State.leaveCatching, beq_eq_false_iff_ne.mpr (by simp [hp]), State.when_false]
    rw [phaseLeft, harming, hcatching, State.leaveRevising, hp, hl]
    exact State.when_true ..
  rw [(enterBase_port_catcher .halted s).1, hleft, hcontext, hblocks]

/-- R30: HALTED left for SETTLING leaves the Line Port. -/
theorem enterBase_settling_port {s : State} (hp : s.round.phase = .halted) :
    (s.enterBase .settling).port = s.port := by
  have hblocks : ∀ r : State, (r.blocksOnEntry .settling).port = r.port := fun r => by
    simp [State.blocksOnEntry, Phase.clearsPlan]
  have hcontext : ∀ r : State, r.contextOnEntry .settling = r := fun _ => rfl
  have hleft : phaseLeft .settling s = s := by
    have harming : s.leaveArming .settling = s := by
      rw [State.leaveArming, beq_eq_false_iff_ne.mpr (by simp [hp]), State.when_false]
    have hcatching : s.leaveCatching = s := by
      rw [State.leaveCatching, beq_eq_false_iff_ne.mpr (by simp [hp]), State.when_false]
    rw [phaseLeft, harming, hcatching, State.leaveRevising, hp]
    exact State.when_false ..
  rw [(enterBase_port_catcher .settling s).1, hleft, hcontext, hblocks]

/-- R85, R177: what a switch withdrawn leaves of the Line Port. -/
theorem withdrawSwitch_holds (s : State) :
    s.withdrawSwitch.port.switchPending = none ∧ s.withdrawSwitch.port.presented = none ∧
    s.withdrawSwitch.port.record = s.port.record := by
  rw [State.withdrawSwitch, State.onPort_port, State.changeRecord, State.onPort_port]
  split <;> exact ⟨rfl, rfl, rfl⟩

end Sys2Proof.Proofs

/-! # The fault reset

PROOFS about a changed fault-reset count (R58, R59, R134): the own entry in service again, and LOCKOUT cleared. -/

namespace Sys2Proof.Proofs

open Sys2Proof.Machine Sys2Proof.Safety

/-! ## The fault reset of a cell -/

/-- R134: the latch empty. -/
def unlatched (s : State) : State := s.onWatch fun w => { w with latch := [], leading := FaultClass.none }

theorem faultReset_other {s : State} (h : s.ownCond .bypassed = false) : s.faultReset = s := by
  rw [State.faultReset, h, State.when_false]

/-- R134: every latched cause clear. -/
theorem remaining_nil {s : State} (h : ∀ k ∈ s.watch.latch, (k = 1 → s.watch.bridgeFlt ≠ some true) ∧
    (k = 2 → s.watch.cellFlt ≠ some true) ∧ (k = 3 → s.watch.tripHigh = 0) ∧
    (k ≠ 1 → k ≠ 2 → k ≠ 3 → s.bypass.feedback = some true)) : s.watch.remaining s.bypass.feedback = [] := by
  rw [Watch.remaining, List.filter_eq_nil_iff]
  intro k hk
  obtain ⟨h1, h2, h3, h4⟩ := h k hk
  have hclear : s.watch.causeClear s.bypass.feedback k = true := by
    unfold Watch.causeClear
    split
    next he => simpa using h1 he
    next n1 =>
      split
      next he => simpa using h2 he
      next n2 =>
        split
        next he => simpa using h3 he
        next n3 => simpa using h4 n1 n2 n3
  simp [hclear]

section
variable {s : State} {i : Nat} {e : RosterEntry} (h : OwnEntry s i e) (hb : e.cond = .bypassed)
variable (hclear : s.watch.remaining s.bypass.feedback = [])
include h hb hclear

/-- R134: a BYPASSED own entry in service again. -/
theorem faultReset_eq : s.faultReset = (unlatched s).requestWrite .live FaultClass.none := by
  have hcond : s.ownCond .bypassed = true := by
    rw [h.cond, hb]
    rfl
  have hnew : e.carries .live FaultClass.none = false := by simp [RosterEntry.carries, hb]
  rw [State.faultReset, hcond, State.when_true, State.resetBypassed, hclear]
  exact ownerWrite_eq (s := unlatched s) h.1 h.2 (by simp) hnew

theorem faultReset_entry : (s.faultReset).watch.latch = [] ∧ (s.faultReset).watch.leading = 0 ∧
    (s.faultReset).roster.entries[i - 1]? = some ⟨.live, .owner, 0, versionSucc e.version, e.silentSince⟩ := by
  have hnew : e.carries .live FaultClass.none = false := by simp [RosterEntry.carries, hb]
  have hentry := (requestWrite_entry (s := unlatched s) h.1 h.2 hnew).1
  have hwatch := (handed_requestWrite .live FaultClass.none (unlatched s)).watch
  rw [faultReset_eq h hb hclear, hwatch]
  exact ⟨rfl, rfl, hentry⟩

/-- R38, R59: in HALTED the owner's write re-plans. -/
theorem faultReset_halted (hp : s.round.phase = .halted) : (s.faultReset).round.phase = .settling := by
  have hnew : (s.entryAt i).carries .live FaultClass.none = false := by
    simp [entryAt_of_getElem? h.2, RosterEntry.carries, hb]
  obtain ⟨q, hq, -, -, -, hround⟩ := requestWrite_round (s := unlatched s) h.1 hnew
  rw [faultReset_eq h hb hclear, hround, entryChange_halted (by rw [hq]; exact hp), State.enterBase_round]
  rfl

end

/-! ## The fault reset in LOCKOUT -/

theorem requestWrite_lockout {c : Condition} {k : FaultClass} {s : State} (hp : s.round.phase = .lockout) :
    (s.requestWrite c k).round = s.round ∧ (s.requestWrite c k).plan.inForce = s.plan.inForce := by
  unfold State.requestWrite
  split
  next i _ =>
    split
    · exact ⟨rfl, rfl⟩
    · have hsummary : ∀ r : State, r.queueSummary.round = r.round ∧ r.queueSummary.plan = r.plan := fun r => by simp
      have hplan : ∀ r : State, (r.planEntryChange i).round = r.round ∧
          (r.planEntryChange i).plan.inForce = r.plan.inForce := fun r => ⟨by simp, planEntryChange_inForce ..⟩
      have hchange : ∀ r : State, r.round.phase = .lockout → r.entryChange .owner = r := by
        intro r hr
        unfold State.entryChange
        rw [hr]
      rw [State.assertEntry, (hsummary _).1, (hsummary _).2, State.handChange, hchange _ (by rw [(hplan _).1]; exact hp),
        (hplan _).1, (hplan _).2]
      exact ⟨rfl, rfl⟩
  next => exact ⟨rfl, rfl⟩

theorem faultReset_lockout {s : State} (hp : s.round.phase = .lockout) :
    (s.faultReset).round = s.round ∧ (s.faultReset).plan.inForce = s.plan.inForce := by
  have howner : ∀ (c : Condition) (k : FaultClass) (r : State), r.round.phase = .lockout →
      (r.ownerWrite c k).round = r.round ∧ (r.ownerWrite c k).plan.inForce = r.plan.inForce := by
    intro c k r hr
    obtain ⟨h1, h2⟩ := requestWrite_lockout (c := c) (k := k) hr
    refine when_keeps (P := fun q : State => q.round = r.round ∧ q.plan.inForce = r.plan.inForce) ⟨h1, h2⟩ fun _ => ?_
    obtain ⟨h3, h4⟩ := requestWrite_lockout (c := .bypassed) (k := (r.requestWrite c k).watch.leading)
      (s := r.requestWrite c k) (by rw [h1]; exact hr)
    exact ⟨h3.trans h1, h4.trans h2⟩
  refine when_keeps (P := fun r : State => r.round = s.round ∧ r.plan.inForce = s.plan.inForce) ⟨rfl, rfl⟩ fun _ => ?_
  unfold State.resetBypassed
  split
  · exact howner _ _ (s.onWatch _) hp
  · split
    · exact ⟨rfl, rfl⟩
    · exact howner _ _ (s.onWatch _) hp

/-! ## LOCKOUT cleared -/

/-- R58: LOCKOUT left for the successor epoch, before the fault reset is handed on. -/
def lockoutLeft (s : State) : State :=
  (State.clearRecord ((((s.setEpoch (epochSucc s.round.epoch)).onRound fun r =>
    { r with attempts := [], resettle := 0 }).onPlan fun u => { u.discard with inForce := none }))).onRound
    fun r => { r with lockoutClear := some s.now }

theorem lockoutLeft_holds (s : State) :
    (lockoutLeft s).round = { s.round with
      epoch := s.round.epoch + 1#16, resettle := 0, early := [], attempts := [], lockoutClear := some s.now } ∧
    (lockoutLeft s).plan.inForce = none ∧ (lockoutLeft s).roster = s.roster ∧ (lockoutLeft s).watch = s.watch ∧
    (lockoutLeft s).bypass = s.bypass ∧ (lockoutLeft s).store = s.store := by
  have hne : epochSucc s.round.epoch ≠ s.round.epoch := by simp [epochSucc]
  have hclear : ∀ r : State, (State.clearRecord r).round = r.round ∧ (State.clearRecord r).plan = r.plan := fun r => by simp
  refine ⟨?_, ?_, by simp [lockoutLeft], by simp [lockoutLeft], by simp [lockoutLeft], by simp [lockoutLeft]⟩
  · rw [lockoutLeft, State.onRound_round, (hclear _).1, State.onPlan_round, State.onRound_round, State.setEpoch_round hne]
    rfl
  · rw [lockoutLeft, State.onRound_plan, (hclear _).2]
    rfl

theorem clearLockout_eq (s : State) : s.clearLockout = ((lockoutLeft s).faultReset).enterBase .settling :=
  State.enter_of_stays .settling (lockoutLeft s).faultReset rfl

/-- R58: what stands after LOCKOUT is cleared. -/
theorem clearLockout_holds {s : State} (hp : s.round.phase = .lockout) :
    s.clearLockout.round.phase = .settling ∧ s.clearLockout.round.epoch = s.round.epoch + 1#16 ∧
    s.clearLockout.round.attempts = [] ∧ s.clearLockout.round.resettle = 0 ∧
    s.clearLockout.round.lockoutClear = some s.now ∧ s.clearLockout.round.facts = s.round.facts ∧
    s.clearLockout.plan.inForce = none := by
  obtain ⟨hround, hin, -⟩ := lockoutLeft_holds s
  obtain ⟨h1, h2⟩ := faultReset_lockout (s := lockoutLeft s) (by rw [hround]; exact hp)
  rw [clearLockout_eq, enterBase_inForce rfl, State.enterBase_round, h1, h2, hround, hin]
  exact ⟨rfl, rfl, rfl, rfl, rfl, rfl, rfl⟩

/-- R58, R134: the own entry after LOCKOUT is cleared. -/
theorem clearLockout_entry {i : Nat} {e : RosterEntry} {s : State} (hp : s.round.phase = .lockout) (h : OwnEntry s i e)
    (hb : e.cond = .bypassed) (hclear : s.watch.remaining s.bypass.feedback = []) :
    s.clearLockout.watch.latch = [] ∧ s.clearLockout.watch.leading = 0 ∧
    s.clearLockout.roster.entries[i - 1]? = some ⟨.live, .owner, 0, versionSucc e.version, e.silentSince⟩ := by
  obtain ⟨hround, -, hroster, hwatch, hbypass, hstore⟩ := lockoutLeft_holds s
  have hown : OwnEntry (lockoutLeft s) i e := by
    refine ⟨?_, by rw [hroster]; exact h.2⟩
    rw [State.ownedIndex, hroster, State.ownIndex_congr hstore]
    exact h.1
  obtain ⟨h1, h2, h3⟩ := faultReset_entry hown hb (by rw [hwatch, hbypass]; exact hclear)
  have hphase : (lockoutLeft s).faultReset.round.phase ≠ .arming := by
    rw [(faultReset_lockout (s := lockoutLeft s) (by rw [hround]; exact hp)).1, hround]
    simp [hp]
  rw [clearLockout_eq, enterBase_watch_of_not_arming hphase, (enterBase_roster .settling _).1.1]
  exact ⟨h1, h2, h3⟩

end Sys2Proof.Proofs

/-! # Line facts by phase

PROOFS about a LINE frame of the station's epoch with no switch under way, by the phase that takes it (R36, R37, R41, R49,
R51 to R53, R58, R59, R180). -/

namespace Sys2Proof.Proofs

open Sys2Proof.Machine Sys2Proof.Safety

/-! ## The frame by the phase -/

section
variable {e : Half} {l : LinePayload} {s : State}

theorem takeSwitch_idle {r : State} (hp : r.round.phase.drives = false) : r.takeSwitch e l = r := by
  rw [State.takeSwitch, hp, Bool.and_false, State.when_false]

/-- R58, R59: the frame's fault-reset count is not acted on. -/
def CountKept (l : LinePayload) (s : State) : Prop := (s.round.facts.countChanged l && !l.runReq) = false

theorem countKept_of_same (h : ∀ k, s.round.facts.faultCount = some k → k = l.faultCount) : CountKept l s := by
  have hsame : s.round.facts.countChanged l = false := by
    unfold LineFacts.countChanged
    split
    next k hk => simp [h k hk]
    next => rfl
  rw [CountKept, hsame, Bool.false_and]

/-- R37: no fresh run request. -/
theorem freshRun_none (h : l.runReq = false ∨ s.round.facts.prevRun = true) : s.round.facts.freshRun l = false := by
  rcases h with h | h <;> simp [LineFacts.freshRun, h]

/-- R36: HALTED without a fresh run request and without a fault reset: the facts alone. -/
theorem lineTaken_halted_notes (hp : s.round.phase = .halted) (hfresh : s.round.facts.freshRun l = false)
    (hcount : CountKept l s ∨ s.ownCond .bypassed = false) : s.lineTaken e l = lineFaced e l s := by
  have hphase : (lineFaced e l s).round.phase = .halted := hp
  have hkept : (lineFaced e l s).when (s.round.facts.countChanged l && !l.runReq) State.countAction = lineFaced e l s := by
    rcases hcount with h | h
    · exact (congrArg (fun c => (lineFaced e l s).when c State.countAction) h).trans (State.when_false ..)
    · refine when_keeps (P := fun r : State => r = lineFaced e l s) rfl fun _ => ?_
      have hreset : (lineFaced e l s).countAction = (lineFaced e l s).faultReset := by
        unfold State.countAction
        rw [hphase]
      rw [hreset]
      exact faultReset_other (s := lineFaced e l s) h
  show State.actOnFacts (s.round.facts.freshRun l && _) (((lineFaced e l s).when _ State.countAction).takeSwitch e l) = _
  rw [hkept, takeSwitch_idle (by rw [hphase]; rfl), hfresh, Bool.false_and]
  unfold State.actOnFacts
  rw [hphase]
  exact State.when_false ..

/-- R37: a fresh run request in HALTED has the phase tested. -/
theorem lineTaken_halted_tests (hp : s.round.phase = .halted) (hfresh : s.round.facts.freshRun l = true)
    (hcount : CountKept l s) : s.lineTaken e l = (lineFaced e l s).testTransition := by
  have hphase : (lineFaced e l s).round.phase = .halted := hp
  show State.actOnFacts (s.round.facts.freshRun l && ((lineFaced e l s).round.phase == .halted))
    (((lineFaced e l s).when _ State.countAction).takeSwitch e l) = _
  rw [hcount, State.when_false, takeSwitch_idle (by rw [hphase]; rfl), hfresh, hphase]
  unfold State.actOnFacts
  rw [hphase]
  exact State.when_true ..

/-- R58, R59: a fault reset acted on that leads to SETTLING. -/
theorem lineTaken_counts (hcount : (s.round.facts.countChanged l && !l.runReq) = true)
    (hsettles : (lineFaced e l s).countAction.round.phase = .settling) :
    s.lineTaken e l = (lineFaced e l s).countAction := by
  show State.actOnFacts (s.round.facts.freshRun l && _)
    (((lineFaced e l s).when _ State.countAction).takeSwitch e l) = _
  rw [hcount, State.when_true, takeSwitch_idle (by rw [hsettles]; rfl)]
  unfold State.actOnFacts
  rw [hsettles]

/-- R49: in CATCHING the phase is tested. -/
theorem lineTaken_catching (hp : s.round.phase = .catching) : s.lineTaken e l = (lineFaced e l s).testTransition := by
  have hphase : (lineFaced e l s).round.phase = .catching := hp
  have hkept : ∀ c, (lineFaced e l s).when c State.countAction = lineFaced e l s := fun c =>
    when_keeps (P := fun r : State => r = lineFaced e l s) rfl fun _ => by
      unfold State.countAction
      rw [hphase]
  show State.actOnFacts _ (((lineFaced e l s).when _ State.countAction).takeSwitch e l) = _
  rw [hkept, takeSwitch_idle (by rw [hphase]; rfl)]
  unfold State.actOnFacts
  rw [hphase]

/-- R52, R53: run request absent while the drive runs, with no switch under way. -/
theorem lineTaken_drives (hp : s.round.phase = .running ∨ s.round.phase = .revising) (he : e = s.round.epoch)
    (hrun : l.runReq = false) (hw : l.switchBlock = none) (hrec : s.plan.switchRecord = none) :
    s.lineTaken e l = (lineFaced e l s).enter .halted := by
  have hphase : (lineFaced e l s).round.phase = s.round.phase := rfl
  have hdrives : (lineFaced e l s).round.phase.drives = true := by
    rw [hphase]
    rcases hp with h | h <;> rw [h] <;> rfl
  have hkept : ∀ c, (lineFaced e l s).when c State.countAction = lineFaced e l s := fun c =>
    when_keeps (P := fun r : State => r = lineFaced e l s) rfl fun _ => by
      unfold State.countAction
      rw [hphase]
      rcases hp with h | h <;> rw [h]
  have htest : (lineFaced e l s).testSwitch e l = lineFaced e l s := by
    unfold State.testSwitch
    simp only [hw]
  have hfailed : (lineFaced e l s).switchFailed l = false := by
    have hrec' : (lineFaced e l s).plan.switchRecord = none := hrec
    unfold State.switchFailed
    split
    · rw [hw, hrec']
      rfl
    · rfl
  have hfollow : (lineFaced e l s).followSwitch e l = lineFaced e l s := by
    have hplan : ∀ u : PlanUnit, u.switchRecord = none → { u with switchRecord := recordAfter e l u.inForce.isSome } = u := by
      intro u hu
      have : recordAfter e l u.inForce.isSome = none := by simp [recordAfter, hw]
      rw [this, ← hu]
    rw [State.followSwitch, hfailed, State.when_false, State.onPlan, hplan (lineFaced e l s).plan hrec]
  have hswitch : (lineFaced e l s).takeSwitch e l = lineFaced e l s := by
    have hepoch : (e == (lineFaced e l s).round.epoch) = true := by rw [he]; exact beq_self_eq_true _
    rw [State.takeSwitch, hepoch, hdrives, Bool.and_true, State.when_true]
    dsimp only
    rw [htest, hdrives, State.when_true, hfollow]
  have hgoes : (!(lineFaced e l s).round.facts.runReq) = true := by
    show (!l.runReq) = true
    rw [hrun]
    rfl
  have hacts : ∀ fresh, (lineFaced e l s).actOnFacts fresh = (lineFaced e l s).enter .halted := by
    intro fresh
    unfold State.actOnFacts State.enterIf
    rw [hphase, hgoes]
    rcases hp with h | h <;> rw [h] <;> exact State.when_true ..
  show State.actOnFacts _ (((lineFaced e l s).when _ State.countAction).takeSwitch e l) = _
  rw [hkept, hswitch, hacts]

end

/-! ## What the phases make of the facts -/

/-- R51, R180: ARMING entered; the station's STEP finds its place. -/
structure ArmingEntered (s r q : State) : Prop where
  phase : q.round.phase = .arming
  facts : q.round.facts = r.round.facts
  runDemand : q.round.runDemand = r.round.runDemand
  inForce : q.plan.inForce = r.plan.inForce
  step : s.isLine = true → StepDecided s q

/-- R41, R49: ARMING entered from HALTED or CATCHING. -/
theorem armingEntered {n : Nat} {s r : State} (hstore : r.store = s.store) (hdup : r.bus.duplicate = s.bus.duplicate)
    (hroom : s.bus.queue.length ≤ 4 → RoomLeft r.bus.queue)
    (hc : r.heldOutcome ≠ some .expired) (hr : r.round.refusal = .none) (ha : 0 ∉ r.round.armed) :
    ArmingEntered s r (State.settleEntry (n + 1) (r.enterPhase .arming)) := by
  obtain ⟨q, heq, h1, h2, h3, h4, hstep⟩ := arming_entered (n := n) hc hr ha
  rw [heq]
  refine ⟨h1, h2, h3, h4, fun hl => ?_⟩
  have hline : r.isLine = true := (isLine_congr hstore).trans hl
  have hphase : (r.enterBase .arming).round.phase = .arming := by rw [State.enterBase_round]; rfl
  have hfitted : (r.enterBase .arming).fitted = true := fitted_of_isLine ((isLine_congr (by simp)).trans hline)
  have hheld : (r.enterBase .arming).bus.duplicate = r.bus.duplicate := by simp
  rw [hstep hline]
  exact stepDecided_decideStep fun hd hq =>
    ⟨by rw [barred_inside (by rw [hphase]; rfl), hheld, hdup, hd, hfitted]; rfl, roomLeft_enterBase .arming (hroom hq)⟩

/-- R49: the outcome of the frame's catch block. -/
theorem heldOutcome_lineFaced {e : Half} {l : LinePayload} {b : CatchBlock} {o : CatchOutcome} {s : State}
    (he : e = s.round.epoch) (hb : l.catchBlock = some b) (ho : CatchOutcome.ofCode b.outcome = some o) :
    (lineFaced e l s).heldOutcome = some o := by
  have hheld : (lineFaced e l s).round.facts.catchHeld = some ⟨o, e⟩ := by
    show catchHeldAfter e l _ = _
    simp [catchHeldAfter, hb, ho]
  rw [State.heldOutcome, hheld]
  exact if_pos he

/-- R49: CATCHING left on an outcome. -/
theorem catching_leaves {p : Phase} {o : CatchOutcome} {s : State} (hp : s.round.phase = .catching)
    (ho : s.heldOutcome = some o) (hafter : phaseAfterCatch s.round.runDemand o = some p) :
    s.testTransition = State.settleEntry (6 + 1) (s.enterPhase p) := by
  have hnext : s.entryTransition = some (s, p) := by
    unfold State.entryTransition
    rw [hp]
    simp [State.catchExit, ho, hafter]
  rw [State.testTransition, show entryFuel = 6 + 1 + 1 from rfl, State.settleEntry, hnext]

/-- R41: HALTED left on run demand. -/
theorem halted_leaves {s : State} (hp : s.round.phase = .halted) (hd : s.round.deferred = false)
    (hdem : s.round.runDemand = true) : s.testTransition =
      State.settleEntry (6 + 1) (s.enterPhase (if s.plan.inForce.isSome then .arming else .settling)) := by
  have hnext : s.entryTransition = some (s, if s.plan.inForce.isSome then .arming else .settling) := by
    unfold State.entryTransition
    rw [hp]
    simp [hd, hdem]
  rw [State.testTransition, show entryFuel = 6 + 1 + 1 from rfl, State.settleEntry, hnext]

/-- R63: SETTLING entered, which stands. -/
theorem settling_stands {n : Nat} {s : State} : State.settleEntry (n + 1) (s.enterPhase .settling) = s.enterBase .settling := by
  have hround := State.enterBase_round .settling s
  refine settleEntry_stands (s := s.enterBase .settling) ?_ (by rw [hround]; simp [Round.onEntry])
  unfold State.entryTransition
  rw [hround]
  rfl

end Sys2Proof.Proofs

/-! # The line facts replaced

PROOFS about LINE_RECEIVED, and the line station's own LINE frame, with no switch under way. -/

namespace Sys2Proof.Proofs

open Sys2Proof.Machine Sys2Proof.Safety

/-! ## The station that takes the frame -/

/-- R149: a queue that a frame leaves has room. -/
theorem length_leaveQueue_le (q : List QFrame) : (leaveQueue q).length ≤ q.length := by
  induction q with
  | nil => exact Nat.le_refl _
  | cons g q ih =>
    unfold leaveQueue
    split
    · split <;> simp
    · simpa using ih

/-- R29, R36: the station `r` with the frame heard, or its own frame sent, and the line facts taken then. -/
structure FactsTaken (t : Time) (first : Bool) (s : State) (facts : LineFacts) (demand : Bool) (e : Half) (l : LinePayload)
    (r : State) : Prop where
  heard : FrameHeard t first s r
  duplicate : r.bus.duplicate = s.bus.duplicate
  room : s.bus.queue.length ≤ 4 → RoomLeft r.bus.queue
  epoch : e = s.round.epoch
  facts_eq : facts = ⟨l.runReq, l.runReq, l.brakeOpen, some l.faultCount, catchHeldAfter e l s.round.facts.catchHeld,
    some l.mark⟩
  demand_eq : demand = (l.runReq && (s.round.runDemand || !s.round.facts.prevRun))

section
variable {t : Time} {first : Bool} {s r : State} {facts : LineFacts} {demand : Bool} {e : Half} {l : LinePayload}
variable (h : FactsTaken t first s facts demand e l r)
include h

theorem FactsTaken.faced : (lineFaced e l r).round =
    { s.round with firstTaken := first, facts := facts, runDemand := demand } := by
  rw [lineFaced_round, h.heard.round, h.facts_eq, h.demand_eq]

theorem FactsTaken.phase : r.round.phase = s.round.phase := by rw [h.heard.round]

/-- R8: the own entry is the one before. -/
theorem FactsTaken.ownEntry {i : Nat} {x : RosterEntry} (hi : s.ownIndex = some i) (ha : s.roster.authority = true)
    (hx : s.roster.entries[i - 1]? = some x) : OwnEntry (lineFaced e l r) i x := by
  have hroster : (lineFaced e l r).roster = s.roster := h.heard.roster
  refine ⟨?_, by rw [hroster]; exact hx⟩
  rw [State.ownedIndex, hroster, ha, State.ownIndex_congr (r := lineFaced e l r) (s := s) h.heard.store]
  exact hi

theorem FactsTaken.ownCond (c : Condition) : r.ownCond c = s.ownCond c := by
  unfold State.ownCond State.ownEntry
  rw [State.ownIndex_congr h.heard.store]
  cases s.ownIndex with
  | none => rfl
  | some i => simp only [Option.map_some, State.entryAt, h.heard.roster]

/-- R36: TRIPPED, SETTLING and PLANNING. -/
theorem FactsTaken.notes (hp : s.round.phase = .tripped ∨ s.round.phase = .settling ∨ s.round.phase = .planning) :
    (r.lineTaken e l).round = { s.round with firstTaken := first, facts := facts, runDemand := demand } := by
  rw [lineTaken_noted (by rw [h.phase]; exact hp), h.faced]

/-- R36, R59: HALTED without a fresh run request and without a fault reset. -/
theorem FactsTaken.halted_notes (hp : s.round.phase = .halted) (hrun : l.runReq = false ∨ s.round.facts.prevRun = true)
    (hcount : (∀ k, s.round.facts.faultCount = some k → k = l.faultCount) ∨ s.ownCond .bypassed = false) :
    (r.lineTaken e l).round = { s.round with firstTaken := first, facts := facts, runDemand := demand } := by
  have hfacts : r.round.facts = s.round.facts := by rw [h.heard.round]
  rw [lineTaken_halted_notes (by rw [h.phase]; exact hp) (freshRun_none (by rwa [hfacts]))
    (hcount.imp (fun hk => countKept_of_same (by rwa [hfacts])) fun hb => by rwa [h.ownCond]), h.faced]

/-- R49: ARMING entered on the facts. -/
theorem FactsTaken.arms {n : Nat} (hc : (lineFaced e l r).heldOutcome ≠ some .expired) (hr : s.round.refusal = .none)
    (ha : 0 ∉ s.round.armed) :
    ArmingEntered s (lineFaced e l r) (State.settleEntry (n + 1) ((lineFaced e l r).enterPhase .arming)) :=
  armingEntered (r := lineFaced e l r) h.heard.store h.duplicate h.room hc (by rw [h.faced]; exact hr)
    (by rw [h.faced]; exact ha)

/-- R37, R41: a fresh run request in HALTED. -/
theorem FactsTaken.halted_tests (hp : s.round.phase = .halted)
    (hcount : ∀ k, s.round.facts.faultCount = some k → k = l.faultCount) (hrun : l.runReq = true)
    (hprev : s.round.facts.prevRun = false) (hd : s.round.deferred = false) :
    (s.plan.inForce = none → (r.lineTaken e l).round.phase = .settling ∧ (r.lineTaken e l).round.runDemand = true) ∧
    (s.plan.inForce.isSome = true → s.round.refusal = .none → 0 ∉ s.round.armed →
      (∀ x, facts.catchHeld = some x → x.epoch = s.round.epoch → x.outcome ≠ .expired) →
      (r.lineTaken e l).round.phase = .arming ∧ (r.lineTaken e l).round.runDemand = true ∧
      (r.lineTaken e l).plan.inForce = s.plan.inForce ∧ (s.isLine = true → StepDecided s (r.lineTaken e l))) := by
  have hfacts : r.round.facts = s.round.facts := by rw [h.heard.round]
  have hdem : demand = true := by rw [h.demand_eq, hrun, hprev]; simp
  have hplan : (lineFaced e l r).plan = s.plan := h.heard.plan
  rw [lineTaken_halted_tests (by rw [h.phase]; exact hp) (by rw [hfacts]; simp [LineFacts.freshRun, hrun, hprev])
    (countKept_of_same (by rwa [hfacts])), halted_leaves (by rw [h.faced]; exact hp) (by rw [h.faced]; exact hd)
    (by rw [h.faced]; exact hdem), hplan]
  refine ⟨fun hnone => ?_, fun hsome hr ha hc => ?_⟩
  · rw [hnone, Option.isSome_none, if_neg Bool.false_ne_true, settling_stands, State.enterBase_round, h.faced]
    exact ⟨rfl, hdem⟩
  · have hheld : (lineFaced e l r).heldOutcome ≠ some .expired := by
      unfold State.heldOutcome
      rw [h.faced]
      dsimp only
      split
      next x hx =>
        split
        next hepoch => exact fun heq => hc x hx hepoch (Option.some.inj heq)
        next => simp
      next => simp
    have harms := h.arms (n := 6) hheld hr ha
    rw [hsome, if_pos rfl]
    exact ⟨harms.phase, by rw [harms.runDemand, h.faced]; exact hdem, by rw [harms.inForce, hplan], harms.step⟩

/-- R58, R59: a changed fault-reset count with run request absent is acted on. -/
theorem FactsTaken.counts {k : Byte} (hk : s.round.facts.faultCount = some k) (hne : k ≠ l.faultCount)
    (hrun : l.runReq = false) : (r.round.facts.countChanged l && !l.runReq) = true := by
  have hfacts : r.round.facts = s.round.facts := by rw [h.heard.round]
  simp [hfacts, LineFacts.countChanged, hk, hne, hrun]

/-- R58: LOCKOUT cleared. -/
theorem FactsTaken.clears (hp : s.round.phase = .lockout)
    (hcount : (r.round.facts.countChanged l && !l.runReq) = true) :
    r.lineTaken e l = (lineFaced e l r).clearLockout := by
  have hphase : (lineFaced e l r).round.phase = .lockout := by rw [h.faced]; exact hp
  have haction : (lineFaced e l r).countAction = (lineFaced e l r).clearLockout := by
    unfold State.countAction
    rw [hphase]
  rw [lineTaken_counts hcount (by rw [haction]; exact (clearLockout_holds hphase).1), haction]

theorem FactsTaken.lockout (hp : s.round.phase = .lockout)
    (hcount : (r.round.facts.countChanged l && !l.runReq) = true) :
    (r.lineTaken e l).round.phase = .settling ∧ (r.lineTaken e l).round.epoch = s.round.epoch + 1#16 ∧
    (r.lineTaken e l).round.attempts = [] ∧ (r.lineTaken e l).round.resettle = 0 ∧
    (r.lineTaken e l).round.lockoutClear = some (max s.now t) ∧ (r.lineTaken e l).round.facts = facts ∧
    (r.lineTaken e l).plan.inForce = none := by
  have hnow : (lineFaced e l r).now = max s.now t := h.heard.now
  have hcleared := clearLockout_holds (s := lineFaced e l r) (by rw [h.faced]; exact hp)
  rw [h.faced, hnow] at hcleared
  rw [h.clears hp hcount]
  exact hcleared

/-- R134: the own entry in service again. -/
theorem FactsTaken.resets {i : Nat} {x : RosterEntry} (hp : s.round.phase = .lockout ∨ s.round.phase = .halted)
    (hcount : (r.round.facts.countChanged l && !l.runReq) = true) (hi : s.ownIndex = some i)
    (ha : s.roster.authority = true) (hx : s.roster.entries[i - 1]? = some x) (hb : x.cond = .bypassed)
    (hclear : s.watch.remaining s.bypass.feedback = []) :
    (r.lineTaken e l).watch.latch = [] ∧ (r.lineTaken e l).watch.leading = 0 ∧
    (r.lineTaken e l).round.phase = .settling ∧
    (r.lineTaken e l).roster.entries[i - 1]? = some ⟨.live, .owner, 0, versionSucc x.version, x.silentSince⟩ := by
  have hown := h.ownEntry hi ha hx
  have hclear' : (lineFaced e l r).watch.remaining (lineFaced e l r).bypass.feedback = [] := by
    show r.watch.remaining r.bypass.feedback = []
    rw [h.heard.watch, h.heard.bypass]
    exact hclear
  rcases hp with hp | hp
  · obtain ⟨h1, h2, h3⟩ := clearLockout_entry (s := lineFaced e l r) (by rw [h.faced]; exact hp) hown hb hclear'
    have hphase := (h.lockout hp hcount).1
    rw [h.clears hp hcount] at hphase ⊢
    exact ⟨h1, h2, hphase, h3⟩
  · have hphase : (lineFaced e l r).round.phase = .halted := by rw [h.faced]; exact hp
    have haction : (lineFaced e l r).countAction = (lineFaced e l r).faultReset := by
      unfold State.countAction
      rw [hphase]
    have hsettles := faultReset_halted hown hb hclear' hphase
    obtain ⟨h1, h2, h3⟩ := faultReset_entry hown hb hclear'
    rw [lineTaken_counts hcount (by rw [haction]; exact hsettles), haction]
    exact ⟨h1, h2, hsettles, h3⟩

/-- R49: CATCHING on a catch block. -/
theorem FactsTaken.catching {b : CatchBlock} {o : CatchOutcome} (hp : s.round.phase = .catching)
    (hb : l.catchBlock = some b) (ho : CatchOutcome.ofCode b.outcome = some o) :
    ((o = .caught ∨ o = .carried ∨ o = .cold ∨ (o = .standstill ∧ demand = true)) → s.round.refusal = .none →
      0 ∉ s.round.armed → (r.lineTaken e l).round.phase = .arming ∧ (r.lineTaken e l).round.facts = facts ∧
      (s.isLine = true → StepDecided s (r.lineTaken e l))) ∧
    ((o = .failed ∨ o = .expired ∨ (o = .standstill ∧ demand = false)) → s.round.deferred = false →
      (r.lineTaken e l).round.phase = .halted ∧ (r.lineTaken e l).round.runDemand = false ∧
      (r.lineTaken e l).round.facts = facts ∧ (r.lineTaken e l).plan.inForce = s.plan.inForce) := by
  have hphase : (lineFaced e l r).round.phase = .catching := by rw [h.faced]; exact hp
  have hheld := heldOutcome_lineFaced (s := r) (e := e) (by rw [h.heard.round]; exact h.epoch) hb ho
  have hdem : (lineFaced e l r).round.runDemand = demand := by rw [h.faced]
  have hfacts : (lineFaced e l r).round.facts = facts := by rw [h.faced]
  have hplan : (lineFaced e l r).plan = s.plan := h.heard.plan
  rw [lineTaken_catching (by rw [h.phase]; exact hp)]
  refine ⟨fun hout hr ha => ?_, fun hout hd => ?_⟩
  · have hafter : phaseAfterCatch (lineFaced e l r).round.runDemand o = some .arming := by
      rw [hdem]
      rcases hout with rfl | rfl | rfl | ⟨rfl, hd⟩
      · rfl
      · rfl
      · rfl
      · rw [hd]; rfl
    have harms := h.arms (n := 6) (by
      rw [hheld]
      rcases hout with rfl | rfl | rfl | ⟨rfl, hd⟩ <;> simp) hr ha
    rw [catching_leaves hphase hheld hafter]
    exact ⟨harms.phase, by rw [harms.facts, hfacts], harms.step⟩
  · have hafter : phaseAfterCatch (lineFaced e l r).round.runDemand o = some .halted := by
      rw [hdem]
      rcases hout with rfl | rfl | ⟨rfl, hd⟩
      · rfl
      · rfl
      · rw [hd]; rfl
    have hdrops : runDemandAfter (lineFaced e l r).round.phase .halted (lineFaced e l r).round.facts.runReq
        (lineFaced e l r).round.runDemand = false := by
      rw [hphase]
      exact Bool.and_false _
    obtain ⟨h1, h2, h3, -, h5, -⟩ := enterBase_halted_holds hdrops
    rw [catching_leaves hphase hheld hafter,
      halted_stands (n := 6) (by rw [h.faced]; exact hd) (by rw [hphase]; simp) hdrops]
    exact ⟨h1, h2, h3.trans hfacts, h5.trans (congrArg PlanUnit.inForce hplan)⟩

/-- R52: RUNNING without run request. -/
theorem FactsTaken.running (hp : s.round.phase = .running) (hrun : l.runReq = false) (hw : l.switchBlock = none)
    (hrec : s.plan.switchRecord = none) (hd : s.round.deferred = false) :
    (r.lineTaken e l).round.phase = .halted ∧ (r.lineTaken e l).round.runDemand = false ∧
    (r.lineTaken e l).plan.inForce = s.plan.inForce ∧ (r.lineTaken e l).gateEn = false := by
  have hplan : (lineFaced e l r).plan = s.plan := h.heard.plan
  have hdem : demand = false := by rw [h.demand_eq, hrun]; rfl
  have hphase : (lineFaced e l r).round.phase = .running := by rw [h.faced]; exact hp
  have hdrops : runDemandAfter (lineFaced e l r).round.phase .halted (lineFaced e l r).round.facts.runReq
      (lineFaced e l r).round.runDemand = false := by
    rw [h.faced]
    exact (congrArg (· && _) hdem).trans (Bool.false_and _)
  obtain ⟨h1, h2, -, -, h5, h6⟩ := enterBase_halted_holds hdrops
  have hentered : (lineFaced e l r).enter .halted = (lineFaced e l r).enterBase .halted :=
    halted_stands (n := 7) (by rw [h.faced]; exact hd) (by rw [hphase]; simp) hdrops
  rw [lineTaken_drives (.inl (by rw [h.phase]; exact hp)) (by rw [h.heard.round]; exact h.epoch) hrun hw
    (by rw [h.heard.plan]; exact hrec), hentered]
  exact ⟨h1, h2, h5.trans (congrArg PlanUnit.inForce hplan), h6⟩

/-- R53, R90: REVISING without run request. -/
theorem FactsTaken.revising (hp : s.round.phase = .revising) (hrun : l.runReq = false) (hw : l.switchBlock = none)
    (hrec : s.plan.switchRecord = none) :
    (r.lineTaken e l).round.phase = .settling ∧ (r.lineTaken e l).round.epoch = s.round.epoch ∧
    (r.lineTaken e l).round.resettle = 0 ∧ (r.lineTaken e l).round.runDemand = false ∧
    (r.lineTaken e l).round.deferred = false ∧ (r.lineTaken e l).plan.inForce = s.plan.inForce ∧
    (∀ q, (r.lineTaken e l).plan.candidate = some q → q.revision = 0 ∧ (r.lineTaken e l).plan.build = .walking ∧
      (r.lineTaken e l).plan.cursor = 1) ∧
    (r.lineTaken e l).gateEn = false ∧ (r.lineTaken e l).release = false ∧
    (s.isLine = true → (r.lineTaken e l).port.switchPending = none ∧ (r.lineTaken e l).port.presented = none ∧
      (r.lineTaken e l).port.record = s.port.record) := by
  have hplan : (lineFaced e l r).plan = s.plan := h.heard.plan
  have hport : (lineFaced e l r).port = s.port := h.heard.port
  have hdem : demand = false := by rw [h.demand_eq, hrun]; rfl
  have hphase : (lineFaced e l r).round.phase = .revising := by rw [h.faced]; exact hp
  have hhalted := State.enterBase_round .halted (lineFaced e l r)
  have hsettling := State.enterBase_round .settling ((lineFaced e l r).enterBase .halted)
  have hin := (enterBase_inForce (p := .settling) rfl ((lineFaced e l r).enterBase .halted)).trans
    (enterBase_inForce (p := .halted) rfl (lineFaced e l r))
  have hcandidate := enterBase_settling_candidate (enterBase_halted_candidate hphase)
  have hheldport : s.isLine = true → (((lineFaced e l r).enterBase .halted).enterBase .settling).port =
      (lineFaced e l r).withdrawSwitch.port := fun hl => by
    rw [enterBase_settling_port (by rw [hhalted]; rfl),
      enterBase_halted_port hphase ((isLine_congr (s := s) h.heard.store).trans hl)]
  rw [lineTaken_drives (.inr (by rw [h.phase]; exact hp)) (by rw [h.heard.round]; exact h.epoch) hrun hw
    (by rw [h.heard.plan]; exact hrec), revising_halted hphase]
  rw [hhalted, h.faced] at hsettling
  generalize ((lineFaced e l r).enterBase .halted).enterBase .settling = q at *
  have hsettled : q.round.phase = .settling := by rw [hsettling]; rfl
  refine ⟨hsettled, by rw [hsettling]; rfl, by rw [hsettling]; rfl, by rw [hsettling, hdem]; rfl, by rw [hsettling]; rfl,
    hin.trans (congrArg PlanUnit.inForce hplan), hcandidate, State.gateEn_of_phase (by rw [hsettled]; rfl), ?_, fun hl => ?_⟩
  · rw [State.release, hsettled]
    simp [Phase.drives]
  · rw [hheldport hl, ← hport]
    exact withdrawSwitch_holds _

end

/-! ## The frame received or sent -/

/-- Settles O26: the facts of a LINE frame, and what each phase makes of them. -/
theorem lineFrameReplacesLineFacts : Obligations.LineFrameReplacesLineFacts := by
  intro t x a f l s facts demand c first hr hpay he hc hfacts hdemand
  have htaken : s.round.phase ≠ .joining → s.round.phase ≠ .isolated →
      ∃ r, exec c s = .next (r.lineTaken f.epoch l) ∧ FactsTaken t first s facts demand f.epoch l r := by
    intro hj hi
    rcases hc with ⟨rfl, hx, h0, hn, rfl⟩ | ⟨rfl, ha, rfl, hl, rfl⟩
    · refine ⟨_, exec_lineReceived hr hx hpay h0 hn he hj hi, frameHeard_hear t f s, by simp, fun hq => ?_, he, hfacts,
        hdemand⟩
      exact roomLeft_hear (s := s.advance t) (.inl (by simpa using hq))
    · refine ⟨_, (exec_attemptCompleted hr ha).trans (congrArg _ (takeOwn_line hpay hl)), frameHeard_sent t _ s, by
        simp [sent, Bif.completed], fun hq => .inl ?_, he, hfacts, hdemand⟩
      exact Nat.le_trans (length_leaveQueue_le _) (by simpa using hq)
  by_cases hout : s.round.phase = .joining ∨ s.round.phase = .isolated
  · have hexec : ∃ s', exec c s = .next s' := by
      rcases hc with ⟨rfl, -⟩ | ⟨rfl, -⟩
      · exact ⟨_, State.runAt_runs hr⟩
      · exact ⟨_, State.runAt_runs hr⟩
    obtain ⟨s', hexec⟩ := hexec
    refine ⟨s', hexec, ?_⟩
    rcases hout with h | h <;> simp [h]
  · obtain ⟨r, hexec, h⟩ := htaken (fun hp => hout (.inl hp)) fun hp => hout (.inr hp)
    refine ⟨_, hexec, h.notes, fun hp hcount => ⟨fun hrun => h.halted_notes hp hrun (.inl hcount),
      fun hrun hprev hd => h.halted_tests hp hcount hrun hprev hd⟩, fun k hk hne hrun => ?_,
      fun b o hp hb ho => h.catching hp hb ho, fun hp hrun hw hrec hd => h.running hp hrun hw hrec hd,
      fun hp hrun hw hrec => h.revising hp hrun hw hrec⟩
    have hcounts := h.counts hk hne hrun
    exact ⟨fun hp => h.lockout hp hcounts, fun hp hb => h.halted_notes hp (.inl hrun) (.inr hb),
      fun i e hp hi ha hx hb hclear => h.resets hp hcounts hi ha hx hb (remaining_nil hclear)⟩

end Sys2Proof.Proofs

/-! # The merge index by index

PROOFS about the entries read from a SUMMARY and their merge into the roster (R16, R17, R22, R23). -/

namespace Sys2Proof.Proofs

open Sys2Proof.Machine Sys2Proof.Safety

/-! ## The entries read -/

/-- R16: a SUMMARY reads as a whole just when every item lies inside Table 1-2. -/
theorem readEntries_isSome_iff (items : List SummaryItem) :
    (∃ rs, readEntries items = some rs) ↔ ∀ y ∈ items, InsideTable y := by
  simp only [Laws.readEntries_eq_some_iff]
  constructor
  · rintro ⟨rs, h⟩ y hy
    obtain ⟨r, -, hr⟩ := List.mem_map.mp (h ▸ List.mem_map_of_mem (f := SummaryItem.read) hy)
    exact ((Laws.read_eq_some_iff y r).mp hr.symm).1
  · intro h
    induction items with
    | nil => exact ⟨[], rfl⟩
    | cons y items ih =>
      obtain ⟨rs, hrs⟩ := ih fun z hz => h z (List.mem_cons_of_mem y hz)
      have hread : ∃ r, y.read = some r := by
        obtain ⟨c, hc⟩ : ∃ c : Condition, y.cond.toNat = conditionCode c := by
          rcases h y List.mem_cons_self with h | h | ⟨h | h, -⟩ | h
          · exact ⟨.live, by rw [h.1]; rfl⟩
          · exact ⟨.resting, by rw [h.1]; rfl⟩
          · exact ⟨.faulted, by rw [h]; rfl⟩
          · exact ⟨.bypassed, by rw [h]; rfl⟩
          · exact ⟨.silent, by rw [h.1]; rfl⟩
        refine ⟨⟨c, if y.owner then .owner else .observer, y.cls, y.version, 0⟩, (Laws.read_eq_some_iff ..).mpr
          ⟨h y List.mem_cons_self, ⟨hc, ?_, rfl, rfl⟩, rfl⟩⟩
        cases y.owner <;> simp
      obtain ⟨r, hr⟩ := hread
      exact ⟨r :: rs, by rw [List.map_cons, List.map_cons, hr, hrs]⟩

theorem readEntries_length {items : List SummaryItem} {rs : List RosterEntry} (h : readEntries items = some rs) :
    rs.length = items.length := by
  have := congrArg List.length ((Laws.readEntries_eq_some_iff items rs).mp h)
  simpa using this.symm

/-- R16: each entry read carries its item. -/
theorem readEntries_getElem? {items : List SummaryItem} {rs : List RosterEntry} (h : readEntries items = some rs)
    {k : Nat} {y : SummaryItem} (hy : items[k]? = some y) : ∃ r, rs[k]? = some r ∧ ItemCarries y r := by
  have hk := congrArg (fun l : List (Option RosterEntry) => l[k]?) ((Laws.readEntries_eq_some_iff items rs).mp h)
  simp only [List.getElem?_map, hy, Option.map_some] at hk
  cases hr : rs[k]? with
  | none => simp [hr] at hk
  | some r =>
    rw [hr] at hk
    exact ⟨r, rfl, ((Laws.read_eq_some_iff y r).mp (Option.some.inj hk)).2.1⟩

/-- R16: an item carries one condition, source, class and version. -/
theorem itemCarries_unique {y : SummaryItem} {r q : RosterEntry} (hr : ItemCarries y r) (hq : ItemCarries y q) :
    r = { q with silentSince := r.silentSince } := by
  obtain ⟨hr1, hr2, hr3, hr4⟩ := hr
  obtain ⟨hq1, hq2, hq3, hq4⟩ := hq
  have hcond : r.cond = q.cond := by
    have hcode : conditionCode r.cond = conditionCode q.cond := hr1.symm.trans hq1
    cases h1 : r.cond <;> cases h2 : q.cond <;> simp_all [conditionCode]
  have hsource : r.source = q.source := by
    have hiff : r.source = .owner ↔ q.source = .owner := hr2.trans hq2.symm
    cases h1 : r.source <;> cases h2 : q.source <;> simp_all
  cases r
  cases q
  simp_all

/-- R17: the merge reads no SILENT time of a received entry. -/
theorem mergeEntry_silentSince (o : Bool) (now u : Time) (r h : RosterEntry) :
    mergeEntry o now { r with silentSince := u } h = mergeEntry o now r h := rfl

/-! ## The merge of a list -/

section
variable {own : Option Nat} {now : Time} {rs hs : List RosterEntry}

/-- R17: the index `k` of the roster, merged with the received entry from `i` on. -/
def MergedAt (own : Option Nat) (now : Time) (i : Nat) (rs hs : List RosterEntry) (k : Nat) (r h : RosterEntry)
    (x : RosterEntry × Option Verdict) : Prop :=
  rs[k]? = some r ∧ hs[k]? = some h ∧ x = mergeEntry (own == some (i + k)) now r h

theorem mergeFrom_length (i : Nat) : (mergeFrom own now i rs hs).entries.length = hs.length := by
  induction rs generalizing hs i with
  | nil => simp [mergeFrom]
  | cons r rs ih =>
    cases hs with
    | nil => simp [mergeFrom]
    | cons h hs => simp [mergeFrom, ih]

theorem mergeFrom_entries {i k : Nat} {r h : RosterEntry} {x : RosterEntry × Option Verdict}
    (hm : MergedAt own now i rs hs k r h x) : (mergeFrom own now i rs hs).entries[k]? = some x.1 := by
  induction rs generalizing hs i k with
  | nil => simp [MergedAt] at hm
  | cons q rs ih =>
    obtain ⟨hr, hh, hx⟩ := hm
    cases hs with
    | nil => simp at hh
    | cons g hs =>
      cases k with
      | zero =>
        simp only [List.getElem?_cons_zero, Option.some.injEq] at hr hh
        simp [mergeFrom, hx, hr, hh]
      | succ k =>
        simp only [List.getElem?_cons_succ] at hr hh
        have := ih (i := i + 1) (k := k) ⟨hr, hh, by rw [hx]; congr 3; omega⟩
        simpa [mergeFrom] using this

/-- R16: an index past the received entries stands. -/
theorem mergeFrom_past {i k : Nat} (hr : rs[k]? = none) :
    (mergeFrom own now i rs hs).entries[k]? = hs[k]? := by
  induction rs generalizing hs i k with
  | nil => simp [mergeFrom]
  | cons q rs ih =>
    cases hs with
    | nil => simp [mergeFrom]
    | cons g hs =>
      cases k with
      | zero => simp at hr
      | succ k => simpa [mergeFrom] using ih (i := i + 1) (by simpa using hr)

theorem mergedAt_cons_zero {i : Nat} {q g r h : RosterEntry} {x : RosterEntry × Option Verdict} :
    MergedAt own now i (q :: rs) (g :: hs) 0 r h x ↔ r = q ∧ h = g ∧ x = mergeEntry (own == some i) now q g := by
  simp only [MergedAt, List.getElem?_cons_zero, Option.some.injEq, Nat.add_zero]
  constructor
  · rintro ⟨rfl, rfl, rfl⟩
    exact ⟨rfl, rfl, rfl⟩
  · rintro ⟨rfl, rfl, rfl⟩
    exact ⟨rfl, rfl, rfl⟩

theorem mergedAt_cons_succ {i k : Nat} {q g r h : RosterEntry} {x : RosterEntry × Option Verdict} :
    MergedAt own now i (q :: rs) (g :: hs) (k + 1) r h x ↔ MergedAt own now (i + 1) rs hs k r h x := by
  simp only [MergedAt, List.getElem?_cons_succ]
  rw [show i + (k + 1) = i + 1 + k by omega]

/-- R22: the items of the mismatch list. -/
theorem mem_mergeFrom_mismatch {i j : Nat} {v : Verdict} : (j, v) ∈ (mergeFrom own now i rs hs).mismatch ↔
    ∃ k r h x, j = i + k ∧ MergedAt own now i rs hs k r h x ∧ x.2 = some v := by
  induction rs generalizing hs i with
  | nil => simp [mergeFrom, MergedAt]
  | cons q rs ih =>
    cases hs with
    | nil => simp [mergeFrom, MergedAt]
    | cons g hs =>
      have hhead : (j, v) ∈ (match (mergeEntry (own == some i) now q g).2 with | some w => [(i, w)] | none => []) ↔
          j = i ∧ (mergeEntry (own == some i) now q g).2 = some v := by
        cases (mergeEntry (own == some i) now q g).2 with
        | none => simp
        | some w => simp [eq_comm]
      simp only [mergeFrom, List.mem_append]
      refine (or_congr hhead ih).trans ?_
      constructor
      · rintro (⟨rfl, hv⟩ | ⟨k, r, h, x, rfl, hm, hx⟩)
        · exact ⟨0, q, g, _, rfl, mergedAt_cons_zero.mpr ⟨rfl, rfl, rfl⟩, hv⟩
        · exact ⟨k + 1, r, h, x, by omega, mergedAt_cons_succ.mpr hm, hx⟩
      · rintro ⟨k, r, h, x, rfl, hm, hx⟩
        cases k with
        | zero =>
          obtain ⟨-, -, rfl⟩ := mergedAt_cons_zero.mp hm
          exact .inl ⟨rfl, hx⟩
        | succ k => exact .inr ⟨k, r, h, x, by omega, mergedAt_cons_succ.mp hm, hx⟩

/-- R18: the indices changed. -/
theorem mem_mergeFrom_changed {i j : Nat} : j ∈ (mergeFrom own now i rs hs).changed ↔
    ∃ k r h x, j = i + k ∧ MergedAt own now i rs hs k r h x ∧ entryChanged h x.1 = true := by
  induction rs generalizing hs i with
  | nil => simp [mergeFrom, MergedAt]
  | cons q rs ih =>
    cases hs with
    | nil => simp [mergeFrom, MergedAt]
    | cons g hs =>
      have hhead : j ∈ (if entryChanged g (mergeEntry (own == some i) now q g).1 then [i] else []) ↔
          j = i ∧ entryChanged g (mergeEntry (own == some i) now q g).1 = true := by
        split <;> simp_all
      simp only [mergeFrom, List.mem_append]
      rw [hhead, ih]
      constructor
      · rintro (⟨rfl, hv⟩ | ⟨k, r, h, x, rfl, hm, hx⟩)
        · exact ⟨0, q, g, _, rfl, mergedAt_cons_zero.mpr ⟨rfl, rfl, rfl⟩, hv⟩
        · exact ⟨k + 1, r, h, x, by omega, mergedAt_cons_succ.mpr hm, hx⟩
      · rintro ⟨k, r, h, x, rfl, hm, hx⟩
        cases k with
        | zero =>
          obtain ⟨-, rfl, rfl⟩ := mergedAt_cons_zero.mp hm
          exact .inl ⟨rfl, hx⟩
        | succ k => exact .inr ⟨k, r, h, x, by omega, mergedAt_cons_succ.mp hm, hx⟩

/-- R22: the mismatch list stands in rising order. -/
theorem mergeFrom_mismatch_rises (i : Nat) :
    (mergeFrom own now i rs hs).mismatch.Pairwise fun p q => p.1 < q.1 := by
  induction rs generalizing hs i with
  | nil => simp [mergeFrom]
  | cons q rs ih =>
    cases hs with
    | nil => simp [mergeFrom]
    | cons g hs =>
      have hlater : ∀ p ∈ (mergeFrom own now (i + 1) rs hs).mismatch, i < p.1 := by
        rintro ⟨j, v⟩ hp
        obtain ⟨k, -, -, -, rfl, -⟩ := mem_mergeFrom_mismatch.mp hp
        show i < i + 1 + k
        omega
      simp only [mergeFrom]
      cases (mergeEntry (own == some i) now q g).2 with
      | none => exact ih (i + 1)
      | some v => exact List.pairwise_cons.mpr ⟨hlater, ih (i + 1)⟩

/-- R23: the first index changed is the lowest. -/
theorem mergeFrom_changed_lowest {i j m : Nat} {l : List Nat} (h : (mergeFrom own now i rs hs).changed = j :: l)
    (hm : m ∈ (mergeFrom own now i rs hs).changed) : j ≤ m := by
  induction rs generalizing hs i with
  | nil => simp [mergeFrom] at h
  | cons q rs ih =>
    cases hs with
    | nil => simp [mergeFrom] at h
    | cons g hs =>
      have hlow : i ≤ m := by
        obtain ⟨k, -, -, -, rfl, -⟩ := mem_mergeFrom_changed.mp hm
        omega
      simp only [mergeFrom] at h hm
      split at h
      · have : i = j := by simpa using (List.cons.inj h).1
        omega
      next hno =>
        rw [if_neg hno] at hm
        exact ih h hm

/-- R18: an index is changed just where its condition or class is another after the merge. -/
theorem mem_changed_iff {k : Nat} : k + 1 ∈ (mergeFrom own now 1 rs hs).changed ↔
    ∃ h e, hs[k]? = some h ∧ (mergeFrom own now 1 rs hs).entries[k]? = some e ∧ (h.cond ≠ e.cond ∨ h.cls ≠ e.cls) := by
  have hchanged : ∀ h e : RosterEntry, entryChanged h e = true ↔ h.cond ≠ e.cond ∨ h.cls ≠ e.cls := fun h e => by
    simp [entryChanged]
  rw [mem_mergeFrom_changed]
  constructor
  · rintro ⟨n, r, h, x, hn, hm, hx⟩
    obtain rfl : n = k := by omega
    exact ⟨h, x.1, hm.2.1, mergeFrom_entries hm, (hchanged ..).mp hx⟩
  · rintro ⟨h, e, hh, he, hne⟩
    cases hr : rs[k]? with
    | none =>
      rw [mergeFrom_past hr, hh] at he
      obtain rfl := Option.some.inj he
      simp at hne
    | some r =>
      have hm : MergedAt own now 1 rs hs k r h (mergeEntry (own == some (1 + k)) now r h) := ⟨hr, hh, rfl⟩
      rw [mergeFrom_entries hm] at he
      obtain rfl := Option.some.inj he
      exact ⟨k, r, h, _, by omega, hm, (hchanged ..).mpr hne⟩

end

end Sys2Proof.Proofs

/-! # A SUMMARY merged

PROOFS about what a merge leaves of the roster, the answer it owes, and the change it hands on (R16, R22 to R25, R38). -/

namespace Sys2Proof.Proofs

open Sys2Proof.Machine Sys2Proof.Safety

/-! ## The roster and an entry change -/

/-- R30: an entry inside the drive that queues no SUMMARY leaves the roster, own-entry authority active. -/
theorem enterBase_roster_eq {p : Phase} {s : State} (hp : p.outside = false) (ha : s.roster.authority = true)
    (h0 : p = .settling → s.round.phase ≠ .tripped) : (s.enterBase p).roster = s.roster := by
  have hblocks : ∀ r : State, (r.blocksOnEntry p).roster = Roster.onEntry p r.roster := fun r => by
    simp [State.blocksOnEntry]
  have hleft : ((((s.leaveArming p).leaveCatching).leaveRevising).contextOnEntry p).roster = s.roster := by simp
  have hwalk : ∀ r : State, (r.walkOnEntry p).roster = r.roster := fun r => by simp
  have hframes : ∀ r : State, (r.framesOnEntry s.round.phase p).roster = r.roster := by
    intro r
    have hno : (p == .settling && s.round.phase == .tripped) = false := by
      by_cases h : p = .settling
      · rw [beq_eq_false_iff_ne.mpr (h0 h), Bool.and_false]
      · rw [beq_eq_false_iff_ne.mpr h, Bool.false_and]
    rw [State.framesOnEntry, hno, State.when_false]
    simp
  have hentry : Roster.onEntry p s.roster = s.roster := by
    have h1 : p ≠ .joining := by rintro rfl; simp [Phase.outside] at hp
    have h2 : p ≠ .isolated := by rintro rfl; simp [Phase.outside] at hp
    unfold Roster.onEntry
    simp only [hp, h1, h2, if_false, Bool.false_eq_true]
    rw [← ha]
  unfold State.enterBase
  rw [hwalk, hframes, hblocks, hleft, hentry]

/-- R38: an entry change of a merge leaves the roster. -/
theorem entryChange_merge_roster {s : State} (ha : s.roster.authority = true ∨ s.round.phase.outside = true) :
    (s.entryChange .merge).roster = s.roster ∧
    (s.entryChange .merge).round.phase.outside = s.round.phase.outside := by
  have henters : ∀ (p : Phase) (r : State), p.outside = false → r.round.phase = s.round.phase → r.roster = s.roster →
      s.round.phase.outside = false → s.round.phase ≠ .tripped →
      (r.enterBase p).roster = s.roster ∧ (r.enterBase p).round.phase.outside = s.round.phase.outside := by
    intro p r hp hr hroster hin hne
    have hauth : s.roster.authority = true := ha.resolve_right (by rw [hin]; simp)
    refine ⟨(enterBase_roster_eq hp (by rw [hroster]; exact hauth) fun _ => by rwa [hr]).trans hroster, ?_⟩
    rw [State.enterBase_round, hin]
    exact hp
  unfold State.entryChange
  split
  next hp => exact ⟨rfl, rfl⟩
  next hp => exact ⟨rfl, rfl⟩
  next hp => exact ⟨rfl, rfl⟩
  next hp => exact ⟨rfl, rfl⟩
  next hp => exact ⟨rfl, rfl⟩
  next hp => exact henters _ _ rfl rfl rfl (by rw [hp]; rfl) (by rw [hp]; simp)
  next hp =>
    unfold State.resettle
    dsimp only
    split
    · exact henters _ _ rfl rfl rfl (by rw [hp]; rfl) (by rw [hp]; simp)
    · exact henters _ _ rfl rfl rfl (by rw [hp]; rfl) (by rw [hp]; simp)
  next hp => exact ⟨rfl, rfl⟩
  next hp => exact ⟨rfl, rfl⟩
  next hp =>
    rw [if_neg (by simp)]
    exact henters _ _ rfl rfl rfl (by rw [hp]; rfl) (by rw [hp]; simp)
  next hp =>
    rw [if_neg (by simp)]
    have hcancel : ∀ r : State, r.cancelSwitch.roster = r.roster ∧ r.cancelSwitch.round = r.round := fun r => by simp
    exact ⟨(hcancel s).1, by rw [(hcancel s).2]⟩

theorem handMerge_roster {l : List Nat} {s : State} (ha : s.roster.authority = true ∨ s.round.phase.outside = true) :
    (s.handMerge l).roster = s.roster ∧ (s.handMerge l).round.phase.outside = s.round.phase.outside := by
  cases l with
  | nil => exact ⟨rfl, rfl⟩
  | cons i l =>
    have hplan : ∀ r : State, (r.planEntryChange i).roster = r.roster ∧ (r.planEntryChange i).round = r.round := fun r => by
      simp
    obtain ⟨h1, h2⟩ := hplan s
    obtain ⟨h3, h4⟩ := entryChange_merge_roster (s := s.planEntryChange i) (by rw [h1, h2]; exact ha)
    exact ⟨h3.trans h1, h4.trans (by rw [h2])⟩

theorem handed_handMerge (l : List Nat) (s : State) : Handed s (s.handMerge l) := by
  cases l with
  | nil => exact .refl s
  | cons i l => exact (handed_handChange (by simp) i s).1

/-! ## The answer -/

/-- R24: an answer owed leaves all but its two flags and the queue. -/
theorem answer_keeps (s : State) : s.answer.round = s.round ∧ s.answer.plan = s.plan ∧ s.answer.port = s.port ∧
    s.answer.roster = { s.roster with answerSent := s.answer.roster.answerSent, answerOwed := s.answer.roster.answerOwed } := by
  have hsummary : s.queueSummary.roster = { s.roster with answerOwed := s.queueSummary.roster.answerOwed } := by
    have hqueue : (s.enqueue .summary).roster = s.roster := by simp
    unfold State.queueSummary
    split
    · rfl
    · rw [State.onRoster_roster, hqueue]
  unfold State.answer
  split
  · exact ⟨rfl, rfl, rfl, rfl⟩
  · split
    · exact ⟨rfl, rfl, rfl, rfl⟩
    · refine ⟨by simp, by simp, by simp, ?_⟩
      rw [State.onRoster_roster, hsummary]

/-- R24: inside the drive. -/
theorem answer_inside {s : State} (ho : s.round.phase.outside = false) : s.answer.roster.answerSent = true ∧
    s.answer.roster.answerOwed = s.roster.answerSent ∧
    (s.roster.answerSent = false → s.barred = false → RoomLeft s.bus.queue →
      ∃ g ∈ s.answer.bus.queue, g.body = .summary) := by
  unfold State.answer
  rw [ho, if_neg Bool.false_ne_true]
  split
  next hs => exact ⟨hs, hs.symm, fun h => by rw [hs] at h; simp at h⟩
  next hs =>
    refine ⟨rfl, ?_, fun _ hb hq => mem_queueSummary ho hb hq⟩
    rw [Bool.of_not_eq_true hs]
    simp [State.queueSummary, ho]

theorem answer_outside {s : State} (ho : s.round.phase.outside = true) : s.answer = s := by
  rw [State.answer, ho, if_pos rfl]

/-! ## The merge -/

/-- R17, R22, R25: the roster with its merged entries and the mismatch list. -/
def mergeWritten (m : MergeResult) (s : State) : State :=
  s.onRoster fun r => { r.withEntries s.now m.entries with mismatch := m.mismatch }

section
variable {items : List SummaryItem} {rs : List RosterEntry} {m : MergeResult} {s : State}

theorem mergeSummary_eq (hread : readEntries items = some rs) (hvalid : s.store.valid = true)
    (hlen : items.length = 3 * s.params.cells) (hm : m = mergeFrom s.ownedIndex s.now 1 rs s.roster.entries) :
    s.mergeSummary items = ((mergeWritten m s).handMerge m.changed).when (owesAnswer m.mismatch) State.answer := by
  rw [State.mergeSummary, hread, hm]
  exact if_pos ⟨hvalid, hlen⟩

/-- R16: a SUMMARY discarded. -/
theorem mergeSummary_discards
    (h : ¬(s.store.valid = true ∧ items.length = 3 * s.params.cells ∧ ∀ y ∈ items, InsideTable y)) :
    s.mergeSummary items = s := by
  unfold State.mergeSummary
  split
  next rs hread => exact if_neg fun hh => h ⟨hh.1, hh.2, (readEntries_isSome_iff items).mp ⟨rs, hread⟩⟩
  next => rfl

/-- R16 to R25: what a merge leaves. -/
structure Merged (m : MergeResult) (s r : State) : Prop where
  entries : r.roster.entries = m.entries
  mismatch : r.roster.mismatch = m.mismatch
  digest : r.roster.digest = rosterDigestOf m.entries
  digestChange : r.roster.digestChange =
    if rosterDigestOf m.entries = s.roster.digest then s.roster.digestChange else s.now
  diff : r.roster.diff = s.roster.diff
  silent : owesAnswer m.mismatch = false ∨ s.round.phase.outside = true →
    r.roster.answerSent = s.roster.answerSent ∧ r.roster.answerOwed = s.roster.answerOwed
  answers : owesAnswer m.mismatch = true → s.round.phase.outside = false →
    r.roster.answerSent = true ∧ r.roster.answerOwed = s.roster.answerSent ∧
    (s.roster.answerSent = false → s.barred = false → RoomLeft s.bus.queue → ∃ g ∈ r.bus.queue, g.body = .summary)
  round : r.round = ((mergeWritten m s).handMerge m.changed).round
  plan : r.plan = ((mergeWritten m s).handMerge m.changed).plan
  port : r.port = ((mergeWritten m s).handMerge m.changed).port
  store : r.store = s.store
  powered : r.powered = s.powered

theorem merged_mergeSummary (hread : readEntries items = some rs) (hvalid : s.store.valid = true)
    (hlen : items.length = 3 * s.params.cells) (hm : m = mergeFrom s.ownedIndex s.now 1 rs s.roster.entries)
    (ha : s.roster.authority = true ∨ s.round.phase.outside = true) : Merged m s (s.mergeSummary items) := by
  have hframe : (s.mergeSummary items).store = s.store ∧ (s.mergeSummary items).powered = s.powered := by simp
  rw [mergeSummary_eq hread hvalid hlen hm] at hframe ⊢
  obtain ⟨hroster, hout⟩ := handMerge_roster (l := m.changed) (s := mergeWritten m s) ha
  have hhanded := handed_handMerge m.changed (mergeWritten m s)
  generalize hz : (mergeWritten m s).handMerge m.changed = z at *
  have hout' : z.round.phase.outside = s.round.phase.outside := hout
  have hkeeps : ∀ c, (z.when c State.answer).round = z.round ∧ (z.when c State.answer).plan = z.plan ∧
      (z.when c State.answer).port = z.port ∧
      (z.when c State.answer).roster = { z.roster with
        answerSent := (z.when c State.answer).roster.answerSent
        answerOwed := (z.when c State.answer).roster.answerOwed } := fun c =>
    when_keeps (P := fun r : State => r.round = z.round ∧ r.plan = z.plan ∧ r.port = z.port ∧
      r.roster = { z.roster with answerSent := r.roster.answerSent, answerOwed := r.roster.answerOwed })
      ⟨rfl, rfl, rfl, rfl⟩ fun _ => answer_keeps z
  obtain ⟨h1, h2, h3, h4⟩ := hkeeps (owesAnswer m.mismatch)
  rw [hroster] at h4
  refine ⟨by rw [h4]; rfl, by rw [h4]; rfl, by rw [h4]; rfl, by rw [h4]; rfl, by rw [h4]; rfl, fun hno => ?_,
    fun howes hin => ?_, by rw [h1, hz], by rw [h2, hz], by rw [h3, hz], hframe.1, hframe.2⟩
  · have hstands : z.when (owesAnswer m.mismatch) State.answer = z := by
      rcases hno with hno | ho
      · rw [hno, State.when_false]
      · refine when_keeps (P := fun r : State => r = z) rfl fun _ => answer_outside (hout'.trans ho)
    rw [hstands, hroster]
    exact ⟨rfl, rfl⟩
  · obtain ⟨g1, g2, g3⟩ := answer_inside (s := z) (hout'.trans hin)
    rw [howes, State.when_true]
    refine ⟨g1, g2.trans (by rw [hroster]; rfl), fun hs hb hq => g3 (by rw [hroster]; exact hs) ?_ (hhanded.room hq)⟩
    rw [barred_inside (hout'.trans hin), hhanded.duplicate, fitted_congr (s := s) hhanded.store]
    rwa [barred_inside hin] at hb

end

end Sys2Proof.Proofs

/-! # A SUMMARY taken

PROOFS about SUMMARY_RECEIVED (R16 to R24, R29, R38): the roster once the frame's epoch is taken, and the entry change that
the merge hands on, phase by phase. -/

namespace Sys2Proof.Proofs

open Sys2Proof.Machine Sys2Proof.Safety

/-! ## The roster once a frame is taken -/

/-- R29, R54: the station `r` once a frame that trips no LOCKOUT is taken. -/
structure RosterHeard (s r : State) : Prop where
  table : SameTable r.roster s.roster
  now : r.now = s.now
  store : r.store = s.store
  outside : r.round.phase.outside = s.round.phase.outside
  duplicate : r.bus.duplicate = s.bus.duplicate
  kept : s.round.phase ≠ .isolated → r.roster = s.roster
  left : s.round.phase = .isolated → r.roster.authority = false
  room : s.round.phase.outside = false → RoomLeft s.bus.queue → RoomLeft r.bus.queue

theorem RosterHeard.trans {s r q : State} (h1 : RosterHeard s r) (h2 : RosterHeard r q)
    (hp : r.round.phase ≠ .isolated) : RosterHeard s q where
  table := by rw [h2.kept hp]; exact h1.table
  now := h2.now.trans h1.now
  store := h2.store.trans h1.store
  outside := h2.outside.trans h1.outside
  duplicate := h2.duplicate.trans h1.duplicate
  kept := fun h => (h2.kept hp).trans (h1.kept h)
  left := fun h => by rw [h2.kept hp]; exact h1.left h
  room := fun h hq => h2.room (h1.outside.trans h) (h1.room h hq)

theorem setEpoch_phase (e : Half) (s : State) : (s.setEpoch e).round.phase = s.round.phase := by
  by_cases he : e = s.round.epoch
  · rw [State.setEpoch, if_pos he]
  · rw [State.setEpoch_round he]

theorem rosterHeard_setEpoch {s : State} (e : Half) (hp : s.round.phase ≠ .isolated) : RosterHeard s (s.setEpoch e) where
  table := by simp [SameTable]
  now := by simp
  store := by simp
  outside := by rw [setEpoch_phase]
  duplicate := by simp
  kept := fun _ => by simp
  left := fun h => absurd h hp
  room := fun _ h => by simpa using h

/-- R54: ISOLATED left for JOINING. -/
theorem rosterHeard_joining {s : State} (hp : s.round.phase = .isolated) : RosterHeard s (s.enter .joining) := by
  obtain ⟨hround, hbus, -, hauth⟩ := enter_joining s
  have heq : s.enter .joining = (s.enterBase .joining).closeCmd := State.enter_of_stays _ _ rfl
  have hbase : (s.enterBase .joining).roster.authority = false := by
    rw [(enterBase_roster .joining s).2]
    rfl
  have hroster : (s.enter .joining).roster = (s.enterBase .joining).roster := by
    rw [heq]
    exact (closeCmd_keeps (.inl (by rw [State.ownedIndex, hbase]; rfl))).1
  have hout : s.round.phase.outside = true := by rw [hp]; rfl
  refine ⟨?_, by simp, by simp, ?_, ?_, fun h => absurd hp h, fun _ => hauth, fun h => by rw [hout] at h; simp at h⟩
  · rw [hroster]
    exact (enterBase_roster .joining s).1
  · rw [hround, hout]
    rfl
  · rw [hbus]
    rfl

/-- R29: the mark of a frame taken. -/
def frameMarked (s : State) : State := s.onRound fun r => { r with firstTaken := true }

theorem rosterHeard_frameMarked {s : State} (hp : s.round.phase ≠ .isolated) : RosterHeard s (frameMarked s) where
  table := .refl _
  now := rfl
  store := rfl
  outside := rfl
  duplicate := rfl
  kept := fun _ => rfl
  left := fun h => absurd h hp
  room := fun _ h => h

/-- R29: the epoch stored, and the frame marked. -/
theorem rosterHeard_stored {e : Half} {s : State} (hp : s.round.phase ≠ .isolated) :
    RosterHeard s ((frameMarked s).setEpoch e) :=
  (rosterHeard_frameMarked hp).trans (rosterHeard_setEpoch (s := frameMarked s) e hp) hp

/-- R29: catch-up enters TRIPPED. -/
theorem rosterHeard_tripped {s : State} (ho : s.round.phase.outside = false) (ha : s.roster.authority = true) :
    RosterHeard s (s.enterBase .tripped) := by
  have hroster : (s.enterBase .tripped).roster = s.roster := enterBase_roster_eq rfl ha fun h => by simp at h
  refine ⟨by rw [hroster]; exact .refl _, by simp, by simp, by rw [State.enterBase_round, ho]; rfl, by simp,
    fun _ => hroster, fun h => ?_, fun _ => roomLeft_enterBase .tripped⟩
  rw [h] at ho
  simp [Phase.outside] at ho

/-- R29: the frame's epoch taken, ISOLATED left before. -/
theorem rosterHeard_takeEpoch {f : Frame} {s : State} (hk : f.payload.kind = .summary) (hp : s.round.phase ≠ .isolated)
    (ha : s.roster.authority = true ∨ s.round.phase = .joining) : RosterHeard s (s.takeEpoch f) := by
  have hmarked := rosterHeard_frameMarked hp
  have hstored := rosterHeard_stored (e := f.epoch) hp
  unfold State.takeEpoch
  dsimp only
  split
  · split
    · exact hstored
    · exact hmarked
  next hj =>
    split
    · exact hmarked
    · split
      · exact hstored
      · have hadopt : State.adoptEpoch f (frameMarked s) = ((frameMarked s).setEpoch f.epoch).enterBase .tripped := by
          unfold State.adoptEpoch
          cases hpay : f.payload <;> simp_all [Payload.kind]
        have ho : s.round.phase.outside = false := by simp [Phase.outside, hj, hp]
        have hphase : ((frameMarked s).setEpoch f.epoch).round.phase = s.round.phase := setEpoch_phase ..
        have hroster : ((frameMarked s).setEpoch f.epoch).roster = s.roster := hstored.kept hp
        exact hadopt ▸ hstored.trans (rosterHeard_tripped (by rw [hphase]; exact ho)
          (by rw [hroster]; exact ha.resolve_right hj)) (by rw [hphase]; exact hp)

/-- R29, R54: the roster once a SUMMARY's epoch is taken. -/
theorem rosterHeard_takeFrame {f : Frame} {s : State} (hk : f.payload.kind = .summary)
    (ha : s.roster.authority = true ∨ s.round.phase = .joining ∨ s.round.phase = .isolated) :
    RosterHeard s (s.takeFrame f) := by
  have hround : (s.hear f).round = s.round := by simp
  have hroster : (s.hear f).roster = s.roster := by simp
  have hheard : RosterHeard (s.hear f) (s.takeFrame f) := by
    rw [State.takeFrame, State.endIsolation, State.enterIf]
    by_cases hi : (s.hear f).round.phase = .isolated
    · have hphase : ((s.hear f).enter .joining).round.phase = .joining := by rw [(enter_joining _).1]; rfl
      have hne : ((s.hear f).enter .joining).round.phase ≠ .isolated := by rw [hphase]; simp
      rw [hi, beq_self_eq_true, State.when_true]
      exact (rosterHeard_joining hi).trans (rosterHeard_takeEpoch hk hne (.inr hphase)) hne
    · rw [beq_eq_false_iff_ne.mpr hi, State.when_false]
      refine rosterHeard_takeEpoch hk hi ?_
      rw [hroster, hround]
      rw [hround] at hi
      rcases ha with h | h | h
      · exact .inl h
      · exact .inr h
      · exact absurd h hi
  obtain ⟨h1, h2, h3, h4, h5, h6, h7, h8⟩ := hheard
  rw [hround] at h4 h6 h7 h8
  rw [hroster] at h1 h6
  exact ⟨h1, h2.trans (by simp), h3.trans (by simp), h4, h5.trans (by simp), h6, h7, fun ho hq => h8 ho (roomLeft_hear hq)⟩

end Sys2Proof.Proofs

/-! # The entry change of a merge

PROOFS about the entry change that a merge hands on, phase by phase (R23, R38, R45, R65, R90), and SUMMARY_RECEIVED. -/

namespace Sys2Proof.Proofs

open Sys2Proof.Machine Sys2Proof.Safety

/-! ## The change by the phase -/

/-- R65: a change against the index `i` taken by the Plan Unit. -/
theorem planEntryChange_plan (i : Nat) (s : State) :
    (s.plan.build = .built ∨ s.plan.build = .finishing ∨ (s.plan.build = .walking ∧ i < s.plan.cursor) →
      (s.planEntryChange i).plan.build = .walking ∧ (s.planEntryChange i).plan.cursor = 1) ∧
    (s.plan.build = .none ∨ (s.plan.build = .walking ∧ s.plan.cursor ≤ i) → s.planEntryChange i = s) := by
  unfold State.planEntryChange
  split
  next hb => exact ⟨fun h => by simp [hb] at h, fun _ => rfl⟩
  next hb =>
    refine ⟨fun h => ?_, fun h => ?_⟩
    · rw [if_pos (by simpa [hb] using h)]
      exact ⟨rfl, rfl⟩
    · rw [if_neg (by simpa [hb] using h)]
  next hb => exact ⟨fun _ => ⟨rfl, rfl⟩, fun h => by simp [hb] at h⟩
  next hb => exact ⟨fun _ => ⟨rfl, rfl⟩, fun h => by simp [hb] at h⟩

/-- R63: the walk that REVISING starts with. -/
theorem enterBase_revising_walk {s : State} (hv : s.store.valid = true) :
    (s.enterBase .revising).plan.build = .walking ∧ (s.enterBase .revising).plan.cursor = 1 := by
  have hwalk : ∀ r : State, r.store = s.store → (r.walkOnEntry .revising).plan.build = .walking ∧
      (r.walkOnEntry .revising).plan.cursor = 1 := by
    intro r hr
    have hgo : r.walkOnEntry .revising = r.startWalk := by
      show r.when r.store.valid State.startWalk = _
      rw [hr, hv, State.when_true]
    rw [hgo]
    exact ⟨rfl, rfl⟩
  unfold State.enterBase
  exact hwalk _ (by simp)

/-- R90: an announced switch cancelled at the line station. -/
theorem cancelSwitch_port {s : State} (hl : s.isLine = true) :
    s.cancelSwitch.port.switchPending = none ∧ s.cancelSwitch.port.record = s.port.record ∧
    (s.port.switchPending.isSome = true → s.cancelSwitch.port.presented = none) ∧
    (s.port.switchPending = none → s.cancelSwitch.port = s.port) := by
  unfold State.cancelSwitch
  rw [hl, Bool.true_and]
  cases hp : s.port.switchPending with
  | none => exact ⟨hp, rfl, fun h => by simp at h, fun _ => rfl⟩
  | some w =>
    obtain ⟨h1, h2, h3⟩ := withdrawSwitch_holds s
    exact ⟨h1, h3, fun _ => h2, fun h => by simp at h⟩

/-- R38: the entry change of a merge from the index `i` on, taken at the time `now` by the station `s` with a frame marked. -/
structure MergeHanded (s : State) (now : Time) (i : Nat) (x : State) : Prop where
  stays : s.round.phase = .tripped ∨ s.round.phase = .lockout ∨ s.round.phase = .settling ∨ s.round.phase = .revising →
    x.round = { s.round with firstTaken := true }
  halted : s.round.phase = .halted → x.round.phase = .settling ∧ x.round.epoch = s.round.epoch ∧
    x.round.resettle = s.round.resettle ∧ x.plan.inForce = s.plan.inForce ∧
    x.round.phaseTimer = some (now + 1000 * s.params.settle)
  planning : s.round.phase = .planning → s.round.resettle ≤ s.params.resettle →
    x.round.resettle = s.round.resettle + 1 ∧ x.round.epoch = s.round.epoch ∧
    (s.round.resettle + 1 ≤ s.params.resettle → x.round.phase = .settling) ∧
    (s.params.resettle < s.round.resettle + 1 → x.round.phase = .lockout)
  defers : s.round.phase = .catching ∨ s.round.phase = .arming →
    x.round = { s.round with firstTaken := true, deferred := true }
  running : s.round.phase = .running → s.store.valid = true → x.round.phase = .revising ∧ x.round.epoch = s.round.epoch ∧
    x.plan.inForce = s.plan.inForce ∧ x.plan.build = .walking ∧ x.plan.cursor = 1 ∧
    x.round.phaseTimer = some (now + 1000 * s.params.revise)
  plan : s.round.phase = .revising ∨ s.round.phase = .settling → x.plan.inForce = s.plan.inForce ∧
    (s.plan.build = .built ∨ s.plan.build = .finishing ∨ (s.plan.build = .walking ∧ i < s.plan.cursor) →
      x.plan.build = .walking ∧ x.plan.cursor = 1) ∧
    (s.plan.build = .none ∨ (s.plan.build = .walking ∧ s.plan.cursor ≤ i) → x.plan = s.plan)
  port : s.round.phase = .revising → s.isLine = true → x.port.switchPending = none ∧ x.port.record = s.port.record ∧
    (s.port.switchPending.isSome = true → x.port.presented = none) ∧ (s.port.switchPending = none → x.port = s.port)

theorem mergeHanded {s y : State} {now : Time} {i : Nat} (hround : y.round = { s.round with firstTaken := true })
    (hplan : y.plan = s.plan) (hport : y.port = s.port) (hnow : y.now = now) (hstore : y.store = s.store) :
    MergeHanded s now i (y.handChange .merge i) := by
  have hkept : (y.planEntryChange i).round = y.round ∧ (y.planEntryChange i).port = y.port ∧
      (y.planEntryChange i).now = y.now ∧ (y.planEntryChange i).store = y.store := by simp
  obtain ⟨hwalks, hstands⟩ := planEntryChange_plan i y
  have hin := planEntryChange_inForce i y
  obtain ⟨h1, h2, h3, h4⟩ := hkept
  rw [State.handChange]
  have hsame : (s.plan.build = .none ∨ (s.plan.build = .walking ∧ s.plan.cursor ≤ i)) →
      (y.planEntryChange i).plan = s.plan := fun h => by rw [hstands (by rw [hplan]; exact h), hplan]
  rw [hplan] at hwalks hin
  clear hstands
  generalize y.planEntryChange i = z at *
  rw [hround] at h1
  have hphase : z.round.phase = s.round.phase := by rw [h1]
  have hparams : z.params = s.params := State.params_congr (h4.trans hstore)
  have hcancel : ∀ r : State, r.cancelSwitch.round = r.round ∧ r.cancelSwitch.plan = r.plan := fun r => by simp
  constructor
  case stays =>
    rintro (h | h | h | h)
    all_goals
      rw [h] at hphase
      unfold State.entryChange
      simp only [hphase]
    · exact h1
    · exact h1
    · exact h1
    · rw [if_neg (by simp), (hcancel z).1]
      exact h1
  case halted =>
    intro h
    rw [entryChange_halted (hphase.trans h), enterBase_inForce rfl, State.enterBase_round, h1, hin, h3, hnow, hparams]
    exact ⟨rfl, rfl, rfl, rfl, rfl⟩
  case planning =>
    intro h hle
    have heq : z.entryChange .merge = z.resettle := by
      unfold State.entryChange
      simp only [hphase.trans h]
    obtain ⟨g1, g2, g3, g4⟩ := resettle_round (s := z) (by rw [h1, hparams]; exact hle)
    rw [h1, hparams] at g3 g4
    rw [h1] at g1 g2
    rw [heq]
    exact ⟨g1, g2, fun h => (g3 h).1, fun h => (g4 h).1⟩
  case defers =>
    have hdefer : z.entryChange .merge = z.onRound (fun r => { r with deferred := true }) →
        (z.entryChange .merge).round = { s.round with firstTaken := true, deferred := true } := fun h => by
      rw [h, State.onRound_round, h1]
    rintro (h | h)
    · exact hdefer (by unfold State.entryChange; simp only [hphase.trans h])
    · exact hdefer (by unfold State.entryChange; simp only [hphase.trans h])
  case running =>
    intro h hv
    obtain ⟨g1, g2⟩ := enterBase_revising_walk (s := z) (by rw [h4, hstore]; exact hv)
    rw [entryChange_running (by simp) (hphase.trans h), enterBase_inForce rfl, State.enterBase_round, h1, hin, h3, hnow,
      hparams]
    exact ⟨rfl, rfl, rfl, g1, g2, rfl⟩
  case plan =>
    intro h
    have heq : (z.entryChange .merge).plan = z.plan := by
      rcases h with h | h
      · rw [entryChange_revising (by simp) (hphase.trans h), (hcancel z).2]
      · unfold State.entryChange
        simp only [hphase.trans h]
    rw [heq]
    exact ⟨hin, hwalks, hsame⟩
  case port =>
    intro h hl
    have hz : z.port = s.port := h2.trans hport
    obtain ⟨g1, g2, g3, g4⟩ := cancelSwitch_port (s := z) ((isLine_congr (h4.trans hstore)).trans hl)
    rw [hz] at g2 g3 g4
    rw [entryChange_revising (by simp) (hphase.trans h)]
    exact ⟨g1, g2, g3, g4⟩

/-! ## SUMMARY_RECEIVED -/

theorem owesAnswer_iff (l : List (Nat × Verdict)) : owesAnswer l = true ↔ ∃ p ∈ l, p.2 ≠ .theirsNewer := by
  simp [owesAnswer]

/-- R29: a SUMMARY from another station. -/
theorem exec_summaryReceived {t : Time} {x : Transmission} {f : Frame} {items : List SummaryItem} {s : State}
    (hr : s.runs = true) (hx : examineKind .summary x = some f) (hpay : f.payload = .summary items)
    (hf : f.station.toNat ≠ s.number) :
    exec (.summaryReceived t x) s = .next ((((s.advance t).takeFrame f).clearDiff).mergeSummary items) := by
  have h : exec (.summaryReceived t x) s = .next ((s.advance t).takeSummary f) := exec_receivedOf (k := .summary) hr hx hf
  rw [h, State.takeSummary, hpay]

/-- R8, R29: the index owned once the frame is taken. -/
theorem RosterHeard.owned {s r : State} (h : RosterHeard s r) :
    r.ownedIndex = if s.round.phase = .isolated then none else s.ownedIndex := by
  split
  next hi =>
    rw [State.ownedIndex, h.left hi]
    rfl
  next hi => rw [State.ownedIndex, State.ownedIndex, h.kept hi, State.ownIndex_congr h.store]

/-- R22: the verdicts of the merge, index by index. -/
theorem mismatch_iff {own : Option Nat} {now : Time} {rs hs : List RosterEntry} {i : Nat} {r h : RosterEntry}
    (hr : rs[i]? = some r) (hh : hs[i]? = some h) (v : Verdict) :
    (i + 1, v) ∈ (mergeFrom own now 1 rs hs).mismatch ↔ (mergeEntry (own == some (i + 1)) now r h).2 = some v := by
  rw [mem_mergeFrom_mismatch]
  constructor
  · rintro ⟨k, r', h', x, hk, ⟨hr', hh', rfl⟩, hv⟩
    obtain rfl : k = i := by omega
    obtain rfl := Option.some.inj (hr.symm.trans hr')
    obtain rfl := Option.some.inj (hh.symm.trans hh')
    rwa [show 1 + k = k + 1 by omega] at hv
  · intro hv
    exact ⟨i, r, h, _, by omega, ⟨hr, hh, rfl⟩, by rwa [show 1 + i = i + 1 by omega]⟩

end Sys2Proof.Proofs

/-! # A SUMMARY merged or discarded whole

PROOFS about SUMMARY_RECEIVED (R16 to R25, R29, R38), from the lemmas on the merge and on what it hands on. -/

namespace Sys2Proof.Proofs

open Sys2Proof.Machine Sys2Proof.Safety

/-- R27, R29: the station that merges: the frame's epoch taken, every digest-difference count at 0. -/
structure MergeReady (now : Time) (s q : State) : Prop where
  table : SameTable q.roster s.roster
  diff : q.roster.diff = List.replicate 28 0
  now : q.now = now
  store : q.store = s.store
  outside : q.round.phase.outside = s.round.phase.outside
  authority : q.roster.authority = true ∨ q.round.phase.outside = true
  flags : s.round.phase ≠ .isolated →
    q.roster.answerSent = s.roster.answerSent ∧ q.roster.answerOwed = s.roster.answerOwed
  owned : q.ownedIndex = if s.round.phase = .isolated then none else s.ownedIndex
  barred : s.round.phase.outside = false → s.barred = false → q.barred = false
  room : s.round.phase.outside = false → s.bus.queue.length ≤ 4 → RoomLeft q.bus.queue

/-- R29: the phases inside the drive keep what they are at an epoch not newer. -/
structure MergeKept (s q : State) : Prop where
  round : q.round = { s.round with firstTaken := true }
  plan : q.plan = s.plan
  port : q.port = s.port

theorem mergeReady {t : Time} {f : Frame} {s : State} (hk : f.payload.kind = .summary)
    (ha : s.roster.authority = true ∨ s.round.phase = .joining ∨ s.round.phase = .isolated) :
    MergeReady (max s.now t) s ((s.advance t).takeFrame f).clearDiff := by
  have hheard := rosterHeard_takeFrame (f := f) (s := s.advance t) hk ha
  have howned := hheard.owned
  have hadvance : (s.advance t).roster = s.roster ∧ (s.advance t).round = s.round ∧ (s.advance t).store = s.store ∧
      (s.advance t).bus.duplicate = s.bus.duplicate ∧ (s.advance t).bus.queue = s.bus.queue ∧
      (s.advance t).now = max s.now t := by simp
  obtain ⟨a1, a2, a3, a4, a5, a6⟩ := hadvance
  have hindex : (s.advance t).ownedIndex = s.ownedIndex := rfl
  rw [hindex, a2] at howned
  obtain ⟨h1, h2, h3, h4, h5, h6, h7, h8⟩ := hheard
  rw [a2] at h4 h6 h7 h8
  rw [a1] at h1 h6
  generalize (s.advance t).takeFrame f = r at *
  have hauthority : r.roster.authority = true ∨ r.round.phase.outside = true := by
    rcases ha with ha | ha | ha
    · by_cases hi : s.round.phase = .isolated
      · exact .inr (by rw [h4, hi]; rfl)
      · exact .inl (by rw [h6 hi]; exact ha)
    · exact .inr (by rw [h4, ha]; rfl)
    · exact .inr (by rw [h4, ha]; rfl)
  refine ⟨h1, rfl, h2.trans a6, h3.trans a3, h4, hauthority, fun hi => ?_, howned, fun ho hb => ?_, fun ho hq => ?_⟩
  · show r.roster.answerSent = _ ∧ r.roster.answerOwed = _
    rw [h6 hi]
    exact ⟨rfl, rfl⟩
  · show r.barred = false
    rw [barred_inside (h4.trans ho), h5, a4, fitted_congr (h3.trans a3)]
    rwa [barred_inside ho] at hb
  · exact h8 ho (.inl (by rw [a5]; exact hq))

theorem mergeKept {t : Time} {f : Frame} {s : State} (hj : s.round.phase ≠ .joining) (hi : s.round.phase ≠ .isolated)
    (hn : epochNewer f.epoch s.round.epoch = false) : MergeKept s ((s.advance t).takeFrame f).clearDiff := by
  have hheard := frameHeard_hear t f s
  rw [State.takeFrame_not_newer (s := s.advance t) hj hi hn]
  exact ⟨hheard.round, hheard.plan, hheard.port⟩

/-- R22 to R25: what a SUMMARY merged leaves of the roster, `own` the index owned. -/
theorem merged_roster {now : Time} {items : List SummaryItem} {rs : List RosterEntry} {own : Option Nat} {m : MergeResult}
    {s q r : State} (hready : MergeReady now s q) (hread : readEntries items = some rs)
    (hm : m = mergeFrom own now 1 rs s.roster.entries) (hmerged : Merged m q r) :
    r.roster.entries.length = s.roster.entries.length ∧
    (∀ i y x h, items[i]? = some y → ItemCarries y x → s.roster.entries[i]? = some h →
      r.roster.entries[i]? = some (mergeEntry (own == some (i + 1)) now x h).1 ∧
      ∀ v, (i + 1, v) ∈ r.roster.mismatch ↔ (mergeEntry (own == some (i + 1)) now x h).2 = some v) ∧
    r.roster.mismatch.Pairwise (fun p q => p.1 < q.1) ∧ r.roster.digest = rosterDigestOf r.roster.entries ∧
    r.roster.digestChange = (if r.roster.digest = s.roster.digest then s.roster.digestChange else now) := by
  obtain ⟨-, hdigest, hchange, -⟩ := hready.table
  rw [hmerged.entries, hmerged.mismatch, hmerged.digest, hmerged.digestChange, hdigest, hchange, hready.now, hm]
  refine ⟨mergeFrom_length 1, fun i y x h hy hx hh => ?_, mergeFrom_mismatch_rises 1, rfl, rfl⟩
  obtain ⟨z, hz, hcarries⟩ := readEntries_getElem? hread hy
  have hcontent : mergeEntry (own == some (i + 1)) now x h = mergeEntry (own == some (i + 1)) now z h := by
    rw [itemCarries_unique hx hcarries, mergeEntry_silentSince]
  rw [hcontent]
  refine ⟨mergeFrom_entries ⟨hz, hh, ?_⟩, mismatch_iff hz hh⟩
  rw [show 1 + i = i + 1 by omega]

/-- R24: the answer that a merge owes. -/
theorem merged_answers {now : Time} {m : MergeResult} {s q r : State} (hready : MergeReady now s q) (hmerged : Merged m q r)
    {owes : Prop} (howes : owes ↔ ∃ p ∈ r.roster.mismatch, p.2 ≠ .theirsNewer) (hi : s.round.phase ≠ .isolated) :
    (¬owes ∨ s.round.phase = .joining →
      r.roster.answerSent = s.roster.answerSent ∧ r.roster.answerOwed = s.roster.answerOwed) ∧
    (owes → s.round.phase ≠ .joining → r.roster.answerSent = true ∧ r.roster.answerOwed = s.roster.answerSent ∧
      (s.roster.answerSent = false → s.barred = false → s.bus.queue.length ≤ 4 →
        ∃ g ∈ r.bus.queue, g.body = .summary)) := by
  obtain ⟨hsent, howed⟩ := hready.flags hi
  rw [hmerged.mismatch, ← owesAnswer_iff] at howes
  refine ⟨fun h => ?_, fun h hj => ?_⟩
  · obtain ⟨h1, h2⟩ := hmerged.silent (by
      rcases h with h | h
      · exact .inl (Bool.of_not_eq_true fun hh => h (howes.mpr hh))
      · exact .inr (by rw [hready.outside, h]; rfl))
    exact ⟨h1.trans hsent, h2.trans howed⟩
  · have hin : s.round.phase.outside = false := by simp [Phase.outside, hj, hi]
    obtain ⟨h1, h2, h3⟩ := hmerged.answers (howes.mp h) (hready.outside.trans hin)
    exact ⟨h1, h2.trans hsent, fun hs hb hq => h3 (hsent.trans hs) (hready.barred hin hb) (hready.room hin hq)⟩

/-- R23, R38: what the merge hands on. -/
theorem merged_hands {now : Time} {m : MergeResult} {s q r : State} (hready : MergeReady now s q) (hkept : MergeKept s q)
    (hmerged : Merged m q r) :
    (m.changed = [] → r.round = { s.round with firstTaken := true } ∧ r.plan = s.plan ∧ r.port = s.port) ∧
    (∀ i l, m.changed = i :: l → MergeHanded s now i r) := by
  refine ⟨fun hnone => ?_, fun i l hl => ?_⟩
  · rw [hmerged.round, hmerged.plan, hmerged.port, hnone]
    exact ⟨hkept.round, hkept.plan, hkept.port⟩
  · have hhanded := mergeHanded (s := s) (y := mergeWritten m q) (now := now) (i := i) hkept.round hkept.plan hkept.port
      hready.now hready.store
    have heq : (mergeWritten m q).handMerge m.changed = (mergeWritten m q).handChange .merge i := by rw [hl]; rfl
    rw [← heq] at hhanded
    obtain ⟨h1, h2, h3, h4, h5, h6, h7⟩ := hhanded
    simp only [← hmerged.round, ← hmerged.plan, ← hmerged.port] at h1 h2 h3 h4 h5 h6 h7
    exact ⟨h1, h2, h3, h4, h5, h6, h7⟩

/-- Settles O23: a SUMMARY discarded whole, or merged entry by entry and handed on as one change. -/
theorem summaryIsMergedOrDiscardedWhole : Obligations.SummaryIsMergedOrDiscardedWhole := by
  refine ⟨fun es => ?_, fun t x f items s merged own hr hx hpay hf hmerged hown ha => ?_⟩
  · rw [rosterDigestOf, funext Laws.entryBytes_eq]
  have hkind : f.payload.kind = .summary := by rw [hpay]; rfl
  have hready := mergeReady (t := t) hkind ha
  have hkept := fun hj hi hn => mergeKept (t := t) (f := f) (s := s) hj hi hn
  rw [exec_summaryReceived hr hx hpay hf]
  generalize ((s.advance t).takeFrame f).clearDiff = q at *
  have hparams : q.params = s.params := State.params_congr hready.store
  refine ⟨_, rfl, ?_⟩
  by_cases hm : merged
  case neg =>
    have hdiscards : q.mergeSummary items = q := mergeSummary_discards fun h => hm (hmerged.mpr (by
      rw [hready.store, hparams] at h
      exact h))
    obtain ⟨h1, h2, h3, h4⟩ := hready.table
    rw [hdiscards]
    exact ⟨hready.diff, fun _ => ⟨h1, h4, h2, h3, hready.flags, fun hj hi hn =>
      have h := hkept hj hi hn
      ⟨h.round, h.plan, h.port⟩⟩, fun h => absurd h hm⟩
  case pos =>
    obtain ⟨hvalid, hlen, hinside⟩ := hmerged.mp hm
    obtain ⟨rs, hread⟩ := (readEntries_isSome_iff items).mpr hinside
    have hentries : q.roster.entries = s.roster.entries := hready.table.1
    have htaken := merged_mergeSummary (s := q) (m := mergeFrom own (max s.now t) 1 rs s.roster.entries) hread
      (by rw [hready.store]; exact hvalid) (by rw [hparams]; exact hlen)
      (by rw [hown, ← hready.owned, hready.now, hentries]) hready.authority
    generalize q.mergeSummary items = r at *
    obtain ⟨h1, h2, h3, h4, h5⟩ := merged_roster hready hread rfl htaken
    refine ⟨htaken.diff.trans hready.diff, fun hno => absurd hm hno, fun _ => ⟨fun rs' hrs' => ?_, h1, h2, h3, h4, h5,
      fun owes howes hi => merged_answers hready htaken howes hi, fun changed hchanged hj hi hn => ?_⟩⟩
    · obtain rfl := Option.some.inj (hread.symm.trans hrs')
      exact ⟨htaken.entries, htaken.mismatch⟩
    · obtain ⟨hnone, hsome⟩ := merged_hands hready (hkept hj hi hn) htaken
      have hmem : ∀ i, changed i ↔ i + 1 ∈ (mergeFrom own (max s.now t) 1 rs s.roster.entries).changed := fun i => by
        rw [hchanged, htaken.entries, mem_changed_iff]
      have hpositive : ∀ i ∈ (mergeFrom own (max s.now t) 1 rs s.roster.entries).changed, ∃ k, i = k + 1 := fun i hi => by
        obtain ⟨k, -, -, -, rfl, -⟩ := mem_mergeFrom_changed.mp hi
        exact ⟨k, by omega⟩
      refine ⟨fun hno => hnone (List.eq_nil_iff_forall_not_mem.mpr fun i hi => ?_), fun j hcj => ?_⟩
      · obtain ⟨k, rfl⟩ := hpositive i hi
        exact hno k ((hmem k).mpr hi)
      · cases hl : (mergeFrom own (max s.now t) 1 rs s.roster.entries).changed with
        | nil =>
          have hj := (hmem j).mp hcj
          rw [hl] at hj
          simp at hj
        | cons i l =>
          obtain ⟨g1, g2, g3, g4, g5, g6, g7⟩ := hsome i l hl
          have hlow : i ≤ j + 1 := mergeFrom_changed_lowest hl ((hmem j).mp hcj)
          refine ⟨g1, g2, g3, g4, fun h => g5 h hvalid, fun h => ?_, fun h hline => ?_⟩
          · obtain ⟨hin, hwalks, hstands⟩ := g6 h
            refine ⟨hin, fun hb => hwalks ?_, fun hb => hstands ?_⟩
            · exact hb.imp_right (Or.imp_right fun hb => ⟨hb.1, by omega⟩)
            · refine hb.imp_right fun hb => ⟨hb.1, ?_⟩
              obtain ⟨k, rfl⟩ := hpositive i (by rw [hl]; exact List.mem_cons_self)
              exact hb.2 k ((hmem k).mpr (by rw [hl]; exact List.mem_cons_self))
          · obtain ⟨hpending, hrecord, hpresented, hport⟩ := g7 h hline
            exact ⟨hpending, by rw [State.reviseOut, hpending, Option.isSome_none, Bool.and_false], hrecord, hpresented,
              hport⟩

end Sys2Proof.Proofs

/-! # A STATE heard, and the tests that follow it

PROOFS: SUPPORT. What marks, the loss of the line station and the phase tests leave of the digest-difference counts and of the
line station's presence; what a STATE just heard means for voters, marks and agreement (R12, R27, R31, R32, R43). -/

namespace Sys2Proof.Proofs

open Sys2Proof.Machine Sys2Proof.Safety

/-! ## The digest-difference counts and the line station's presence -/

/-- Changes that write neither the digest-difference counts nor the line station's presence. -/
abbrev Scope.unnoted : Scope := ⟨False, False⟩

/-- R27, R32: the digest-difference counts, line lost and line present. -/
def Noted (d : List Nat) (lost present : Bool) (s : State) : Prop :=
  s.roster.diff = d ∧ s.round.lineLost = lost ∧ s.round.linePresent = present

section
variable {d : List Nat} {lost present : Bool}

theorem noted_setEpoch {s : State} (e : Half) (hs : Noted d lost present s) : Noted d lost present (s.setEpoch e) := by
  obtain ⟨h1, h2⟩ := hs
  refine ⟨by simpa using h1, ?_⟩
  by_cases he : e = s.round.epoch
  · rwa [State.setEpoch, if_pos he]
  · rwa [State.setEpoch_round he]

theorem noted_blocksOnEntry {s : State} {p : Phase} (hp : p.outside = false) (hs : Noted d lost present s) :
    Noted d lost present (s.blocksOnEntry p) := by
  have hroster : (s.blocksOnEntry p).roster = Roster.onEntry p s.roster := by simp [State.blocksOnEntry]
  obtain ⟨h1, h2, h3⟩ := hs
  refine ⟨?_, by rw [blocksOnEntry_round]; exact h2, by rw [blocksOnEntry_round]; exact h3⟩
  rw [hroster, Roster.onEntry, hp]
  exact h1

theorem noted_keptByPartsIn : KeptByPartsIn .unnoted (Noted d lost present) := by
  constructor
  case roster =>
    rintro s f - hdiff ⟨h1, h2⟩
    exact ⟨(hdiff.resolve_right id).trans h1, h2⟩
  case round =>
    rintro s f - - - - - - hkept ⟨h1, h2, h3⟩
    obtain ⟨hl, hp⟩ := hkept.resolve_right id
    exact ⟨h1, hl.trans h2, hp.trans h3⟩
  case planEntryChange =>
    intro s i hs
    simpa [Noted] using hs
  case blocks => exact fun p _ ho hs => noted_blocksOnEntry (by simpa using ho) hs
  case setEpochCleared => exact fun e _ hs => noted_setEpoch e hs
  all_goals
    intros
    assumption

/-- R27, R32: an operation that neither counts a difference nor checks presence leaves both. -/
theorem noted_keptIn : KeptIn .unnoted (Noted d lost present) := noted_keptByPartsIn.kept noted_setEpoch fun _ hr => hr

end

/-! ## The sender of a STATE just heard -/

/-- R156: the latest word of the station `n`, another one, is the STATE `h`, heard at this moment. -/
structure Shown (n : Nat) (h : HeardState) (s : State) : Prop where
  status : (s.heardAt n).status = .heard
  state : (s.heardAt n).state = some h
  time : h.time = s.now
  other : n ≠ s.number
  quiet : 0 < s.quietTime

section
variable {n : Nat} {h : HeardState} {s r : State}

theorem heardAt_congr (hb : r.bus.heard = s.bus.heard) (n : Nat) : r.heardAt n = s.heardAt n := by
  rw [State.heardAt, State.heardAt, hb]

theorem quietTime_congr (hst : r.store = s.store) : r.quietTime = s.quietTime := by
  rw [State.quietTime, State.quietTime, State.report, State.report, State.params_congr hst]

theorem Shown.congr (hs : Shown n h s) (hb : r.bus.heard = s.bus.heard) (hn : r.now = s.now) (hst : r.store = s.store) :
    Shown n h r where
  status := by rw [heardAt_congr hb, hs.status]
  state := by rw [heardAt_congr hb, hs.state]
  time := hs.time.trans hn.symm
  other := by rw [number_congr hst]; exact hs.other
  quiet := by rw [quietTime_congr hst]; exact hs.quiet

/-- R31: whether the STATE just heard makes its sender a voter. -/
theorem Shown.isVoter (hs : Shown n h s) : s.isVoter n = (!h.phase.outside && h.cfgDigest == s.store.digest) := by
  rw [State.isVoter, decide_eq_true hs.other, Bool.true_and, hs.state]
  simp [hs.time, hs.quiet]

/-- R12: the sender of a STATE with the own config digest is not absent. -/
theorem Shown.silenceCheckOf (hs : Shown n h s) (hc : h.cfgDigest = s.store.digest) : s.silenceCheckOf n = s := by
  have hpresent : s.ownerAbsent n = false := by simp [State.ownerAbsent, hs.status, hs.state, hc]
  have hindex : ∀ i, (stationOfIndex s.params.cells i == n) = true → s.checkIndex i = s := by
    intro i hi
    rw [State.checkIndex, State.toMark, beq_iff_eq.mp hi, hpresent, Bool.and_false, State.when_false]
  refine when_keeps (P := fun r => r = s) rfl fun _ => ?_
  unfold State.checkIndices
  generalize hl : ((List.range (3 * s.params.cells)).map (· + 1)).filter (fun i => stationOfIndex s.params.cells i == n) = l
  have hall : ∀ i ∈ l, s.checkIndex i = s := fun i hi => by
    rw [← hl] at hi
    exact hindex i (List.mem_filter.mp hi).2
  clear hl
  induction l with
  | nil => rfl
  | cons i l ih =>
    rw [List.foldl_cons, hall i (List.mem_cons_self ..)]
    exact ih fun j hj => hall j (List.mem_cons_of_mem _ hj)

/-- R1, R12: the line station owns no index. -/
theorem silenceCheckOf_line (s : State) : s.silenceCheckOf 0 = s := by
  have hpos : ∀ m i, 1 ≤ i → stationOfIndex m i ≠ 0 := by
    intro m i hi
    have := Nat.div_mul_le_self (i - 1) m
    unfold stationOfIndex stationOfCell posOfIndex phaseOfIndex
    omega
  have hnone : ((List.range (3 * s.params.cells)).map (· + 1)).filter
      (fun i => stationOfIndex s.params.cells i == 0) = [] := by
    rw [List.filter_eq_nil_iff]
    intro i hi
    obtain ⟨k, -, rfl⟩ := List.mem_map.mp hi
    simpa using hpos s.params.cells (k + 1) (by omega)
  refine when_keeps (P := fun r => r = s) rfl fun _ => ?_
  rw [hnone]
  rfl

/-- R43: what roster agreement is read from. -/
theorem rosterAgreed_congr (hb : r.bus.heard = s.bus.heard) (hn : r.now = s.now) (hst : r.store = s.store)
    (he : r.round.epoch = s.round.epoch) (hd : r.roster.digest = s.roster.digest)
    (hc : r.roster.digestChange = s.roster.digestChange) : r.rosterAgreed = s.rosterAgreed := by
  have hvoter : r.isVoter = s.isVoter := by
    funext m
    rw [State.isVoter, State.isVoter, heardAt_congr hb, number_congr hst, quietTime_congr hst, hn, hst]
  have hreport : r.report = s.report := by rw [State.report, State.report, State.params_congr hst]
  have hheard : r.heardAt = s.heardAt := funext (heardAt_congr hb)
  rw [State.rosterAgreed, State.rosterAgreed, State.present, State.present, State.digestStable, State.digestStable,
    State.everyVoter, State.everyVoter, State.voters, State.voters, hvoter, isLine_congr hst, hd, hc, he, hn, hreport, hheard]

/-- R43: a voter that shows another epoch or another digest stands against roster agreement. -/
theorem Shown.not_rosterAgreed (hs : Shown n h s) (hn : n < 28) (ho : h.phase.outside = false)
    (hc : h.cfgDigest = s.store.digest) (hne : h.epoch ≠ s.round.epoch ∨ h.rosterDigest ≠ s.roster.digest) :
    s.rosterAgreed = false := by
  have hvoter : s.isVoter n = true := by simp [hs.isVoter, ho, hc]
  rw [← Bool.not_eq_true]
  intro hagreed
  simp only [State.rosterAgreed, State.everyVoter, State.voters, Bool.and_eq_true, List.all_eq_true] at hagreed
  have h1 := hagreed.2 n (List.mem_filter.mpr ⟨List.mem_range.mpr hn, hvoter⟩)
  rw [hs.state] at h1
  simp only [Bool.and_eq_true, beq_iff_eq] at h1
  exact hne.elim (fun h => h h1.1) fun h => h h1.2

/-- R43, R46, R83: where no agreement changes the phase, the tests touch the Line Port alone. -/
theorem testAgreement_stands (hp : s.round.phase ≠ .planning) (ha : s.round.phase = .settling → s.rosterAgreed = false) :
    s.testAgreement.round = s.round ∧ s.testAgreement.plan = s.plan ∧ s.testAgreement.roster = s.roster ∧
    s.testAgreement.bus = s.bus := by
  unfold State.testAgreement
  split
  next h =>
    rw [State.enterIf, ha h, State.when_false]
    exact ⟨rfl, rfl, rfl, rfl⟩
  next h => exact absurd h hp
  next => simp
  next => exact ⟨rfl, rfl, rfl, rfl⟩

theorem testCatching_of_not (hp : s.round.phase ≠ .catching) : s.testCatching = s := by
  rw [State.testCatching, beq_eq_false_iff_ne.mpr hp, State.when_false]

end

end Sys2Proof.Proofs

/-! # A STATE that shows a voter

PROOFS about a STATE of the own configuration from within the drive (R27, R31, R43, R46, R57, R168): the LOCKOUT it spreads, the
digest-difference count, the line station's presence and roster agreement. -/

namespace Sys2Proof.Proofs

open Sys2Proof.Machine Sys2Proof.Safety

/-! ## A LOCKOUT spread -/

/-- R57: the STATE spreads LOCKOUT. -/
def Spreads (h : HeardState) (s : State) : Prop :=
  h.phase = .lockout ∧ h.epoch = s.round.epoch ∧ s.round.phase.dropsAlarm = false ∧
    ∀ u ∈ s.round.lockoutClear, u + 2 * s.report ≤ s.now

theorem spreadLockout_of_spreads {h : HeardState} {s : State} (hs : Spreads h s) :
    s.spreadLockout h = s.enterBase .lockout := by
  obtain ⟨h1, h2, h3, h4⟩ := hs
  cases hc : s.round.lockoutClear with
  | none => simp [State.spreadLockout, hc, h1, h2, h3]
  | some t =>
    have hpast : ¬s.now < t + 2 * s.report := Nat.not_lt.mpr (h4 t (by simp [hc]))
    simp [State.spreadLockout, hc, h1, h2, h3, hpast]

theorem spreadLockout_of_not {h : HeardState} {s : State} (hs : ¬Spreads h s) : s.spreadLockout h = s := by
  refine when_keeps (P := fun r => r = s) rfl fun hgo => absurd ?_ hs
  simp only [Bool.and_eq_true, Bool.not_eq_true', beq_iff_eq] at hgo
  obtain ⟨⟨⟨h1, h2⟩, h3⟩, h4⟩ := hgo
  refine ⟨h1, h2, h3, fun u hu => ?_⟩
  rw [Option.mem_def.mp hu] at h4
  simpa using h4

theorem spreadLockout_lockout {h : HeardState} {s : State} (hp : s.round.phase = .lockout) : s.spreadLockout h = s :=
  spreadLockout_of_not fun hs => by
    obtain ⟨-, -, h3, -⟩ := hs
    simp [hp, Phase.dropsAlarm] at h3

/-- R57, R168: a STATE that spreads LOCKOUT. -/
theorem stateTaken_spreads {n : Nat} {h : HeardState} {s : State} (hs : Spreads h s) :
    Idles (s.enterBase .lockout) (s.stateTaken n h) := by
  have hphase : (s.enterBase .lockout).round.phase = .lockout := by rw [State.enterBase_round]; rfl
  have heq : s.stateTaken n h = (s.enterBase .lockout).stateTaken n h := by
    rw [State.stateTaken, State.stateTaken, spreadLockout_of_spreads hs, spreadLockout_lockout hphase]
  rw [heq]
  exact idles_stateTaken (.inr (.inl hphase)) fun ht => by rw [hphase] at ht; simp at ht

/-! ## The difference counted -/

section
variable {n : Nat} {h : HeardState} {s : State}

/-- The LOCKOUT spread and the difference counted. -/
def counted (n : Nat) (h : HeardState) (s : State) : State := (s.spreadLockout h).countDifference n h

theorem sameTable_countDifference (n : Nat) (h : HeardState) (s : State) :
    SameTable (s.countDifference n h).roster s.roster := by
  unfold State.countDifference
  split
  · exact .refl _
  · split
    · split
      · exact ⟨rfl, rfl, rfl, rfl⟩
      · exact sameTable_queueSummary s
    · exact ⟨rfl, rfl, rfl, rfl⟩

/-- R30, R57: the spread keeps the drive. -/
theorem spreadLockout_outside (ho : s.round.phase.outside = false) : (s.spreadLockout h).round.phase.outside = false :=
  when_keeps (P := fun r : State => r.round.phase.outside = false) ho fun _ => by rw [State.enterBase_round]; rfl

theorem spreadLockout_epoch : (s.spreadLockout h).round.epoch = s.round.epoch :=
  when_keeps (P := fun r : State => r.round.epoch = s.round.epoch) rfl fun _ => by rw [State.enterBase_round]; rfl

theorem sameTable_spreadLockout : SameTable (s.spreadLockout h).roster s.roster :=
  when_keeps (P := fun r : State => SameTable r.roster s.roster) (.refl _) fun _ => (enterBase_roster .lockout s).1

theorem spreadLockout_diff : (s.spreadLockout h).roster.diff = s.roster.diff :=
  when_keeps (P := fun r : State => r.roster.diff = s.roster.diff) rfl fun _ =>
    (noted_keptIn.enterBase .lockout nofun (s := s) ⟨rfl, rfl, rfl⟩).1

theorem Shown.spreadLockout (hs : Shown n h s) : Shown n h (s.spreadLockout h) :=
  hs.congr (by simp) (by simp) (by simp)

theorem Shown.counted (hs : Shown n h s) : Shown n h (counted n h s) :=
  hs.congr (by simp [Proofs.counted]) (by simp [Proofs.counted]) (by simp [Proofs.counted])

theorem counted_outside (ho : s.round.phase.outside = false) : (counted n h s).round.phase.outside = false := by
  have hround : (counted n h s).round = (s.spreadLockout h).round := by simp [counted]
  rw [hround]
  exact spreadLockout_outside ho

/-- R27: the STATE of a voter at the own epoch that shows another digest. -/
def Differs (h : HeardState) (s : State) : Prop :=
  (h.phase.outside = false ∧ h.cfgDigest = s.store.digest) ∧ h.epoch = s.round.epoch ∧ h.rosterDigest ≠ s.roster.digest

/-- R27: the test for a difference, once a LOCKOUT is spread. -/
theorem differs_iff (hs : Shown n h s) :
    ((s.spreadLockout h).isVoter n && h.epoch == (s.spreadLockout h).round.epoch &&
      h.rosterDigest != (s.spreadLockout h).roster.digest) = true ↔ Differs h s := by
  have hstore : (s.spreadLockout h).store = s.store := by simp
  rw [hs.spreadLockout.isVoter, spreadLockout_epoch, sameTable_spreadLockout.2.1, hstore]
  simp [Differs, and_assoc]

/-- R27: the digest-difference count of the sender. -/
theorem counted_diff {k : Nat} (hs : Shown n h s) (ho : s.round.phase.outside = false) (hk : s.roster.diff[n]? = some k) :
    (¬Differs h s → (counted n h s).roster.diff[n]? = some 0) ∧
    (Differs h s → k = 0 → (counted n h s).roster.diff[n]? = some 1) ∧
    (Differs h s → k ≠ 0 → (counted n h s).roster.diff[n]? = some 0) := by
  have hdiff : (s.spreadLockout h).roster.diff = s.roster.diff := spreadLockout_diff
  have hlt : n < s.roster.diff.length := (List.getElem?_eq_some_iff.mp hk).1
  have hset : ∀ v, (setAt s.roster.diff n v)[n]? = some v := fun v => by simp [setAt, hlt]
  have hget : s.roster.diff.getD n 0 = k := by simp [List.getD_eq_getElem?_getD, hk]
  have hsummary : ∀ r : State, r.queueSummary.roster.diff = r.roster.diff := fun r => by
    unfold State.queueSummary
    split
    · rfl
    · simp
  have htest := differs_iff hs
  unfold counted State.countDifference
  rw [spreadLockout_outside ho, if_neg Bool.false_ne_true, hdiff, hget]
  by_cases hd : Differs h s
  · rw [if_pos (htest.mpr hd)]
    by_cases h0 : k = 0
    · rw [if_pos h0]
      refine ⟨fun hno => absurd hd hno, fun _ _ => ?_, fun _ hne => absurd h0 hne⟩
      rw [State.onRoster_roster, hdiff]
      exact hset 1
    · rw [if_neg h0]
      refine ⟨fun hno => absurd hd hno, fun _ h => absurd h h0, fun _ _ => ?_⟩
      rw [State.onRoster_roster, hsummary, hdiff]
      exact hset 0
  · rw [if_neg fun hh => hd (htest.mp hh)]
    refine ⟨fun _ => ?_, fun h => absurd h hd, fun h => absurd h hd⟩
    rw [State.onRoster_roster, hdiff]
    exact hset 0

/-- R26, R27: the SUMMARY that a second difference queues. -/
theorem counted_summary {k : Nat} (hs : Shown n h s) (ho : s.round.phase.outside = false)
    (hk : s.roster.diff[n]? = some k) (hd : Differs h s) (hne : k ≠ 0) (hb : s.barred = false)
    (hroom : RoomLeft s.bus.queue) : ∃ g ∈ (counted n h s).bus.queue, g.body = .summary := by
  have hget : (s.spreadLockout h).roster.diff.getD n 0 = k := by
    rw [spreadLockout_diff]
    simp [List.getD_eq_getElem?_getD, hk]
  have hout : (s.spreadLockout h).round.phase.outside = false := spreadLockout_outside ho
  have hbarred : (s.spreadLockout h).barred = false := by
    rw [barred_inside hout, fitted_congr (s := s) (by simp)]
    rw [barred_inside ho] at hb
    simpa using hb
  have hqueue : RoomLeft (s.spreadLockout h).bus.queue :=
    when_keeps (P := fun r : State => RoomLeft r.bus.queue) hroom fun _ => roomLeft_enterBase .lockout hroom
  unfold counted State.countDifference
  rw [hout, if_neg Bool.false_ne_true, if_pos ((differs_iff hs).mpr hd), hget, if_neg hne]
  exact mem_queueSummary hout hbarred hqueue

end

end Sys2Proof.Proofs

/-! # The tests after a voter's STATE

PROOFS about what follows the digest-difference count of a STATE whose sender is a voter (R43, R46, R49, R83, R168). -/

namespace Sys2Proof.Proofs

open Sys2Proof.Machine Sys2Proof.Safety

/-! ## PLANNING entered at roster agreement -/

theorem walkOnEntry_planning {s : State} (hb : s.plan.build ≠ .built) : (s.walkOnEntry .planning).plan.build ≠ .built :=
  when_keeps (P := fun r : State => r.plan.build ≠ .built) hb fun _ => by simp [State.startWalk]

theorem enterBase_planning_build {s : State} (hb : s.plan.build ≠ .built) : (s.enterBase .planning).plan.build ≠ .built := by
  have hblocks : ∀ r : State, (r.blocksOnEntry .planning).plan.build = r.plan.build := fun r => by
    simp [State.blocksOnEntry, PlanUnit.onEntry, Phase.clearsPlan, Phase.drives]
  have hframes : ∀ (p0 : Phase) (r : State), (r.framesOnEntry p0 .planning).plan = r.plan := fun p0 r => by simp
  have hleft : ((((s.leaveArming .planning).leaveCatching).leaveRevising).contextOnEntry .planning).plan = s.plan := by simp
  unfold State.enterBase
  refine walkOnEntry_planning ?_
  rw [hframes, hblocks, hleft]
  exact hb

/-- R46: PLANNING without a candidate that is BUILT stands. -/
theorem enter_planning {s : State} (hb : s.plan.build ≠ .built) : s.enter .planning = s.enterBase .planning := by
  have hphase : (s.enterBase .planning).round.phase = .planning := by rw [State.enterBase_round]; rfl
  refine State.enter_of_no_transition .planning s ?_ ?_
  · show (s.enterBase .planning).entryTransition = none
    unfold State.entryTransition
    rw [hphase]
    simp [State.builtCandidate, enterBase_planning_build hb]
  · show (s.enterBase .planning).round.phase ≠ .arming
    rw [hphase]
    simp

/-! ## A voter's STATE -/

section
variable {n : Nat} {h : HeardState} {s : State}

/-- R32: the line station's presence noted where the sender `n` is the line station. -/
def presenceNoted (n : Nat) (s : State) : State :=
  s.when (n == 0) (State.onRound fun r => { r with lineLost := false, linePresent := true })

/-- The round but for the line station's presence, and all but the round. -/
theorem presenceNoted_fields (n : Nat) (s : State) :
    (presenceNoted n s).round = { s.round with
      lineLost := (presenceNoted n s).round.lineLost, linePresent := (presenceNoted n s).round.linePresent } ∧
    presenceNoted n s = { s with round := (presenceNoted n s).round } := by
  unfold presenceNoted State.when
  split <;> exact ⟨rfl, rfl⟩

theorem Shown.presenceNoted (hs : Shown n h s) (m : Nat) : Shown n h (presenceNoted m s) := by
  obtain ⟨-, heq⟩ := presenceNoted_fields m s
  refine hs.congr ?_ ?_ ?_ <;> rw [heq]

/-- R32: the presence check at a STATE of the line station that makes it a voter. -/
theorem checkPresence_voter (hs : Shown n h s) (ho : h.phase.outside = false) (hc : h.cfgDigest = s.store.digest) :
    s.when (n == 0) State.checkPresence = presenceNoted n s := by
  unfold presenceNoted State.when
  split
  next hn =>
    have hvoter : s.isVoter 0 = true := by
      rw [← beq_iff_eq.mp hn, hs.isVoter, ho, hc]
      simp
    rw [State.checkPresence, State.present, hvoter, Bool.or_true, if_pos rfl]
  next => rfl

/-- R168: what the STATE of a voter does, in the order of log 15. -/
theorem stateTaken_of_voter (hs : Shown n h s) (ho : h.phase.outside = false) (hc : h.cfgDigest = s.store.digest) :
    s.stateTaken n h = ((((presenceNoted n (counted n h s)).when (n == 0) State.testCatching).testAgreement).answerLineLost h) := by
  have hstore : (counted n h s).store = s.store := by simp [counted]
  have hcfg : h.cfgDigest = (counted n h s).store.digest := by rw [hstore, hc]
  have hsilence := hs.counted.silenceCheckOf hcfg
  have hpresence := checkPresence_voter hs.counted ho hcfg
  unfold counted at hsilence hpresence
  unfold State.stateTaken counted
  dsimp only
  rw [hsilence, hpresence]

theorem answerLineLost_fields (h : HeardState) (s : State) :
    (s.answerLineLost h).round = s.round ∧ (s.answerLineLost h).plan = s.plan ∧ (s.answerLineLost h).roster = s.roster := by
  simp

/-- R26, R168: the answer to line lost leaves a SUMMARY in the queue. -/
theorem answerLineLost_summary (h : HeardState) (hq : ∃ g ∈ s.bus.queue, g.body = .summary) :
    ∃ g ∈ (s.answerLineLost h).bus.queue, g.body = .summary := by
  refine when_keeps (P := fun r : State => ∃ g ∈ r.bus.queue, g.body = .summary) hq fun _ => ?_
  obtain ⟨g, hg, hbody⟩ := hq
  refine ⟨g, ?_, hbody⟩
  unfold State.queueState State.enqueue
  split
  · exact hg
  · refine mem_enqueueFrame_of_rank (by simp [QBody.kind]) hg (fun _ => ?_) ?_ <;>
      simp [QFrame.rank, hbody, QBody.kind, Kind.rank]

/-- R43, R46, R49, R83: a voter's STATE where no rule of the phase is met leaves round, plan and roster as counted. -/
theorem stateTaken_stands (hs : Shown n h s) (ho : h.phase.outside = false) (hc : h.cfgDigest = s.store.digest)
    (hcatching : n = 0 → (counted n h s).round.phase ≠ .catching) (hplanning : (counted n h s).round.phase ≠ .planning)
    (hsettling : (counted n h s).round.phase = .settling → (presenceNoted n (counted n h s)).rosterAgreed = false) :
    (s.stateTaken n h).round = (presenceNoted n (counted n h s)).round ∧ (s.stateTaken n h).plan = (counted n h s).plan ∧
    (s.stateTaken n h).roster = (counted n h s).roster ∧
    ((∃ g ∈ (counted n h s).bus.queue, g.body = .summary) → ∃ g ∈ (s.stateTaken n h).bus.queue, g.body = .summary) := by
  obtain ⟨hround, heq⟩ := presenceNoted_fields n (counted n h s)
  have hphase : (presenceNoted n (counted n h s)).round.phase = (counted n h s).round.phase := by rw [hround]
  have hcatch : (presenceNoted n (counted n h s)).when (n == 0) State.testCatching = presenceNoted n (counted n h s) :=
    when_keeps (P := fun r => r = presenceNoted n (counted n h s)) rfl fun hn =>
      testCatching_of_not (by rw [hphase]; exact hcatching (beq_iff_eq.mp hn))
  obtain ⟨h1, h2, h3, h4⟩ := testAgreement_stands (s := presenceNoted n (counted n h s)) (by rwa [hphase])
    (by rwa [hphase])
  obtain ⟨g1, g2, g3⟩ := answerLineLost_fields h (presenceNoted n (counted n h s)).testAgreement
  rw [stateTaken_of_voter hs ho hc, hcatch, g1, g2, g3, h1, h2, h3]
  refine ⟨rfl, by rw [heq], by rw [heq], fun hq => answerLineLost_summary h ?_⟩
  rw [h4, heq]
  exact hq

theorem counted_eq (hno : ¬Spreads h s) : counted n h s = s.countDifference n h := by
  rw [counted, spreadLockout_of_not hno]

/-- R168: a LOCKOUT that another cell shows, and that does not spread. -/
theorem stateTaken_lockout (hs : Shown n h s) (hlt : n < 28) (hp : h.phase = .lockout) (hc : h.cfgDigest = s.store.digest)
    (hno : ¬Spreads h s) (hn : n ≠ 0) (hplanning : s.round.phase ≠ .planning)
    (hsettling : s.round.phase = .settling → h.epoch ≠ s.round.epoch ∨ h.rosterDigest ≠ s.roster.digest) :
    (s.stateTaken n h).round = s.round ∧ (s.stateTaken n h).plan = s.plan := by
  have ho : h.phase.outside = false := by rw [hp]; rfl
  have heq := counted_eq (n := n) hno
  have hround : (counted n h s).round = s.round := by rw [heq]; simp
  have hplan : (counted n h s).plan = s.plan := by rw [heq]; simp
  have hstore : (counted n h s).store = s.store := by rw [heq]; simp
  have hsame : presenceNoted n (counted n h s) = counted n h s := by
    rw [presenceNoted, beq_eq_false_iff_ne.mpr hn, State.when_false]
  obtain ⟨h1, h2, -, -⟩ := stateTaken_stands hs ho hc (fun h => absurd h hn) (by rwa [hround]) fun hq => by
    rw [hsame]
    refine hs.counted.not_rosterAgreed hlt ho (by rw [hstore, hc]) ?_
    rw [hround, heq, (sameTable_countDifference n h s).2.1]
    exact hsettling (by rwa [hround] at hq)
  rw [h1, h2, hsame]
  exact ⟨hround, hplan⟩

/-- R43: a voter's STATE in SETTLING, taken at the time `now` by the station `s`. -/
structure SettlingShown (s x : State) : Prop where
  agreed : RosterAgreement x → x.round.phase = .planning ∧ x.round.phaseTimer = some (s.now + 1000 * s.params.agree)
  stays : ¬RosterAgreement x → x.round.phase = .settling ∧ x.round.phaseTimer = s.round.phaseTimer
  kept : x.round.epoch = s.round.epoch ∧ x.round.resettle = s.round.resettle ∧ x.roster.entries = s.roster.entries

theorem stateTaken_settling (hs : Shown n h s) (ho : h.phase.outside = false) (hc : h.cfgDigest = s.store.digest)
    (hno : ¬Spreads h s) (hp : s.round.phase = .settling) (hb : s.plan.build ≠ .built) :
    SettlingShown s (s.stateTaken n h) := by
  have heq := counted_eq (n := n) hno
  have htaken := stateTaken_of_voter hs ho hc
  have hframe : (s.stateTaken n h).bus.heard = s.bus.heard ∧ (s.stateTaken n h).now = s.now ∧
      (s.stateTaken n h).store = s.store := by simp
  obtain ⟨hround, hrest⟩ := presenceNoted_fields n (counted n h s)
  have hcounted : (counted n h s).round = s.round ∧ (counted n h s).plan = s.plan ∧ (counted n h s).store = s.store ∧
      (counted n h s).now = s.now ∧ (counted n h s).bus.heard = s.bus.heard := by
    rw [heq]
    simp
  have htable : SameTable (counted n h s).roster s.roster := heq ▸ sameTable_countDifference n h s
  obtain ⟨c1, c2, c3, c4, c5⟩ := hcounted
  rw [c1] at hround
  have hq : (presenceNoted n (counted n h s)).plan = s.plan ∧ (presenceNoted n (counted n h s)).store = s.store ∧
      (presenceNoted n (counted n h s)).now = s.now ∧ (presenceNoted n (counted n h s)).bus.heard = s.bus.heard ∧
      SameTable (presenceNoted n (counted n h s)).roster s.roster := by
    rw [hrest]
    exact ⟨c2, c3, c4, c5, htable⟩
  clear hrest heq htable c1 c2 c3 c4 c5
  generalize presenceNoted n (counted n h s) = q at *
  obtain ⟨q1, q2, q3, q4, q5⟩ := hq
  have hphase : q.round.phase = .settling := by rw [hround]; exact hp
  have hcatch : q.when (n == 0) State.testCatching = q :=
    when_keeps (P := fun r => r = q) rfl fun _ => testCatching_of_not (by rw [hphase]; simp)
  have htest : q.testAgreement = q.enterIf q.rosterAgreed .planning := by
    unfold State.testAgreement
    rw [hphase]
  obtain ⟨g1, g2, g3⟩ := answerLineLost_fields h (q.enterIf q.rosterAgreed .planning)
  rw [hcatch, htest] at htaken
  rw [← htaken] at g1 g3
  have hagree : ∀ r : State, r.bus.heard = s.bus.heard → r.now = s.now → r.store = s.store →
      r.round.epoch = s.round.epoch → SameTable r.roster s.roster → r.rosterAgreed = s.rosterAgreed :=
    fun r h1 h2 h3 h4 ⟨_, h5, h6, _⟩ => rosterAgreed_congr h1 h2 h3 h4 h5 h6
  have hqa : q.rosterAgreed = s.rosterAgreed := hagree q q4 q3 q2 (by rw [hround]) q5
  obtain ⟨f1, f2, f3⟩ := hframe
  cases ha : s.rosterAgreed with
  | true =>
    have hentered : q.enterIf q.rosterAgreed .planning = q.enterBase .planning := by
      rw [State.enterIf, hqa, ha, State.when_true, enter_planning (by rwa [q1])]
    rw [hentered] at g1 g3
    have hfinal : (s.stateTaken n h).round = q.round.onEntry s.now s.params .planning := by
      rw [g1, State.enterBase_round, q3, State.params_congr q2]
    have htable : SameTable (s.stateTaken n h).roster s.roster := g3 ▸ (enterBase_roster .planning q).1.trans q5
    have hyes : RosterAgreement (s.stateTaken n h) :=
      (Laws.rosterAgreement_iff _).mpr ((hagree _ f1 f2 f3 (by rw [hfinal, hround]; rfl) htable).trans ha)
    rw [hround] at hfinal
    exact ⟨fun _ => by rw [hfinal]; exact ⟨rfl, rfl⟩, fun hn => absurd hyes hn, by rw [hfinal]; rfl, by rw [hfinal]; rfl, htable.1⟩
  | false =>
    have hentered : q.enterIf q.rosterAgreed .planning = q := by rw [State.enterIf, hqa, ha, State.when_false]
    rw [hentered] at g1 g3
    have hno : ¬RosterAgreement (s.stateTaken n h) := by
      rw [Laws.rosterAgreement_iff, hagree _ f1 f2 f3 (by rw [g1, hround]) (g3 ▸ q5), ha]
      simp
    rw [hround] at g1
    exact ⟨fun hy => absurd hy hno, fun _ => by rw [g1]; exact ⟨hp, rfl⟩, by rw [g1], by rw [g1], by rw [g3]; exact q5.1⟩

/-- R26, R27: the SUMMARY of a second difference stays in the queue where no rule of the phase is met. -/
theorem stateTaken_summary {k : Nat} (hs : Shown n h s) (ho : s.round.phase.outside = false) (hk : s.roster.diff[n]? = some k)
    (hd : Differs h s) (hne : k ≠ 0) (hb : s.barred = false) (hroom : RoomLeft s.bus.queue)
    (h1 : s.round.phase ≠ .settling) (h2 : s.round.phase ≠ .planning) (h3 : s.round.phase ≠ .catching) :
    ∃ g ∈ (s.stateTaken n h).bus.queue, g.body = .summary := by
  have hphase : ∀ p, p ≠ .lockout → s.round.phase ≠ p → (counted n h s).round.phase ≠ p := by
    intro p hp hne
    have hround : (counted n h s).round = (s.spreadLockout h).round := by simp [counted]
    rw [hround]
    refine when_keeps (P := fun r : State => r.round.phase ≠ p) hne fun _ => ?_
    rw [State.enterBase_round]
    exact fun he => hp he.symm
  obtain ⟨⟨hin, hc⟩, -⟩ := id hd
  obtain ⟨-, -, -, hq⟩ := stateTaken_stands hs hin hc (fun _ => hphase _ (by simp) h3) (hphase _ (by simp) h2)
    fun he => absurd he (hphase _ (by simp) h1)
  exact hq (counted_summary hs ho hk hd hne hb hroom)

end

end Sys2Proof.Proofs

/-! # What a STATE leaves of the counts and of the line station's presence

PROOFS that the digest-difference count stands as counted, and about the STATE that loses the line station (R27, R32, R168). -/

namespace Sys2Proof.Proofs

open Sys2Proof.Machine Sys2Proof.Safety

section
variable {n : Nat} {h : HeardState} {s : State}

/-! ## The counts and the presence stand -/

theorem noted_self (s : State) : Noted s.roster.diff s.round.lineLost s.round.linePresent s := ⟨rfl, rfl, rfl⟩

theorem checkPresence_diff (s : State) : s.checkPresence.roster.diff = s.roster.diff := by
  unfold State.checkPresence
  split
  · rfl
  · split
    · exact (noted_keptIn.lineStationLost
        (noted_self (s.onRound fun r => { r with lineLost := true, linePresent := false }))).1
    · rfl

/-- R43, R46, R49, R83: the phase tests at a STATE leave the counts and the presence. -/
theorem noted_phaseTests {d : List Nat} {lost present : Bool} (b : Bool) (hs : Noted d lost present s) :
    Noted d lost present ((s.when b State.testCatching).testAgreement.answerLineLost h) := by
  have h1 : Noted d lost present (s.when b State.testCatching) :=
    when_keeps hs fun _ => when_keeps hs fun _ => noted_keptIn.testTransition hs
  have h2 := noted_keptIn.testAgreement h1
  exact when_keeps h2 fun _ => noted_keptIn.queueState h2

/-- R27: the counts after a STATE are those counted. -/
theorem stateTaken_diff (n : Nat) (h : HeardState) (s : State) :
    (s.stateTaken n h).roster.diff = (counted n h s).roster.diff := by
  have hsilence : ((counted n h s).silenceCheckOf n).roster.diff = (counted n h s).roster.diff :=
    (noted_keptIn.silenceCheckOf n (noted_self _)).1
  have hpresence : (((counted n h s).silenceCheckOf n).when (n == 0) State.checkPresence).roster.diff =
      (counted n h s).roster.diff :=
    when_keeps (P := fun r : State => r.roster.diff = (counted n h s).roster.diff) hsilence fun _ =>
      (checkPresence_diff _).trans hsilence
  exact (noted_phaseTests (n == 0) (noted_self _)).1.trans hpresence

/-- R32: a STATE that makes the line station a voter. -/
theorem stateTaken_present (hs : Shown 0 h s) (ho : h.phase.outside = false) (hc : h.cfgDigest = s.store.digest) :
    (s.stateTaken 0 h).round.lineLost = false ∧ (s.stateTaken 0 h).round.linePresent = true := by
  have hnoted : Noted (counted 0 h s).roster.diff false true (presenceNoted 0 (counted 0 h s)) := ⟨rfl, rfl, rfl⟩
  rw [stateTaken_of_voter hs ho hc]
  exact (noted_phaseTests _ hnoted).2

/-! ## The line station lost -/

/-- R27: a STATE that makes its sender no voter returns the sender's count to 0. -/
theorem counted_of_not_voter (hs : Shown n h s) (ho : s.round.phase.outside = false) (hp : h.phase ≠ .lockout)
    (hv : ¬(h.phase.outside = false ∧ h.cfgDigest = s.store.digest)) :
    counted n h s = s.onRoster fun r => { r with diff := setAt r.diff n 0 } := by
  have hnot : s.isVoter n = false := by
    rw [hs.isVoter, ← Bool.not_eq_true]
    simpa using hv
  rw [counted_eq fun hsp => hp hsp.1, State.countDifference, ho, if_neg Bool.false_ne_true, hnot, Bool.false_and,
    Bool.false_and, if_neg Bool.false_ne_true]

/-- R32: the line station noted as lost. -/
def lineNotedLost (h : HeardState) (s : State) : State :=
  (counted 0 h s).onRound fun r => { r with lineLost := true, linePresent := false }

/-- R168: a cell's tests once the line station is lost. -/
theorem stateTaken_lost (hs : Shown 0 h s) (hl : s.isLine = false) (ho : s.round.phase.outside = false)
    (hp : h.phase ≠ .lockout) (hv : ¬(h.phase.outside = false ∧ h.cfgDigest = s.store.digest))
    (hpresent : s.round.linePresent = true) :
    s.stateTaken 0 h = (lineNotedLost h s).lineStationLost.testCatching.testAgreement := by
  have hstore : (counted 0 h s).store = s.store := by simp [counted]
  have hcounted := counted_of_not_voter hs ho hp hv
  have hround : (counted 0 h s).round.linePresent = true := by rw [hcounted]; exact hpresent
  have hnot : (counted 0 h s).present = false := by
    rw [State.present, isLine_congr hstore, hl, hs.counted.isVoter, hstore, Bool.false_or, ← Bool.not_eq_true]
    simpa using hv
  have hcheck : (counted 0 h s).checkPresence = (lineNotedLost h s).lineStationLost := by
    rw [State.checkPresence, hnot, if_neg Bool.false_ne_true, if_pos hround]
    rfl
  have hline : (lineNotedLost h s).lineStationLost.testCatching.testAgreement.isLine = false := by
    refine (isLine_congr (s := s) ?_).trans hl
    simp [lineNotedLost, counted]
  have hanswer : ∀ r : State, r.isLine = false → r.answerLineLost h = r := fun r hr => by
    rw [State.answerLineLost, hr, Bool.false_and, State.when_false]
  have hsilence := silenceCheckOf_line (counted 0 h s)
  rw [show s.stateTaken 0 h = (((counted 0 h s).silenceCheckOf 0).checkPresence.testCatching.testAgreement).answerLineLost h
    from rfl, hsilence, hcheck, hanswer _ hline]

/-- R32: what losing the line station does, taken by the cell `s`. -/
structure LineLost (s x : State) : Prop where
  noted : x.round.lineLost = true ∧ x.round.linePresent = false
  drives : s.round.phase = .running ∨ s.round.phase = .revising →
    x.round.epoch = s.round.epoch + 1#16 ∧ (x.round.phase = .tripped ∨ x.round.phase = .lockout) ∧
    x.plan.inForce = none ∧ x.gateEn = false ∧
    (s.barred = false → RoomLeft s.bus.queue →
      ∃ g ∈ x.bus.queue, g.body = .alarm (BitVec.ofNat 8 s.number) FaultClass.line.byte s.round.phase.code)
  settles : s.round.phase = .halted ∨ s.round.phase = .settling ∨ s.round.phase = .planning ∨ s.round.phase = .catching ∨
      s.round.phase = .arming →
    x.round.phase = .settling ∧ x.round.resettle = s.round.resettle ∧ x.round.epoch = s.round.epoch ∧
    x.round.phaseTimer = some (s.now + 1000 * s.params.settle)
  stands : s.round.phase = .tripped ∨ s.round.phase = .lockout →
    x.round = { s.round with lineLost := true, linePresent := false }

theorem lineStationLost_drives {s : State} (hp : s.round.phase = .running ∨ s.round.phase = .revising) :
    s.lineStationLost = s.localAlarm FaultClass.line := by
  unfold State.lineStationLost
  rcases hp with h | h <;> rw [h]

theorem lineStationLost_settles {s : State} (hp : s.round.phase = .halted ∨ s.round.phase = .settling ∨
    s.round.phase = .planning ∨ s.round.phase = .catching ∨ s.round.phase = .arming) :
    s.lineStationLost = s.enterBase .settling := by
  unfold State.lineStationLost
  rcases hp with h | h | h | h | h <;> rw [h]

theorem lineStationLost_stands {s : State} (hp : s.round.phase = .tripped ∨ s.round.phase = .lockout) :
    s.lineStationLost = s := by
  unfold State.lineStationLost
  rcases hp with h | h <;> rw [h]

theorem stateTaken_lineLost (hs : Shown 0 h s) (hl : s.isLine = false) (ho : s.round.phase.outside = false)
    (hp : h.phase ≠ .lockout) (hv : ¬(h.phase.outside = false ∧ h.cfgDigest = s.store.digest))
    (hpresent : s.round.linePresent = true) : LineLost s (s.stateTaken 0 h) := by
  have hlost : Shown 0 h (lineNotedLost h s) :=
    hs.congr (by simp [lineNotedLost, counted]) (by simp [lineNotedLost, counted]) (by simp [lineNotedLost, counted])
  have hfields : (lineNotedLost h s).round = { s.round with lineLost := true, linePresent := false } ∧
      (lineNotedLost h s).bus = s.bus ∧ (lineNotedLost h s).store = s.store ∧ (lineNotedLost h s).now = s.now := by
    rw [lineNotedLost, counted_of_not_voter hs ho hp hv]
    exact ⟨rfl, rfl, rfl, rfl⟩
  rw [stateTaken_lost hs hl ho hp hv hpresent]
  generalize lineNotedLost h s = q at *
  obtain ⟨q1, q2, q3, q4⟩ := hfields
  have hphase : q.round.phase = s.round.phase := by rw [q1]
  have hidle : ∀ r : State, Phase.idles r.round.phase → r.testCatching.testAgreement = r := fun r hr => by
    rw [testCatching_idle hr, testAgreement_idle hr]
  constructor
  case noted =>
    have hnoted : Noted q.roster.diff true false q := ⟨rfl, by rw [q1], by rw [q1]⟩
    have h1 := noted_keptIn.lineStationLost hnoted
    have h2 : Noted q.roster.diff true false q.lineStationLost.testCatching :=
      when_keeps h1 fun _ => noted_keptIn.testTransition h1
    exact (noted_keptIn.testAgreement h2).2
  case drives =>
    intro hd
    have hdrops : q.round.phase.dropsAlarm = false := by rw [hphase]; rcases hd with h | h <;> rw [h] <;> rfl
    have ht := localAlarm_taken FaultClass.line hdrops
    rw [lineStationLost_drives (by rwa [hphase]), hidle _ (.inr ht.phase.symm)]
    refine ⟨by rw [ht.epoch, q1], ht.phase, ht.inForce, State.gateEn_of_phase ?_, fun hb hroom => ?_⟩
    · rcases ht.phase with h | h <;> rw [h] <;> rfl
    · rw [barred_inside ho] at hb
      simp only [Bool.or_eq_false_iff, Bool.not_eq_false'] at hb
      have hframe := ht.frame (by rw [q2]; exact hb.1) ((fitted_congr q3).trans hb.2) (by rwa [q2])
      rw [number_congr q3, hphase] at hframe
      exact hframe
  case settles =>
    intro hd
    have hround := State.enterBase_round .settling q
    have hnot : (q.enterBase .settling).rosterAgreed = false := by
      have hstore : (q.enterBase .settling).store = s.store := by simpa using q3
      have hshown : Shown 0 h (q.enterBase .settling) := hlost.congr (by simp) (by simp) (by simp)
      have habsent : (q.enterBase .settling).present = false := by
        rw [State.present, isLine_congr hstore, hl, hshown.isVoter, hstore, Bool.false_or, ← Bool.not_eq_true]
        simpa using hv
      rw [State.rosterAgreed, habsent, Bool.false_and, Bool.false_and]
    have hsettling : (q.enterBase .settling).round.phase = .settling := by rw [hround]; rfl
    obtain ⟨h1, -, -, -⟩ := testAgreement_stands (s := q.enterBase .settling) (by rw [hsettling]; simp) fun _ => hnot
    rw [lineStationLost_settles (by rwa [hphase]), testCatching_of_not (by rw [hsettling]; simp), h1, hround, q1, q4,
      State.params_congr q3]
    exact ⟨rfl, rfl, rfl, rfl⟩
  case stands =>
    intro hd
    rw [lineStationLost_stands (by rwa [hphase]), hidle _ (by rw [hphase]; exact .inr hd.symm), q1]

end

end Sys2Proof.Proofs

/-! # STATE_RECEIVED

PROOFS about a STATE of another station with its phase code in range (R27, R29, R31, R32, R43, R57, R156, R166, R168). -/

namespace Sys2Proof.Proofs

open Sys2Proof.Machine Sys2Proof.Safety

/-! ## The STATE read -/

/-- Table 9-2: a phase code up to 10 names a phase, 9 LOCKOUT, 0 and 10 those outside the drive. -/
theorem ofCode_of_le {b : Byte} (hb : b.toNat ≤ 10) :
    (Phase.ofCode b).isSome = true ∧ (Phase.ofCode b = some .lockout ↔ b = 9) ∧
    ((Phase.ofCode b).any Phase.outside = false ↔ b ≠ 0 ∧ b ≠ 10) := by
  obtain ⟨k, rfl⟩ : ∃ k : Fin 11, b = BitVec.ofNat 8 k := ⟨⟨b.toNat, by omega⟩, by simp⟩
  revert k
  decide

/-- What the heard table takes of the payload `p` of a frame of the epoch `e`. -/
structure ReadAs (now : Time) (e : Half) (p : StatePayload) (h : HeardState) : Prop where
  time : h.time = now
  epoch : h.epoch = e
  roster : h.rosterDigest = p.rosterDigest
  config : h.cfgDigest = p.cfgDigest
  lockout : h.phase = .lockout ↔ p.phase = 9
  inside : h.phase.outside = false ↔ p.phase ≠ 0 ∧ p.phase ≠ 10

/-- R156, R166: a STATE in range is taken into the heard table. -/
theorem heardStateOf_of_le {now : Time} {f : Frame} {p : StatePayload} (hpay : f.payload = .state p)
    (hcode : p.phase.toNat ≤ 10) : ∃ h, heardStateOf now f = some h ∧ ReadAs now f.epoch p h := by
  obtain ⟨hsome, hlockout, hout⟩ := ofCode_of_le hcode
  obtain ⟨ph, hph⟩ := Option.isSome_iff_exists.mp hsome
  rw [hph] at hlockout hout
  have hphase : p.phase? = some ph := hph
  refine ⟨⟨now, f.epoch, ph, p.rosterDigest, p.planPresent, p.planRev, p.planDigest, p.cfgDigest, p.lineLost⟩, ?_,
    rfl, rfl, rfl, rfl, by simpa using hlockout, by simpa using hout⟩
  unfold heardStateOf
  rw [hpay]
  dsimp only
  rw [hphase]

/-- R147: a frame that passes the receive checks names one of 28 stations. -/
theorem station_lt_of_readFrame {bs : List Byte} {f : Frame} (h : readFrame bs = some f) : f.station.toNat < 28 := by
  unfold readFrame at h
  split at h
  next st kb lb e1 e0 rest =>
    dsimp only at h
    split at h
    next hok =>
      split at h
      · split at h
        · rw [← Option.some.inj h]
          exact Nat.lt_succ_of_le hok.2.2
        · simp at h
      · simp at h
    next => simp at h
  next => simp at h

theorem station_lt_of_examine {k : Kind} {x : Transmission} {f : Frame} (hx : examineKind k x = some f) :
    f.station.toNat < 28 := by
  have hexamine : ∀ g, examine x = some g → g.station.toNat < 28 := by
    intro g h
    unfold examine at h
    split at h
    · split at h
      · split at h
        · exact station_lt_of_readFrame h
        · simp at h
      · simp at h
    · simp at h
  unfold examineKind at hx
  split at hx
  next g hg =>
    split at hx
    · exact Option.some.inj hx ▸ hexamine g hg
    · simp at hx
  next => simp at hx

/-! ## The frame heard -/

/-- R29: the station at the time `t` with the frame heard and marked, its epoch not newer. -/
def stateHeard (t : Time) (f : Frame) (s : State) : State :=
  ((s.advance t).hear f).onRound fun r => { r with firstTaken := true }

section
variable {t : Time} {x : Transmission} {f : Frame} {p : StatePayload} {h : HeardState} {s : State}

theorem exec_stateReceived (hr : s.runs = true) (hx : examineKind .state x = some f)
    (hn : f.station.toNat ≠ s.number) (hh : heardStateOf (max s.now t) f = some h) :
    exec (.stateReceived t x) s = .next (((s.advance t).takeFrame f).stateTaken f.station.toNat h) := by
  have hexec : exec (.stateReceived t x) s = .next ((s.advance t).takeState f) := exec_receivedOf (k := .state) hr hx hn
  have hh' : heardStateOf (s.advance t).now f = some h := hh
  rw [hexec, State.takeState, hh']
  rfl

theorem exec_stateReceived_not_newer (hr : s.runs = true) (hx : examineKind .state x = some f)
    (hn : f.station.toNat ≠ s.number) (hh : heardStateOf (max s.now t) f = some h) (h1 : s.round.phase ≠ .joining)
    (h2 : s.round.phase ≠ .isolated) (hold : epochNewer f.epoch s.round.epoch = false) :
    exec (.stateReceived t x) s = .next ((stateHeard t f s).stateTaken f.station.toNat h) := by
  rw [exec_stateReceived hr hx hn hh, State.takeFrame_not_newer (s := s.advance t) h1 h2 hold]
  rfl

/-- R156: the sender's entry of the heard table. -/
theorem shown_stateHeard (hx : examineKind .state x = some f) (hn : f.station.toNat ≠ s.number)
    (hh : heardStateOf (max s.now t) f = some h) (ht : h.time = max s.now t) (h1 : s.round.phase ≠ .joining)
    (h2 : s.round.phase ≠ .isolated) (hold : epochNewer f.epoch s.round.epoch = false) (hsized : HeardSized s)
    (hq : 0 < s.quietTime) : Shown f.station.toNat h (stateHeard t f s) := by
  have hheard := frameHeard_hear t f s
  have htable := takeFrame_heard f (s.advance t)
  rw [State.takeFrame_not_newer (s := s.advance t) h1 h2 hold, show (s.advance t).now = max s.now t from rfl, hh,
    Option.some_or] at htable
  have hlen : f.station.toNat < (s.advance t).bus.heard.length := by
    have hadvance : (s.advance t).bus.heard.length = s.bus.heard.length := by simp [State.advance]
    rw [hadvance, hsized]
    exact station_lt_of_examine hx
  have hentry : (stateHeard t f s).heardAt f.station.toNat = ⟨.heard, some (max s.now t), some f.epoch, some h⟩ := by
    rw [stateHeard, State.heardAt, htable, List.getD_eq_getElem?_getD, List.getElem?_set_self hlen]
    rfl
  refine ⟨by rw [hentry], by rw [hentry], ht.trans hheard.now.symm, ?_, ?_⟩
  · exact (number_congr hheard.store).symm ▸ hn
  · exact (quietTime_congr hheard.store).symm ▸ hq

/-- R57: a LOCKOUT shown at the own epoch spreads from the station with the frame heard. -/
theorem spreads_stateHeard (hr : ReadAs (max s.now t) f.epoch p h) (h1 : s.round.phase ≠ .joining)
    (h2 : s.round.phase ≠ .isolated) :
    Spreads h (stateHeard t f s) ↔ p.phase = 9 ∧ s.round.phase ≠ .lockout ∧ f.epoch = s.round.epoch ∧
      ∀ u ∈ s.round.lockoutClear, u + 2 * s.report ≤ max s.now t := by
  have hheard := frameHeard_hear t f s
  have hreport : (stateHeard t f s).report = s.report := by
    rw [State.report, State.report, State.params_congr (r := stateHeard t f s) hheard.store]
  have hdrops : s.round.phase.dropsAlarm = false ↔ s.round.phase ≠ .lockout := by simp [Phase.dropsAlarm, h1, h2]
  have hround : (stateHeard t f s).round = { s.round with firstTaken := true } := hheard.round
  have hnow : (stateHeard t f s).now = max s.now t := hheard.now
  rw [Spreads, hr.lockout, hr.epoch, hreport, hround, hnow]
  dsimp only
  rw [hdrops]
  constructor
  · rintro ⟨hp, he, hl, hc⟩
    exact ⟨hp, hl, he, hc⟩
  · rintro ⟨hp, hl, he, hc⟩
    exact ⟨hp, he, hl, hc⟩

/-- R29, R57: a LOCKOUT shown at a newer epoch. -/
theorem takeFrame_spreads (hp : Phase.catchesUp s.round.phase) (hnew : epochNewer f.epoch s.round.epoch = true)
    (hpay : f.payload = .state p) (h9 : p.phase = 9) :
    s.takeFrame f = (epochStored f.epoch f s).enterBase .lockout := by
  have hphase : p.phase? = some .lockout := by
    rw [StatePayload.phase?, h9]
    rfl
  rw [takeFrame_newer hp hnew, State.adoptEpoch, hpay]
  simp only [hphase, if_true]
  rfl

/-- R29, R57: what a LOCKOUT shown leaves at the epoch `e`. -/
theorem lockedOut_of_idles {q r : State} (hi : Idles (q.enterBase .lockout) r) :
    r.round.phase = .lockout ∧ r.round.epoch = q.round.epoch ∧ r.plan.inForce = none ∧ r.gateEn = false := by
  have hround := State.enterBase_round .lockout q
  have hphase : r.round.phase = .lockout := by rw [hi.phase, hround]; rfl
  refine ⟨hphase, by rw [hi.round, hround]; rfl, hi.inForce.trans (State.enterBase_plan .lockout q rfl).1,
    State.gateEn_of_phase ?_⟩
  rw [hphase]
  rfl

end

/-- Settles O22: a STATE of another station acts on the round by what it shows. -/
theorem stateFrameActsOnRound : Obligations.StateFrameActsOnRound := by
  rintro t x f p n s hruns hx hpay hcode rfl hn hjoin hiso voterShown spreads hvoter hspreads
  obtain ⟨h, hh, hread⟩ := heardStateOf_of_le (now := max s.now t) hpay hcode
  have hsp := spreads_stateHeard hread hjoin hiso
  refine ⟨fun hs => ?_, fun hold hsized hquiet => ?_⟩
  · obtain ⟨h9, hlock, hwhen⟩ := hspreads.mp hs
    rcases hwhen with hnew | ⟨he, hclear⟩
    · refine ⟨_, exec_stateReceived hruns hx hn hh, ?_⟩
      have htaken := takeFrame_spreads (s := s.advance t) ⟨hjoin, hiso, hlock⟩ hnew hpay h9
      have hphase : ((s.advance t).takeFrame f).round.phase = .lockout := by
        rw [htaken, State.enterBase_round]
        rfl
      have hi : Idles ((s.advance t).takeFrame f) (((s.advance t).takeFrame f).stateTaken f.station.toNat h) :=
        idles_stateTaken (.inr (.inl hphase)) fun ht => by rw [hphase] at ht; simp at ht
      obtain ⟨hstored, -⟩ := epochStored_holds (f := f) (s := s.advance t) (ne_of_epochNewer hnew)
      have hlocked := lockedOut_of_idles (q := epochStored f.epoch f (s.advance t)) (htaken ▸ hi)
      rw [hstored] at hlocked
      rw [← htaken] at hlocked
      exact hlocked
    · have hold : epochNewer f.epoch s.round.epoch = false := by rw [he]; exact epochNewer_self _
      refine ⟨_, exec_stateReceived_not_newer hruns hx hn hh hjoin hiso hold, ?_⟩
      have hlocked := lockedOut_of_idles (stateTaken_spreads (n := f.station.toNat) (hsp.mpr ⟨h9, hlock, he, hclear⟩))
      rw [show (stateHeard t f s).round.epoch = f.epoch from (congrArg Round.epoch (frameHeard_hear t f s).round).trans he.symm]
        at hlocked
      exact hlocked
  · refine ⟨_, exec_stateReceived_not_newer hruns hx hn hh hjoin hiso hold, ?_⟩
    have hheard : FrameHeard t true s (stateHeard t f s) := frameHeard_hear t f s
    have hshown := shown_stateHeard hx hn hh hread.time hjoin hiso hold hsized hquiet
    have hlt := station_lt_of_examine hx
    have hroom : s.bus.queue.length ≤ 4 → RoomLeft (stateHeard t f s).bus.queue := fun hq =>
      roomLeft_hear (s := s.advance t) (.inl hq)
    have hout : s.round.phase.outside = false := by simp [Phase.outside, hjoin, hiso]
    have hout' : (stateHeard t f s).round.phase.outside = false := by rw [hheard.round]; exact hout
    have hbarred : (stateHeard t f s).barred = s.barred := by
      rw [barred_inside hout', barred_inside hout, fitted_congr hheard.store]
      simp [stateHeard, State.advance]
    have hspreads' : spreads ↔ Spreads h (stateHeard t f s) := by
      rw [hsp, hspreads, hold]
      simp
    have hsender : voterShown ↔ h.phase.outside = false ∧ h.cfgDigest = (stateHeard t f s).store.digest := by
      rw [hvoter, hread.inside, hread.config, hheard.store, and_assoc]
    obtain ⟨hround, hplan, -, -, hstore, hnow, -, hroster, -, -, -⟩ := hheard
    clear hruns hcode hx hh hsp hspreads hvoter hold hsized hquiet hout
    generalize stateHeard t f s = r at *
    have hparams := State.params_congr hstore
    have hphase : r.round.phase = s.round.phase := by rw [hround]
    have hepoch : r.round.epoch = s.round.epoch := by rw [hround]
    refine ⟨fun hno h9 h0 hc hpl hset => ?_, fun hno hv hset hb => ?_, fun k differs hk hdiffers => ?_, fun h0 hl hv => ?_,
      fun h0 hl hv h9 hpresent => ?_⟩
    · obtain ⟨g1, g2⟩ := stateTaken_lockout hshown hlt (hread.lockout.mpr h9) (by rw [hread.config, hstore, hc])
        (fun h => hno (hspreads'.mpr h)) h0 (by rwa [hphase]) fun hq => by
          rw [hread.epoch, hread.roster, hepoch, hroster]
          exact hset (hphase ▸ hq)
      exact ⟨g1.trans hround, g2.trans hplan⟩
    · obtain ⟨ho, hc⟩ := hsender.mp hv
      obtain ⟨g1, g2, g3⟩ := stateTaken_settling hshown ho hc (fun h => hno (hspreads'.mpr h)) (by rwa [hphase]) (by rwa [hplan])
      rw [hnow, hparams] at g1
      rw [hround] at g2 g3
      rw [hroster] at g3
      exact ⟨g1, g2, g3⟩
    · have hd : differs ↔ Differs h r := by
        rw [hdiffers, Differs, hsender, hread.epoch, hread.roster, hepoch, hroster]
      obtain ⟨g1, g2, g3⟩ := counted_diff (k := k) hshown hout' (by rw [hroster]; exact hk)
      rw [← hd] at g1 g2 g3
      rw [stateTaken_diff]
      refine ⟨g1, g2, fun hdiff hne => ⟨g3 hdiff hne, fun hb hq h1 h2 h3 => ?_⟩⟩
      exact stateTaken_summary (k := k) hshown hout' (by rw [hroster]; exact hk) (hd.mp hdiff) hne (hbarred.trans hb)
        (hroom hq) (by rwa [hphase]) (by rwa [hphase]) (by rwa [hphase])
    · rw [h0] at hshown ⊢
      obtain ⟨ho, hc⟩ := hsender.mp hv
      exact stateTaken_present hshown ho hc
    · rw [h0] at hshown ⊢
      obtain ⟨g1, g2, g3, g4⟩ := stateTaken_lineLost hshown ((isLine_congr hstore).trans hl) hout'
        (fun h => h9 (hread.lockout.mp h)) (fun h => hv (hsender.mpr h)) (by rw [hround]; exact hpresent)
      rw [hphase] at g2 g3 g4
      rw [hepoch, hbarred, number_congr hstore] at g2
      rw [hround, hnow, hparams] at g3
      rw [hround] at g4
      refine ⟨g1.1, g1.2, fun hd => ?_, g3, g4⟩
      obtain ⟨e1, e2, e3, e4, e5⟩ := g2 hd
      exact ⟨e1, e2, e3, e4, fun hb hq => e5 hb (hroom hq)⟩

end Sys2Proof.Proofs

/-! # The report tick up to its tests

PROOFS: SUPPORT. What a report tick leaves until its silence check, the tick in JOINING up to the join conditions, and the
registers that a tick sets in every phase (R155, R158, R159, R188). -/

namespace Sys2Proof.Proofs

open Sys2Proof.Machine Sys2Proof.Safety

/-! ## The tick begun -/

/-- R158: the tick with its inputs renewed and its trigger given, before its frames. -/
def tickCounted (s : State) : State := ((s.countTick).renewInputs).onScanner (Scanner.trigger s.now .tick)

/-- R158: the tick with its frames queued and the answer flags served, before the silence check. -/
def tickBegun (s : State) : State :=
  (((tickCounted s).queueLine).queueState).when (!(tickCounted s).round.phase.outside) State.answerTick

theorem tick_eq (s : State) : s.tick = (((tickBegun s).silenceCheck).checkPresence).testJoin.testAgreement := rfl

/-- R188: the round once the join window is counted down. -/
def Round.ticked (r : Round) : Round := { r with joinLeft := if r.phase = .joining then r.joinLeft - 1 else r.joinLeft }

theorem tickCounted_fields (s : State) :
    (tickCounted s).round = Round.ticked s.round ∧ (tickCounted s).roster = s.roster ∧ (tickCounted s).plan = s.plan ∧
    (tickCounted s).watch = s.watch ∧ (tickCounted s).bypass = s.bypass ∧ (tickCounted s).store = s.store ∧
    (tickCounted s).now = s.now ∧ (tickCounted s).bus = { s.bus with nextTick := s.bus.nextTick + s.report } := by
  unfold tickCounted State.renewInputs State.when
  split <;> exact ⟨rfl, rfl, rfl, rfl, rfl, rfl, rfl, rfl⟩

theorem enqueue_isoClock (b : QBody) (s : State) : (s.enqueue b).bus.isoClock = s.bus.isoClock := by
  unfold State.enqueue
  split <;> rfl

theorem queueSummary_isoClock (s : State) : s.queueSummary.bus.isoClock = s.bus.isoClock := by
  unfold State.queueSummary
  split
  · rfl
  · exact enqueue_isoClock .summary s

theorem answerTick_fields (s : State) :
    SameTable s.answerTick.roster s.roster ∧ s.answerTick.roster.authority = s.roster.authority ∧
    s.answerTick.bus.isoClock = s.bus.isoClock := by
  unfold State.answerTick
  dsimp only
  split
  · exact ⟨(sameTable_queueSummary _).trans ⟨rfl, rfl, rfl, rfl⟩, queueSummary_authority _, queueSummary_isoClock _⟩
  · exact ⟨⟨rfl, rfl, rfl, rfl⟩, rfl, rfl⟩

theorem queueLine_isoClock (s : State) : s.queueLine.bus.isoClock = s.bus.isoClock := by
  unfold State.queueLine
  split
  · exact enqueue_isoClock _ _
  · rfl

/-- The station after the tick's frames: the round counted down, table, plan, Cell Watch, bypass, heard table and clocks as
they were. -/
structure TickBegun (s r : State) : Prop where
  round : r.round = Round.ticked s.round
  table : SameTable r.roster s.roster
  plan : r.plan = s.plan
  watch : r.watch = s.watch
  bypass : r.bypass = s.bypass
  store : r.store = s.store
  now : r.now = s.now
  heard : r.bus.heard = s.bus.heard
  resetAt : r.bus.resetAt = s.bus.resetAt
  isoClock : r.bus.isoClock = s.bus.isoClock
  duplicate : r.bus.duplicate = s.bus.duplicate

theorem tickBegun_holds (s : State) : TickBegun s (tickBegun s) := by
  obtain ⟨h1, h2, h3, h4, h5, h6, h7, h8⟩ := tickCounted_fields s
  have hq : TickBegun s ((tickCounted s).queueLine).queueState := by
    refine ⟨by simpa using h1, ?_, by simpa using h3, by simpa using h4, by simpa using h5, by simpa using h6,
      by simpa using h7, by simp [h8], by simp [h8], ?_, by simp [h8]⟩
    · simp only [State.queueState_frame, State.queueLine_frame, h2]
      exact .refl _
    · rw [State.queueState, enqueue_isoClock, queueLine_isoClock, h8]
  refine when_keeps (P := TickBegun s) hq fun _ => ?_
  generalize ((tickCounted s).queueLine).queueState = q at hq
  obtain ⟨g1, -, g3⟩ := answerTick_fields q
  exact ⟨by simpa using hq.round, g1.trans hq.table, by simpa using hq.plan, by simpa using hq.watch,
    by simpa using hq.bypass, by simpa using hq.store, by simpa using hq.now, by simpa using hq.heard,
    by simpa using hq.resetAt, g3.trans hq.isoClock, by simpa using hq.duplicate⟩

/-! ## The registers a tick sets in every phase -/

/-- R158: a tick at its time. -/
theorem exec_reportTick {t : Time} {s : State} (hr : s.runs = true) (hd : s.bus.nextTick ≤ max s.now t) :
    exec (.reportTick t) s = .next (s.advance t).tick := by
  have hdue : (s.advance t).tickDue = true := decide_eq_true hd
  have h : exec (.reportTick t) s = .next ((s.advance t).when (s.advance t).tickDue State.tick) := State.runAt_runs hr
  rw [h, hdue, State.when_true]

/-- R158: a tick before its time. -/
theorem exec_reportTick_early {t : Time} {s : State} (hr : s.runs = true) (hd : max s.now t < s.bus.nextTick) :
    exec (.reportTick t) s = .next (s.advance t) := by
  have hdue : (s.advance t).tickDue = false := decide_eq_false (Nat.not_le.mpr hd)
  have h : exec (.reportTick t) s = .next ((s.advance t).when (s.advance t).tickDue State.tick) := State.runAt_runs hr
  rw [h, hdue, State.when_false]

/-- R188: the third tick after the entry to JOINING. -/
theorem exec_joinWindowEnd {t : Time} {s : State} (hr : s.runs = true) (hd : s.bus.nextTick ≤ max s.now t)
    (hp : s.round.phase = .joining) (hl : s.round.joinLeft = 1) :
    exec (.joinWindowEnd t) s = .next (s.advance t).tick := by
  have hdue : ((s.advance t).tickDue && (s.advance t).round.phase == .joining && (s.advance t).round.joinLeft == 1) = true := by
    have h1 : (s.advance t).tickDue = true := decide_eq_true hd
    have h2 : (s.advance t).round.phase = .joining := hp
    have h3 : (s.advance t).round.joinLeft = 1 := hl
    rw [h1, h2, h3]
    rfl
  have h : exec (.joinWindowEnd t) s = .next ((s.advance t).when
      ((s.advance t).tickDue && (s.advance t).round.phase == .joining && (s.advance t).round.joinLeft == 1) State.tick) :=
    State.runAt_runs hr
  rw [h, hdue, State.when_true]

/-- R158, R159: the next tick, the store and the number of the last LINE frame. -/
theorem tick_registers (s : State) :
    s.tick.bus.nextTick = s.bus.nextTick + s.report ∧ s.tick.store = s.store ∧
    s.tick.port.lastMark =
      if s.isLine && s.store.valid && !s.countTick.barred then s.port.lastMark + 1 else s.port.lastMark := by
  obtain ⟨-, -, -, -, -, h6, -, h8⟩ := tickCounted_fields s
  have hround : (tickCounted s).round = s.countTick.round := (tickCounted_fields s).1
  have hport : (tickCounted s).port.lastMark = s.port.lastMark := by
    unfold tickCounted State.renewInputs State.when
    split <;> rfl
  have hbarred : (tickCounted s).barred = s.countTick.barred := by
    rw [State.barred, State.barred, hround, h8, fitted_congr h6, fitted_congr (r := s.countTick) (s := s) (by simp)]
    rfl
  have hmark : (tickCounted s).queueLine.port.lastMark =
      if s.isLine && s.store.valid && !s.countTick.barred then s.port.lastMark + 1 else s.port.lastMark := by
    rw [State.queueLine, isLine_congr h6, h6, hbarred]
    split
    · simp [hport]
    · exact hport
  have hbegun : (tickBegun s).bus.nextTick = s.bus.nextTick + s.report ∧
      (tickBegun s).port.lastMark = (tickCounted s).queueLine.port.lastMark := by
    refine when_keeps (P := fun r : State => r.bus.nextTick = s.bus.nextTick + s.report ∧
      r.port.lastMark = (tickCounted s).queueLine.port.lastMark) ⟨by simp [h8], by simp⟩ fun _ => ⟨by simp [h8], by simp⟩
  obtain ⟨g1, g2⟩ := hbegun
  rw [tick_eq]
  exact ⟨by simpa using g1, by simpa using (tickBegun_holds s).store, by simpa [hmark] using g2⟩

/-! ## The tick in JOINING -/

/-- The station in JOINING at the test of the join conditions: as the tick began, but for the line station's presence. -/
structure AtJoin (s r : State) : Prop where
  round : r.round = { s.round with
    joinLeft := s.round.joinLeft - 1, lineLost := r.round.lineLost, linePresent := r.round.linePresent }
  roster : r.roster = s.roster
  plan : r.plan = s.plan
  watch : r.watch = s.watch
  bypass : r.bypass = s.bypass
  store : r.store = s.store
  now : r.now = s.now
  heard : r.bus.heard = s.bus.heard
  duplicate : r.bus.duplicate = s.bus.duplicate
  barred : (s.bus.duplicate || !s.fitted || decide (2 ≤ s.round.joinLeft)) = true → r.bus.queue = s.bus.queue
  report : (s.bus.duplicate || !s.fitted || decide (2 ≤ s.round.joinLeft)) = false → s.store.valid = false →
    r.bus.queue = enqueueFrame s.now .state s.bus.queue

/-- R32: in JOINING the presence check writes the presence alone. -/
theorem checkPresence_joining {s : State} (hp : s.round.phase = .joining) :
    ∃ lost present, s.checkPresence = s.onRound fun r => { r with lineLost := lost, linePresent := present } := by
  unfold State.checkPresence
  split
  · exact ⟨false, true, rfl⟩
  · split
    · have hlost : ∀ r : State, r.round.phase = .joining → r.lineStationLost = r := fun r hr => by
        unfold State.lineStationLost
        rw [hr]
      exact ⟨true, false, hlost _ hp⟩
    · exact ⟨_, _, rfl⟩

theorem tick_joining {s : State} (hp : s.round.phase = .joining) :
    ∃ r, AtJoin s r ∧ s.tick = r.testJoin.testAgreement := by
  have hbegun := tickBegun_holds s
  obtain ⟨h1, h2, h3, h4, h5, h6, h7, h8⟩ := tickCounted_fields s
  have hround : (tickBegun s).round = { s.round with joinLeft := s.round.joinLeft - 1 } := by
    rw [hbegun.round, Round.ticked, if_pos hp]
  have hphase : (tickBegun s).round.phase = .joining := by rw [hround]; exact hp
  have hout : (tickCounted s).round.phase.outside = true := by rw [h1, Round.ticked, hp]; rfl
  have heq : tickBegun s = ((tickCounted s).queueLine).queueState := by
    rw [tickBegun, hout]
    exact State.when_false ..
  have hsilence : (tickBegun s).silenceCheck = tickBegun s := by
    have hnot : (tickBegun s).checksSilence = false := by simp [State.checksSilence, hphase, Phase.outside]
    rw [State.silenceCheck, hnot, State.when_false]
  have hbarred : (tickCounted s).barred = (s.bus.duplicate || !s.fitted || decide (2 ≤ s.round.joinLeft)) := by
    have hleft : (tickCounted s).round.joinLeft = s.round.joinLeft - 1 := by rw [h1, Round.ticked, if_pos hp]
    have hstill : (tickCounted s).round.phase = .joining := by rw [h1]; exact hp
    rw [State.barred, hstill, h8, fitted_congr h6, hleft]
    have hopen : decide (0 < s.round.joinLeft - 1) = decide (2 ≤ s.round.joinLeft) := by
      rw [decide_eq_decide]
      omega
    show (((false || s.bus.duplicate) || !s.fitted) || (true && decide (0 < s.round.joinLeft - 1))) = _
    rw [Bool.false_or, Bool.true_and, hopen]
  obtain ⟨lost, present, hcheck⟩ := checkPresence_joining hphase
  refine ⟨(tickBegun s).onRound fun r => { r with lineLost := lost, linePresent := present }, ?_, ?_⟩
  · refine ⟨by rw [State.onRound_round, hround], ?_, hbegun.plan, hbegun.watch, hbegun.bypass, hbegun.store, hbegun.now,
      hbegun.heard, hbegun.duplicate, fun hb => ?_, fun hb hv => ?_⟩
    · rw [State.onRound_roster, heq]
      simpa using h2
    · rw [hb] at hbarred
      have hline : (tickCounted s).queueLine = tickCounted s := by simp [State.queueLine, hbarred]
      rw [State.onRound_bus, heq, hline, State.queueState, State.enqueue, hbarred, if_pos rfl, h8]
    · rw [hb] at hbarred
      have hline : (tickCounted s).queueLine = tickCounted s := by simp [State.queueLine, h6, hv]
      rw [State.onRound_bus, heq, hline, State.queueState, State.enqueue, hbarred, if_neg Bool.false_ne_true,
        State.onBus_bus, h8, h7]
  · rw [tick_eq, hsilence, hcheck]

end Sys2Proof.Proofs

/-! # The silence check of a report tick

PROOFS about the marks of a report tick (R12 to R14, R38): index by index in TRIPPED and LOCKOUT; the first of them a trip at the
successor epoch in RUNNING and REVISING. -/

namespace Sys2Proof.Proofs

open Sys2Proof.Machine Sys2Proof.Safety

/-! ## One mark -/

section
variable {s r : State}

theorem checkIndex_of_not {i : Nat} (h : s.toMark i = false) : s.checkIndex i = s := by
  rw [State.checkIndex, h, State.when_false]

/-- R12, R14: what the test of an index is read from. -/
theorem toMark_congr (i : Nat) (he : r.roster.entries[i - 1]? = s.roster.entries[i - 1]?) (hst : r.store = s.store)
    (hn : r.now = s.now) (hh : r.bus.heard = s.bus.heard) (hr : r.bus.resetAt = s.bus.resetAt) :
    r.toMark i = s.toMark i := by
  have hentry : r.entryAt i = s.entryAt i := by
    rw [State.entryAt, State.entryAt, List.getD_eq_getElem?_getD, List.getD_eq_getElem?_getD, he]
  rw [State.toMark, State.toMark, State.ownerAbsent, State.ownerAbsent, State.ownIndex_congr hst, hentry,
    State.params_congr hst, heardAt_congr hh, quietTime_congr hst, hn, hr, hst]

/-- R13: a mark in TRIPPED and LOCKOUT writes its own entry alone. -/
theorem checkIndex_entries {j : Nat} (hp : Phase.idles s.round.phase) (hm : s.toMark j = true) :
    (s.checkIndex j).roster.entries = setAt s.roster.entries (j - 1) ((s.entryAt j).marked s.now) := by
  have hwrite : (s.writeEntry j ((s.entryAt j).marked s.now)).roster.entries =
      setAt s.roster.entries (j - 1) ((s.entryAt j).marked s.now) := rfl
  have hplan : ∀ q : State, Phase.idles q.round.phase → (q.handChange .mark j).roster = q.roster := by
    intro q hq
    rw [State.handChange, entryChange_idle (by simpa using hq)]
    simp
  rw [State.checkIndex, hm, State.when_true, State.markEntry, (sameTable_queueSummary _).1, hplan _ (by simpa using hp), hwrite]

/-- R12: the check of an index leaves what the others' tests read. -/
theorem checkIndex_other {i j : Nat} (hi : 1 ≤ i) (hj : 1 ≤ j) (hne : i ≠ j) (hp : Phase.idles s.round.phase) :
    (s.checkIndex j).roster.entries[i - 1]? = s.roster.entries[i - 1]? ∧ (s.checkIndex j).toMark i = s.toMark i := by
  have hentry : (s.checkIndex j).roster.entries[i - 1]? = s.roster.entries[i - 1]? := by
    cases hm : s.toMark j with
    | false => rw [checkIndex_of_not hm]
    | true =>
      rw [checkIndex_entries hp hm, setAt]
      exact List.getElem?_set_ne (by omega)
  exact ⟨hentry, toMark_congr i hentry (by simp) (by simp) (by simp) (by simp)⟩

/-- R13: a marked entry. -/
theorem checkIndex_marked {i : Nat} {e : RosterEntry} (hp : Phase.idles s.round.phase) (hm : s.toMark i = true)
    (he : s.roster.entries[i - 1]? = some e) :
    (s.checkIndex i).roster.entries[i - 1]? = some ⟨.silent, .observer, 0, versionSucc e.version, s.now⟩ := by
  have hlt : i - 1 < s.roster.entries.length := (List.getElem?_eq_some_iff.mp he).1
  have hentry : s.entryAt i = e := entryAt_of_getElem? he
  rw [checkIndex_entries hp hm, hentry, setAt, List.getElem?_set_self hlt]
  rfl

/-! ## The marks in TRIPPED and LOCKOUT -/

theorem checkIndices_cons (j : Nat) (l : List Nat) (s : State) :
    s.checkIndices (j :: l) = (s.checkIndex j).checkIndices l := rfl

theorem checkIndices_of_not_mem {i : Nat} (hi : 1 ≤ i) {l : List Nat} (hl : ∀ j ∈ l, 1 ≤ j) (hmem : i ∉ l) :
    ∀ {s : State}, Phase.idles s.round.phase → (s.checkIndices l).roster.entries[i - 1]? = s.roster.entries[i - 1]? := by
  induction l with
  | nil => exact fun _ => rfl
  | cons j l ih =>
    intro s hp
    obtain ⟨hne, hrest⟩ := not_or.mp fun h => hmem (List.mem_cons.mpr h)
    have hidle : Phase.idles (s.checkIndex j).round.phase := by rwa [(idles_checkIndex hp j).phase]
    rw [checkIndices_cons, ih (fun k hk => hl k (List.mem_cons_of_mem _ hk)) hrest hidle]
    exact (checkIndex_other hi (hl j (List.mem_cons_self ..)) hne hp).1

/-- R12, R13: the entry of an index after the silence check. -/
theorem checkIndices_entry {i : Nat} {e : RosterEntry} (hi : 1 ≤ i) {l : List Nat} (hl : ∀ j ∈ l, 1 ≤ j)
    (hnodup : l.Nodup) (hmem : i ∈ l) : ∀ {s : State}, Phase.idles s.round.phase → s.roster.entries[i - 1]? = some e →
      (s.toMark i = true → (s.checkIndices l).roster.entries[i - 1]? =
        some ⟨.silent, .observer, 0, versionSucc e.version, s.now⟩) ∧
      (s.toMark i = false → (s.checkIndices l).roster.entries[i - 1]? = some e) := by
  induction l with
  | nil => simp at hmem
  | cons j l ih =>
    intro s hp he
    obtain ⟨hj, hl'⟩ := List.forall_mem_cons.mp hl
    obtain ⟨hout, hrest⟩ := List.nodup_cons.mp hnodup
    have hidle : Phase.idles (s.checkIndex j).round.phase := by rwa [(idles_checkIndex hp j).phase]
    rw [checkIndices_cons]
    by_cases hij : i = j
    · obtain rfl := hij
      rw [checkIndices_of_not_mem hi hl' hout hidle]
      exact ⟨fun hm => checkIndex_marked hp hm he, fun hm => by rw [checkIndex_of_not hm, he]⟩
    · obtain ⟨hentry, hmark⟩ := checkIndex_other hi hj hij hp
      have hnow : (s.checkIndex j).now = s.now := by simp
      have h := ih hl' hrest ((List.mem_cons.mp hmem).resolve_left hij) hidle (hentry.trans he)
      rwa [hmark, hnow] at h

/-! ## The first mark in RUNNING and REVISING -/

/-- R13, R38: a trip at the successor epoch. -/
def TrippedOver (s r : State) : Prop :=
  r.round.epoch = s.round.epoch + 1#16 ∧ (r.round.phase = .tripped ∨ r.round.phase = .lockout) ∧ r.plan.inForce = none

theorem TrippedOver.idles {s r q : State} (h : TrippedOver s r) (hi : Idles r q) : TrippedOver s q := by
  obtain ⟨h1, h2, h3⟩ := h
  exact ⟨by rw [hi.round]; exact h1, by rw [hi.phase]; exact h2, hi.inForce.trans h3⟩

/-- R13, R38: an index marked while the drive modulates. -/
theorem checkIndex_trips {j : Nat} (hp : s.round.phase = .running ∨ s.round.phase = .revising) (hm : s.toMark j = true) :
    TrippedOver s (s.checkIndex j) := by
  have halarm : ∀ q : State, q.round = s.round → (q.entryChange .mark) = q.localAlarm FaultClass.silent := by
    intro q hq
    unfold State.entryChange
    rw [hq]
    rcases hp with h | h <;> rw [h] <;> rfl
  have hround : ((s.writeEntry j ((s.entryAt j).marked s.now)).planEntryChange j).round = s.round := by simp
  have htaken := localAlarm_taken (s := (s.writeEntry j ((s.entryAt j).marked s.now)).planEntryChange j) FaultClass.silent
    (by rw [hround]; rcases hp with h | h <;> rw [h] <;> rfl)
  have heq : s.checkIndex j = (((s.writeEntry j ((s.entryAt j).marked s.now)).planEntryChange j).localAlarm
      FaultClass.silent).queueSummary := by
    rw [State.checkIndex, hm, State.when_true, State.markEntry, State.handChange, halarm _ hround]
  have hsummary := idles_queueSummary (((s.writeEntry j ((s.entryAt j).marked s.now)).planEntryChange j).localAlarm
    FaultClass.silent)
  rw [heq]
  refine TrippedOver.idles ⟨?_, htaken.phase, htaken.inForce⟩ hsummary
  rw [htaken.epoch, hround]

theorem checkIndices_trips {i : Nat} {l : List Nat} (hp : s.round.phase = .running ∨ s.round.phase = .revising)
    (hmem : i ∈ l) (hm : s.toMark i = true) : TrippedOver s (s.checkIndices l) := by
  induction l with
  | nil => simp at hmem
  | cons j l ih =>
    rw [checkIndices_cons]
    cases hj : s.toMark j with
    | true =>
      have ht := checkIndex_trips hp hj
      exact ht.idles (idles_checkIndices l (.inr ht.2.1.symm))
    | false =>
      rw [checkIndex_of_not hj]
      refine ih ((List.mem_cons.mp hmem).resolve_left fun hij => ?_)
      rw [← hij, hm] at hj
      simp at hj

/-! ## The tick inside the drive -/

/-- R12: the indices of the silence check of a tick. -/
theorem mem_tickIndices {s : State} {i : Nat} (h1 : 1 ≤ i) (h2 : i ≤ 3 * s.params.cells) :
    i ∈ (List.range (3 * s.params.cells)).map (· + 1) :=
  List.mem_map.mpr ⟨i - 1, List.mem_range.mpr (by omega), by omega⟩

theorem silenceCheck_eq (h : s.checksSilence = true) :
    s.silenceCheck = s.checkIndices ((List.range (3 * s.params.cells)).map (· + 1)) := by
  rw [State.silenceCheck, h, State.when_true]

theorem testJoin_of_not (hp : s.round.phase ≠ .joining) : s.testJoin = s := by
  rw [State.testJoin, if_neg fun h => hp h.1]

/-- R32: in TRIPPED and LOCKOUT the presence check leaves the roster. -/
theorem checkPresence_roster (hp : s.round.phase = .tripped ∨ s.round.phase = .lockout) :
    s.checkPresence.roster = s.roster := by
  unfold State.checkPresence
  split
  · rfl
  · split
    · have hnoted : (s.onRound fun r => { r with lineLost := true, linePresent := false }).lineStationLost =
          s.onRound fun r => { r with lineLost := true, linePresent := false } := lineStationLost_stands hp
      rw [hnoted]
      rfl
    · rfl

/-- What a tick does after its silence check in TRIPPED and LOCKOUT. -/
theorem tickTests_idle (hp : s.round.phase = .tripped ∨ s.round.phase = .lockout) :
    s.checkPresence.testJoin.testAgreement = s.checkPresence := by
  have hphase : s.checkPresence.round.phase = s.round.phase := (idles_checkPresence (.inr hp.symm)).phase
  rw [testJoin_of_not (by rw [hphase]; rcases hp with h | h <;> rw [h] <;> simp),
    testAgreement_idle (by rw [hphase]; exact .inr hp.symm)]

/-- R12: the tick's silence check of the index `i`, inside the drive with a frame heard within QUIET_LIMIT report periods. -/
structure TickChecks (s : State) (i : Nat) : Prop where
  valid : s.store.valid = true
  young : s.now - s.bus.isoClock < s.quietTime
  inside : s.round.phase.outside = false
  lower : 1 ≤ i
  upper : i ≤ 3 * s.params.cells

theorem TickBegun.checks {i : Nat} (hb : TickBegun s r) (h : TickChecks s i) : TickChecks r i where
  valid := by rw [hb.store]; exact h.valid
  young := by rw [hb.now, hb.isoClock, quietTime_congr hb.store]; exact h.young
  inside := by rw [hb.round]; exact h.inside
  lower := h.lower
  upper := by rw [State.params_congr hb.store]; exact h.upper

theorem TickBegun.toMark (hb : TickBegun s r) (i : Nat) : r.toMark i = s.toMark i :=
  toMark_congr i (by rw [hb.table.1]) hb.store hb.now hb.heard hb.resetAt

theorem TickChecks.checksSilence {i : Nat} (h : TickChecks s i) : s.checksSilence = true := by
  simp [State.checksSilence, h.valid, h.young, h.inside]

/-- R12, R13: an entry after a tick in TRIPPED and LOCKOUT. -/
theorem tick_entry {i : Nat} {e : RosterEntry} (hp : s.round.phase = .tripped ∨ s.round.phase = .lockout)
    (h : TickChecks s i) (he : s.roster.entries[i - 1]? = some e) :
    (s.toMark i = true → s.tick.roster.entries[i - 1]? = some ⟨.silent, .observer, 0, versionSucc e.version, s.now⟩) ∧
    (s.toMark i = false → s.tick.roster.entries[i - 1]? = some e) := by
  have hb := tickBegun_holds s
  have hphase : (tickBegun s).round.phase = s.round.phase := by rw [hb.round]; rfl
  have hidle : Phase.idles (tickBegun s).round.phase := by rw [hphase]; exact .inr hp.symm
  have hc := hb.checks h
  have hsilence : Idles (tickBegun s) (tickBegun s).silenceCheck := by
    rw [silenceCheck_eq hc.checksSilence]
    exact idles_checkIndices _ hidle
  have hafter : (tickBegun s).silenceCheck.round.phase = .tripped ∨ (tickBegun s).silenceCheck.round.phase = .lockout := by
    rw [hsilence.phase, hphase]
    exact hp
  have hentry := checkIndices_entry (i := i) (e := e) h.lower (l := (List.range (3 * (tickBegun s).params.cells)).map (· + 1))
    (fun j hj => by obtain ⟨k, -, rfl⟩ := List.mem_map.mp hj; omega)
    (List.Pairwise.map (· + 1) (fun a b hab h => hab (Nat.succ.inj h)) List.nodup_range) (mem_tickIndices hc.lower hc.upper) hidle
    (by rw [hb.table.1]; exact he)
  rw [hb.toMark, hb.now, ← silenceCheck_eq hc.checksSilence] at hentry
  rw [tick_eq, tickTests_idle hafter, checkPresence_roster hafter]
  exact hentry

/-- R13, R38: a tick that marks an index while the drive modulates. -/
theorem tick_trips {i : Nat} (hp : s.round.phase = .running ∨ s.round.phase = .revising) (h : TickChecks s i)
    (hm : s.toMark i = true) : TrippedOver s s.tick := by
  have hb := tickBegun_holds s
  have hround : (tickBegun s).round.phase = s.round.phase ∧ (tickBegun s).round.epoch = s.round.epoch := by
    rw [hb.round]
    exact ⟨rfl, rfl⟩
  have hc := hb.checks h
  have ht : TrippedOver s (tickBegun s).silenceCheck := by
    rw [silenceCheck_eq hc.checksSilence]
    obtain ⟨h1, h2, h3⟩ := checkIndices_trips (s := tickBegun s) (by rwa [hround.1]) (mem_tickIndices hc.lower hc.upper)
      ((hb.toMark i).trans hm)
    exact ⟨by rw [h1, hround.2], h2, h3⟩
  rw [tick_eq, tickTests_idle ht.2.1]
  exact ht.idles (idles_checkPresence (.inr ht.2.1.symm))

end

end Sys2Proof.Proofs

/-! # JOINING left at a report tick

PROOFS about the exit from JOINING (R11, R39, R40, R188): the phase entered, the join assertion and the entry change it hands on. -/

namespace Sys2Proof.Proofs

open Sys2Proof.Machine Sys2Proof.Safety

/-! ## The own entry asserted -/

section
variable {s : State} {i : Nat} {c : Condition} {k : FaultClass}

/-- R9, R25: the table after an own entry asserted. -/
theorem assertEntry_table (i : Nat) (c : Condition) (k : FaultClass) (s : State) :
    SameTable (s.assertEntry i c k).roster (s.writeEntry i ((s.entryAt i).owned c k)).roster := by
  obtain ⟨-, htable, -⟩ := handed_handChange (o := .owner) (by simp) i
    ((s.writeEntry i ((s.entryAt i).owned c k)).timeRest c)
  exact (sameTable_queueSummary _).trans htable

/-- R38: the round after an own entry asserted is the one after its entry change. -/
theorem assertEntry_round (i : Nat) (c : Condition) (k : FaultClass) (s : State) :
    ∃ q : State, q.round = s.round ∧ (s.assertEntry i c k).round = (q.entryChange .owner).round :=
  ⟨((s.writeEntry i ((s.entryAt i).owned c k)).timeRest c).planEntryChange i, by simp,
    by simp [State.assertEntry, State.handChange]⟩

/-- R11, R141: the join assertion, with the contactor confirmed closed for no class latched. -/
theorem joinAssertion_eq (hown : s.ownIndex = some i) (hc : s.watch.latch ≠ [] → s.bypass.confirmedClosed = false) :
    s.joinAssertion = s.assertEntry i s.assertedContent.1 s.assertedContent.2 := by
  obtain ⟨hhanded, -, -⟩ := handed_assertEntry i s.assertedContent.1 s.assertedContent.2 s
  have hlatch : (s.assertEntry i s.assertedContent.1 s.assertedContent.2).watch.latch = s.watch.latch := by
    rw [hhanded.watch]
  have hno : ((s.assertEntry i s.assertedContent.1 s.assertedContent.2).bypass.confirmedClosed &&
      (s.assertEntry i s.assertedContent.1 s.assertedContent.2).faultedWithLatch) = false := by
    rw [hhanded.bypass, State.faultedWithLatch, hlatch]
    by_cases he : s.watch.latch = []
    · simp [he]
    · rw [hc he, Bool.false_and]
  rw [State.joinAssertion, hown]
  show State.when _ _ _ = _
  rw [hno, State.when_false]

/-- R11: the content asserted by a Cell Watch beside a line station in a phase. -/
def joinContent (w : Watch) (p : Phase) : Condition × FaultClass :=
  if w.latch ≠ [] then (.faulted, w.leading)
  else if p = .running ∨ p = .revising then (.resting, FaultClass.isolation)
  else if w.passSeen = false then (.resting, FaultClass.refused)
  else if 0 < w.linkLow then (.resting, FaultClass.linkLow)
  else if 0 < w.heat then (.resting, FaultClass.heat)
  else if 0 < w.supply then (.resting, FaultClass.supply)
  else if 0 < w.input then (.resting, FaultClass.input)
  else if 0 < w.tripHigh then (.resting, FaultClass.refused)
  else (.live, 0)

theorem assertedContent_eq {h : HeardState} (hh : (s.heardAt 0).state = some h) :
    s.assertedContent = joinContent s.watch h.phase := by
  unfold State.assertedContent State.lineDrives Watch.softStanding joinContent
  rw [hh]
  by_cases h1 : s.watch.latch = []
  · by_cases h2 : h.phase = .running ∨ h.phase = .revising
    · simp [h1, h2, Phase.drives]
    · have hdrives : h.phase.drives = false := by simpa [Phase.drives] using h2
      cases hpass : s.watch.passSeen
      · simp [h1, h2, hdrives]
      · simp only [h1, h2, hdrives, List.isEmpty_nil, Bool.not_true, Bool.false_eq_true, ne_eq, not_true_eq_false,
          reduceCtorEq, if_false]
        by_cases hlink : 0 < s.watch.linkLow
        · simp only [hlink, if_true]
        by_cases hheat : 0 < s.watch.heat
        · simp only [hlink, hheat, if_true, if_false]
        by_cases hsupply : 0 < s.watch.supply
        · simp only [hlink, hheat, hsupply, if_true, if_false]
        by_cases hinput : 0 < s.watch.input
        · simp only [hlink, hheat, hsupply, hinput, if_true, if_false]
        by_cases htrip : 0 < s.watch.tripHigh
        · simp only [hlink, hheat, hsupply, hinput, htrip, if_true, if_false]
        · simp only [hlink, hheat, hsupply, hinput, htrip, if_false]
          rfl
  · simp [h1]

/-- R5, R11: every content asserted is an owner's. -/
theorem joinContent_owner (w : Watch) (p : Phase) : sourceOf (joinContent w p).1 = .owner := by
  unfold joinContent
  repeat' split
  all_goals rfl

/-! ## The entry -/

/-- R39, R40: what the entry from JOINING asks of the round for the phase entered to stand. -/
def StandsAt (p : Phase) (s : State) : Prop :=
  p.stays = true ∨ (p = .halted ∧ s.round.runDemand = false ∧ s.round.deferred = false) ∨
    (p = .running ∧ s.isLine = false ∧ s.round.facts.runReq = true ∧ s.round.deferred = false)

theorem commandsOnEntry_of_stays {p0 p : Phase} (hp : p.stays = true) (ho : p.outside = false) :
    s.commandsOnEntry p0 p = s := by
  cases p <;> simp_all [Phase.stays, Phase.outside, State.commandsOnEntry]

/-- R30: a phase entered from JOINING that stands. -/
theorem enter_from_joining {p : Phase} (hj : s.round.phase = .joining) (ho : p.outside = false) (hs : StandsAt p s) :
    s.enter p = s.enterBase p := by
  have hround := State.enterBase_round p s
  rcases hs with hp | ⟨rfl, hd, hf⟩ | ⟨rfl, hl, hq, hf⟩
  · rw [State.enter_of_stays p s hp, State.enterPhase, commandsOnEntry_of_stays hp ho]
  · refine State.enter_of_no_transition .halted s ?_ ?_
    · show (s.enterBase .halted).entryTransition = none
      unfold State.entryTransition
      rw [hround]
      simp [Round.onEntry, deferredAfter, runDemandAfter, hj, hd, hf]
    · show (s.enterBase .halted).round.phase ≠ .arming
      rw [hround]
      simp [Round.onEntry]
  · have heq : s.enterPhase .running = s.enterBase .running := by
      have hno : (s.enterBase .running).releaseRises s.round.phase = false := by
        rw [State.releaseRises, isLine_congr (s := s) (by simp), hl]
        rfl
      show (s.enterBase .running).when ((s.enterBase .running).releaseRises s.round.phase) State.supplyCatch = _
      rw [hno, State.when_false]
    rw [← heq]
    refine State.enter_of_no_transition .running s ?_ ?_ <;> rw [heq]
    · unfold State.entryTransition
      rw [hround]
      simp [Round.onEntry, deferredAfter, hq, hf]
    · rw [hround]
      simp [Round.onEntry]

/-- R38: the phase once the join assertion has handed on its entry change. -/
def phaseAsserted : Phase → Phase
  | .halted => .settling
  | .running => .revising
  | p => p

/-- R39, R40: the exit of a cell station prepared. -/
theorem prepareExit_cell (p : Phase) (hl : s.isLine = false) :
    s.prepareExit p = s.onRound fun r => { r with
      tripRound := if p = .settling then r.facts.brakeOpen else r.tripRound, resettle := 0 } := by
  have hcell : s.isCell = true := by rw [isCell_eq_not_isLine, hl]; rfl
  have hbrake : s.brakeAtJoin = s.round.facts.brakeOpen := by rw [State.brakeAtJoin, hl, if_neg Bool.false_ne_true]
  have hflag : s.when (p == .settling) (fun s => s.onRound fun r => { r with tripRound := s.brakeAtJoin }) =
      s.onRound fun r => { r with tripRound := if p = .settling then r.facts.brakeOpen else r.tripRound } := by
    by_cases hp : p = .settling
    · simp only [hp, beq_self_eq_true, State.when_true, hbrake, if_true]
      rfl
    · simp only [beq_eq_false_iff_ne.mpr hp, State.when_false, hp, if_false]
      rfl
  rw [State.prepareExit, hflag, hcell, State.when_true]
  rfl

/-- R11, R39: a cell station joined by the assertion of its own entry `e'` at the index `i`, with the phase `p` entered. -/
structure Joined (s : State) (i : Nat) (e' : RosterEntry) (p : Phase) (r : State) : Prop where
  authority : r.roster.authority = true
  entries : r.roster.entries = s.roster.entries.set (i - 1) e'
  changed : rosterDigestOf (s.roster.entries.set (i - 1) e') ≠ s.roster.digest → r.roster.digestChange = r.now
  store : r.store = s.store
  phase : r.round.phase = phaseAsserted p
  settled : p = .settling → r.round.resettle = 0 ∧ r.round.tripRound = s.round.facts.brakeOpen

/-- The own entry `e` of a cell station with a line station in the phase `p`, once asserted. -/
def joinEntry (w : Watch) (p : Phase) (e : RosterEntry) : RosterEntry :=
  ⟨(joinContent w p).1, .owner, (joinContent w p).2, versionSucc e.version, e.silentSince⟩

theorem leaveJoining_joined {h : HeardState} {p : Phase} {e : RosterEntry} (hl : s.isLine = false)
    (hj : s.round.phase = .joining) (hp : p = .lockout ∨ p = .settling ∨ p = .halted ∨ p = .running) (hs : StandsAt p s)
    (hh : (s.heardAt 0).state = some h) (hown : s.ownIndex = some i) (he : s.roster.entries[i - 1]? = some e)
    (hc : s.watch.latch ≠ [] → s.bypass.confirmedClosed = false) :
    Joined s i (joinEntry s.watch h.phase e) p (s.leaveJoining p) := by
  have ho : p.outside = false := by rcases hp with rfl | rfl | rfl | rfl <;> rfl
  have hentered : (s.prepareExit p).enter p = (s.prepareExit p).enterBase p := by
    rw [prepareExit_cell p hl]
    exact enter_from_joining hj ho hs
  have hround : ((s.prepareExit p).enterBase p).round.phase = p ∧ (p = .settling →
      ((s.prepareExit p).enterBase p).round.resettle = 0 ∧
      ((s.prepareExit p).enterBase p).round.tripRound = s.round.facts.brakeOpen) := by
    rw [State.enterBase_round, prepareExit_cell p hl]
    refine ⟨rfl, ?_⟩
    rintro rfl
    exact ⟨rfl, rfl⟩
  have hkept : (s.prepareExit p).store = s.store ∧ (s.prepareExit p).bus = s.bus ∧ (s.prepareExit p).bypass = s.bypass ∧
      (s.prepareExit p).watch = s.watch ∧ (s.prepareExit p).round.phase ≠ .arming ∧
      (s.prepareExit p).roster = s.roster := by
    rw [prepareExit_cell p hl]
    exact ⟨rfl, rfl, rfl, rfl, by rw [State.onRound_round, hj]; simp, rfl⟩
  rw [State.leaveJoining, hentered]
  generalize s.prepareExit p = x at hround hkept
  obtain ⟨x1, x2, x3, x4, x5, x6⟩ := hkept
  have hstore : (x.enterBase p).store = s.store := by simpa using x1
  have hbypass : (x.enterBase p).bypass = s.bypass := by simpa using x3
  have hwatch : (x.enterBase p).watch = s.watch := (enterBase_watch_of_not_arming x5).trans x4
  have hheard : ((x.enterBase p).heardAt 0).state = some h := by
    rw [heardAt_congr (s := s) (by simp [x2])]
    exact hh
  obtain ⟨htable, -⟩ := enterBase_roster p x
  have hauthority := enterBase_authority ho x
  rw [x6] at htable
  clear x1 x2 x3 x4 x5 x6 hentered
  generalize x.enterBase p = y at *
  obtain ⟨hphase, hsettled⟩ := hround
  have hentry : y.roster.entries[i - 1]? = some e := by rw [htable.1]; exact he
  rw [joinAssertion_eq ((State.ownIndex_congr hstore).trans hown) (by rw [hwatch, hbypass]; exact hc),
    assertedContent_eq hheard, hwatch]
  have howned : (y.entryAt i).owned (joinContent s.watch h.phase).1 (joinContent s.watch h.phase).2 =
      joinEntry s.watch h.phase e := by
    rw [entryAt_of_getElem? hentry, RosterEntry.owned, joinContent_owner]
    rfl
  obtain ⟨hhanded, hentries, -⟩ := handed_assertEntry i (joinContent s.watch h.phase).1 (joinContent s.watch h.phase).2 y
  obtain ⟨-, -, hchange, -⟩ := assertEntry_table i (joinContent s.watch h.phase).1 (joinContent s.watch h.phase).2 y
  obtain ⟨q, hq, hchanged⟩ := assertEntry_round i (joinContent s.watch h.phase).1 (joinContent s.watch h.phase).2 y
  rw [howned] at hentries hchange
  have hsame : p = .lockout ∨ p = .settling → q.entryChange .owner = q := by
    intro hp'
    unfold State.entryChange
    rw [hq, hphase]
    rcases hp' with rfl | rfl <;> rfl
  constructor
  case authority => exact hhanded.authority hauthority
  case entries => rw [hentries, htable.1]; rfl
  case changed =>
    intro hne
    have hnow : (y.assertEntry i (joinContent s.watch h.phase).1 (joinContent s.watch h.phase).2).now = y.now := by simp
    rw [hchange, hnow]
    show (if rosterDigestOf (setAt y.roster.entries (i - 1) (joinEntry s.watch h.phase e)) = y.roster.digest then
      y.roster.digestChange else y.now) = y.now
    rw [htable.1, htable.2.1]
    exact if_neg hne
  case store => exact hhanded.store.trans hstore
  case phase =>
    rw [hchanged]
    rcases hp with hp | hp | hp | hp
    · rw [hsame (.inl hp), hq, hphase, hp]
      rfl
    · rw [hsame (.inr hp), hq, hphase, hp]
      rfl
    · rw [entryChange_halted (by rw [hq, hphase, hp]), State.enterBase_round, hp]
      rfl
    · rw [entryChange_running (by simp) (by rw [hq, hphase, hp]), State.enterBase_round, hp]
      rfl
  case settled =>
    intro hp'
    rw [hchanged, hsame (.inr hp'), hq]
    exact hsettled hp'

end

end Sys2Proof.Proofs

/-! # REPORT_TICK

PROOFS about the report tick in JOINING and the end of the join window, and REPORT_TICK (R12, R39, R40, R158, R159, R188). -/

namespace Sys2Proof.Proofs

open Sys2Proof.Machine Sys2Proof.Safety

/-! ## The join conditions -/

section
variable {s r : State} {i : Nat} {h : HeardState} {e : RosterEntry}

/-- R188: the join conditions tested once the window is over. -/
theorem testJoin_eq (hp : s.round.phase = .joining) (hl : s.round.joinLeft = 0) :
    (∀ p, s.testMismatch.joinExit = some p → s.testJoin = s.testMismatch.leaveJoining p) ∧
    (s.testMismatch.joinExit = none → s.testJoin = s.testMismatch) := by
  rw [State.testJoin, if_pos ⟨hp, hl⟩]
  dsimp only
  exact ⟨fun p h => by rw [h], fun h => by rw [h]⟩

/-- R188: the test of a mismatch writes its flag alone. -/
theorem testMismatch_eq (s : State) : ∃ m, s.testMismatch = s.onRound fun r => { r with mismatchFlag := m } := by
  unfold State.testMismatch State.when
  split
  · exact ⟨_, rfl⟩
  · exact ⟨s.round.mismatchFlag, rfl⟩

theorem testJoin_of_left (hl : s.round.joinLeft ≠ 0) : s.testJoin = s := by
  rw [State.testJoin, if_neg fun h => hl h.2]

/-! ## A window that goes on -/

/-- R188: a tick within the window. -/
theorem tick_window (hp : s.round.phase = .joining) (hl : 2 ≤ s.round.joinLeft) :
    s.tick.round.phase = .joining ∧ s.tick.round.joinLeft = s.round.joinLeft - 1 ∧ s.tick.bus.queue = s.bus.queue ∧
    s.tick.roster = s.roster := by
  obtain ⟨c, hc, htick⟩ := tick_joining hp
  have hphase : c.round.phase = .joining := by rw [hc.round]; exact hp
  have hleft : c.round.joinLeft = s.round.joinLeft - 1 := by rw [hc.round]
  rw [htick, testJoin_of_left (by rw [hleft]; omega), testAgreement_idle (.inl hphase)]
  exact ⟨hphase, hleft, hc.barred (by simp [hl]), hc.roster⟩

/-- R188: a fitted station without a valid working copy stays in JOINING. -/
theorem tick_invalid (hp : s.round.phase = .joining) (hl : s.round.joinLeft = 1) (hd : s.bus.duplicate = false)
    (hf : s.fitted = true) (hv : s.store.valid = false) :
    s.tick.round.phase = .joining ∧ s.tick.round.joinLeft = 0 ∧
    s.tick.bus.queue = enqueueFrame s.now .state s.bus.queue := by
  obtain ⟨c, hc, htick⟩ := tick_joining hp
  have hphase : c.round.phase = .joining := by rw [hc.round]; exact hp
  have hleft : c.round.joinLeft = 0 := by rw [hc.round, hl]
  obtain ⟨m, hm⟩ := testMismatch_eq c
  have hvalid : (c.onRound fun r => { r with mismatchFlag := m }).store.valid = false := by
    rw [State.onRound_store, hc.store, hv]
  have hnone : (c.onRound fun r => { r with mismatchFlag := m }).joinExit = none := by
    unfold State.joinExit State.lineExit State.cellExit
    rw [hvalid]
    repeat' split
    all_goals simp_all
  have hstay := (testJoin_eq hphase hleft).2 (by rw [hm]; exact hnone)
  rw [hm] at hstay
  rw [htick, hstay, testAgreement_idle (s := c.onRound fun r => { r with mismatchFlag := m }) (.inl hphase)]
  exact ⟨hphase, hleft, hc.report (by simp [hd, hf, hl]) hv⟩

/-! ## A line station alone -/

/-- R40: a line station without voters leaves for HALTED. -/
theorem tick_alone (hp : s.round.phase = .joining) (hl : s.round.joinLeft = 1) (hd : s.bus.duplicate = false)
    (hline : s.isLine = true) (hv : s.store.valid = true) (hvoters : s.voters = []) (hdem : s.round.runDemand = false)
    (hdef : s.round.deferred = false) : s.tick.round.phase = .halted ∧ s.tick.roster.authority = true := by
  obtain ⟨c, hc, htick⟩ := tick_joining hp
  have hphase : c.round.phase = .joining := by rw [hc.round]; exact hp
  have hleft : c.round.joinLeft = 0 := by rw [hc.round, hl]
  have hcline : c.isLine = true := (isLine_congr hc.store).trans hline
  have hcell : c.isCell = false := by rw [isCell_eq_not_isLine, hcline]; rfl
  have hmismatch : c.testMismatch = c := by
    rw [State.testMismatch, hcell, Bool.false_and, Bool.false_and, Bool.false_and, State.when_false]
  have hvoter : c.isVoter = s.isVoter := by
    funext m
    rw [State.isVoter, State.isVoter, heardAt_congr hc.heard, number_congr hc.store, quietTime_congr hc.store, hc.now,
      hc.store]
  have hnone : c.voters = [] := by rw [State.voters, hvoter, ← State.voters, hvoters]
  have hexit : c.joinExit = some .halted := by
    rw [State.joinExit, hcline, if_pos rfl, State.lineExit, hc.duplicate, hd, hc.store, hv, State.someVoterLockedOut,
      State.everyVoter, State.everyVoter, hnone]
    rfl
  have hprepare : c.prepareExit .halted = c := by
    show c.when c.isCell _ = c
    rw [hcell, State.when_false]
  have hstands : StandsAt .halted c := .inr (.inl ⟨rfl, by rw [hc.round]; exact hdem, by rw [hc.round]; exact hdef⟩)
  have hassert : (c.enterBase .halted).joinAssertion = c.enterBase .halted := by
    have hno : (c.enterBase .halted).ownIndex = none := by
      rw [State.ownIndex_congr (s := c) (by simp), State.ownIndex, hcell]
      rfl
    rw [State.joinAssertion, hno]
  have hleave : c.leaveJoining .halted = c.enterBase .halted := by
    rw [State.leaveJoining, hprepare, enter_from_joining hphase rfl hstands, hassert]
  have hhalted : (c.enterBase .halted).round.phase = .halted := by rw [State.enterBase_round]; rfl
  have htest : (c.enterBase .halted).testAgreement = c.enterBase .halted := by
    unfold State.testAgreement
    rw [hhalted]
  rw [htick, (testJoin_eq hphase hleft).1 .halted (by rw [hmismatch, hexit]), hmismatch, hleave, htest]
  exact ⟨hhalted, enterBase_authority rfl c⟩

/-! ## A cell station beside a line station -/

/-- R188: the join conditions of the cell station `s`, its own entry at the index `i`, with the STATE `h` of the line station. -/
structure JoinReady (s : State) (i : Nat) (h : HeardState) : Prop where
  phase : s.round.phase = .joining
  left : s.round.joinLeft ≤ 1
  duplicate : s.bus.duplicate = false
  own : s.ownIndex = some i
  heard : (s.heardAt 0).state = some h
  young : s.now - h.time < s.quietTime
  config : h.cfgDigest = s.store.digest
  inside : h.phase.outside = false
  bypass : s.watch.latch ≠ [] → s.bypass.confirmedClosed = false

theorem own_of_ownIndex (hown : s.ownIndex = some i) : s.isLine = false ∧ s.fitted = true ∧ s.store.valid = true := by
  unfold State.ownIndex at hown
  split at hown
  next hc =>
    simp only [Bool.and_eq_true, isCell_eq_not_isLine, Bool.not_eq_true'] at hc
    exact ⟨hc.1.1, hc.1.2, hc.2⟩
  next => simp at hown

/-- R39: the cell station leaves JOINING for the phase that the line station's shows. -/
theorem cellExit_eq (hr : JoinReady s i h) : s.joinExit = some (phaseJoined h.phase) := by
  obtain ⟨hl, hf, hv⟩ := own_of_ownIndex hr.own
  have hstate : s.lineState = some h := by rw [State.lineState, hr.heard]; exact if_pos hr.young
  rw [State.joinExit, hl, if_neg Bool.false_ne_true, State.cellExit, hstate]
  simp [hr.duplicate, hv, hf, hr.config, hr.inside]

theorem phaseJoined_cases (p : Phase) :
    phaseJoined p = .lockout ∨ phaseJoined p = .settling ∨ phaseJoined p = .halted ∨ phaseJoined p = .running := by
  cases p <;> simp [phaseJoined]

/-- R39, R188: the tick that ends a cell station's JOINING. -/
theorem tick_joins (hr : JoinReady s i h) (he : s.roster.entries[i - 1]? = some e) (hs : StandsAt (phaseJoined h.phase) s) :
    ∃ r, s.tick = r.testAgreement ∧ Joined s i (joinEntry s.watch h.phase e) (phaseJoined h.phase) r := by
  obtain ⟨c, hc, htick⟩ := tick_joining hr.phase
  obtain ⟨m, hm⟩ := testMismatch_eq c
  have hphase : c.round.phase = .joining := by rw [hc.round]; exact hr.phase
  have hleft : c.round.joinLeft = 0 := by
    rw [hc.round]
    exact Nat.sub_eq_zero_of_le hr.left
  have hkept : c.testMismatch.round = { s.round with
        joinLeft := s.round.joinLeft - 1, lineLost := c.round.lineLost, linePresent := c.round.linePresent
        mismatchFlag := m } ∧ c.testMismatch.roster = s.roster ∧ c.testMismatch.watch = s.watch ∧
      c.testMismatch.bypass = s.bypass ∧ c.testMismatch.store = s.store ∧ c.testMismatch.now = s.now ∧
      c.testMismatch.bus.heard = s.bus.heard ∧ c.testMismatch.bus.duplicate = s.bus.duplicate := by
    rw [hm]
    exact ⟨by rw [State.onRound_round, hc.round], hc.roster, hc.watch, hc.bypass, hc.store, hc.now, hc.heard, hc.duplicate⟩
  obtain ⟨hexit, -⟩ := testJoin_eq hphase hleft
  clear hm hphase hleft hc
  generalize c.testMismatch = x at *
  obtain ⟨h1, h2, h3, h4, h5, h6, h7, h8⟩ := hkept
  have hready : JoinReady x i h :=
    { phase := by rw [h1]; exact hr.phase
      left := by rw [h1]; exact Nat.le_trans (Nat.sub_le ..) hr.left
      duplicate := h8.trans hr.duplicate
      own := (State.ownIndex_congr h5).trans hr.own
      heard := by rw [heardAt_congr h7]; exact hr.heard
      young := by rw [h6, quietTime_congr h5]; exact hr.young
      config := by rw [h5]; exact hr.config
      inside := hr.inside
      bypass := by rw [h3, h4]; exact hr.bypass }
  have hstands : StandsAt (phaseJoined h.phase) x := by
    unfold StandsAt at hs ⊢
    rw [h1, isLine_congr h5]
    exact hs
  have hjoined := leaveJoining_joined (own_of_ownIndex hready.own).1 hready.phase (phaseJoined_cases _) hstands hready.heard
    hready.own (by rw [h2]; exact he) hready.bypass
  obtain ⟨g1, g2, g3, g4, g5, g6⟩ := hjoined
  rw [h2] at g2 g3
  rw [h3] at g2 g3
  rw [h1] at g6
  exact ⟨_, by rw [htick, hexit _ (cellExit_eq hready)], g1, g2, g3, g4.trans h5, g5, g6⟩

/-- R38, R43: the phase after the join assertion stands in the agreement tests of the tick. -/
theorem tick_joined {e' : RosterEntry} {p : Phase} (hj : Joined s i e' p r) (hp : phaseAsserted p ≠ .planning)
    (hset : phaseAsserted p = .settling →
      1 ≤ s.params.report ∧ rosterDigestOf (s.roster.entries.set (i - 1) e') ≠ s.roster.digest) :
    r.testAgreement.round = r.round ∧ r.testAgreement.roster = r.roster := by
  obtain ⟨h1, -, h3, -⟩ := testAgreement_stands (s := r) (by rwa [hj.phase]) fun hq => by
    obtain ⟨hreport, hne⟩ := hset (hj.phase ▸ hq)
    have hperiod : 0 < r.report := by
      rw [State.report, State.params_congr hj.store]
      exact Nat.mul_pos (by decide) hreport
    have hunstable : r.digestStable = false := by
      rw [State.digestStable, hj.changed hne]
      exact decide_eq_false (Nat.not_le.mpr (Nat.lt_add_of_pos_right hperiod))
    rw [State.rosterAgreed, hunstable, Bool.and_false, Bool.false_and]
  exact ⟨h1, h3⟩

end

/-! ## REPORT_TICK -/

/-- R12: whether the owner of an index is marked. -/
theorem toMark_advance {t : Time} {s : State} {i : Nat} {e : RosterEntry} (hown : s.ownIndex ≠ some i)
    (he : s.roster.entries[i - 1]? = some e) (hc : e.cond ≠ .silent) :
    (s.advance t).toMark i = true ↔
      ((s.advance t).heardAt (stationOfIndex s.params.cells i)).status = .silent ∨
      (((s.advance t).heardAt (stationOfIndex s.params.cells i)).status = .never ∧
        s.quietTime ≤ max s.now t - s.bus.resetAt) ∨
      ∃ h, ((s.advance t).heardAt (stationOfIndex s.params.cells i)).state = some h ∧ h.cfgDigest ≠ s.store.digest := by
  have hentry : (s.advance t).entryAt i = e := entryAt_of_getElem? he
  have hown' : ((s.advance t).ownIndex != some i) = true := by simpa using (State.ownIndex_congr (r := s.advance t) (s := s) rfl) ▸ hown
  have hmark : (s.advance t).toMark i = (s.advance t).ownerAbsent (stationOfIndex s.params.cells i) := by
    rw [State.toMark, hown', hentry, show (e.cond != .silent) = true by simpa using hc, Bool.true_and, Bool.true_and]
    rfl
  rw [hmark, State.ownerAbsent]
  generalize (s.advance t).heardAt (stationOfIndex s.params.cells i) = x
  have hnow : (s.advance t).now = max s.now t := rfl
  have hquiet : (s.advance t).quietTime = s.quietTime := rfl
  have hreset : (s.advance t).bus.resetAt = s.bus.resetAt := rfl
  have hstore : (s.advance t).store = s.store := rfl
  rw [hnow, hquiet, hreset, hstore]
  cases hx : x.state with
  | none => simp
  | some y => simp [or_assoc]

/-- Settles O10: the report tick counts the join window down, tests the join conditions and marks absent owners. -/
theorem reportTickCountsAndTestsJoin : Obligations.ReportTickCountsAndTestsJoin := by
  refine ⟨fun t s hr hd hp => ⟨fun hl => ?_, fun hl hdup hf hv => ?_, fun hl hdup hline hv hvoters hdem hdef => ?_,
    fun h i e e' content hl hdup hown he hh hyoung hcfg hbypass hcontent he' => ?_⟩,
    fun t s hr hd hv hyoung i e x absent h1 h2 hown he hc hx habsent => ?_, fun t s hr => ⟨fun hd => ?_, fun hd => ?_⟩⟩
  · exact ⟨_, exec_reportTick hr hd, tick_window (s := s.advance t) hp hl⟩
  · exact ⟨_, exec_joinWindowEnd hr hd hp hl, exec_reportTick hr hd,
      tick_invalid (s := s.advance t) hp hl hdup ((fitted_congr (r := s.advance t) rfl).trans hf) hv⟩
  · exact ⟨_, exec_joinWindowEnd hr hd hp hl, exec_reportTick hr hd,
      tick_alone (s := s.advance t) hp hl hdup hline hv hvoters hdem hdef⟩
  · have hready : h.phase.outside = false → JoinReady (s.advance t) i h := fun ho =>
      ⟨hp, hl, hdup, hown, (heardAt_advance_state t 0 s).trans hh, hyoung, hcfg, ho, hbypass⟩
    have hentry : joinEntry s.watch h.phase e = e' := by
      rw [he', hcontent]
      rfl
    have hjoins := fun ho hs => tick_joins (s := s.advance t) (e := e) (hready ho) he hs
    rw [show joinEntry (s.advance t).watch h.phase e = e' from hentry] at hjoins
    refine ⟨_, exec_reportTick hr hd, fun hone => exec_joinWindowEnd hr hd hp hone, fun hlock => ?_, fun hrun hreq hdef => ?_,
      fun hreport hne => ⟨fun hset => ?_, fun hhalt hdem hdef => ?_⟩⟩
    · have hphase : phaseJoined h.phase = .lockout := by rw [hlock]; rfl
      obtain ⟨r, htick, hj⟩ := hjoins (by rw [hlock]; rfl) (.inl (by rw [hphase]; rfl))
      rw [hphase] at hj
      obtain ⟨g1, g2⟩ := tick_joined hj (by simp [phaseAsserted]) (by simp [phaseAsserted])
      rw [htick, g1, g2]
      exact ⟨hj.phase, hj.authority, hj.entries⟩
    · have hphase : phaseJoined h.phase = .running := by rcases hrun with h | h <;> rw [h] <;> rfl
      obtain ⟨r, htick, hj⟩ := hjoins (by rcases hrun with h | h <;> rw [h] <;> rfl)
        (.inr (.inr ⟨hphase, (own_of_ownIndex hown).1, hreq, hdef⟩))
      rw [hphase] at hj
      obtain ⟨g1, g2⟩ := tick_joined hj (by simp [phaseAsserted]) (by simp [phaseAsserted])
      rw [htick, g1, g2]
      exact ⟨hj.phase, hj.authority, hj.entries⟩
    · have hphase : phaseJoined h.phase = .settling := by rcases hset with h | h | h | h | h <;> rw [h] <;> rfl
      obtain ⟨r, htick, hj⟩ := hjoins (by rcases hset with h | h | h | h | h <;> rw [h] <;> rfl)
        (.inl (by rw [hphase]; rfl))
      rw [hphase] at hj
      obtain ⟨g1, g2⟩ := tick_joined hj (by simp [phaseAsserted]) fun _ => ⟨hreport, hne⟩
      obtain ⟨g3, g4⟩ := hj.settled rfl
      rw [htick, g1, g2]
      exact ⟨hj.phase, g3, g4, hj.authority, hj.entries⟩
    · have hphase : phaseJoined h.phase = .halted := by rw [hhalt]; rfl
      obtain ⟨r, htick, hj⟩ := hjoins (by rw [hhalt]; rfl) (.inr (.inl ⟨hphase, hdem, hdef⟩))
      rw [hphase] at hj
      obtain ⟨g1, g2⟩ := tick_joined hj (by simp [phaseAsserted]) fun _ => ⟨hreport, hne⟩
      rw [htick, g1, g2]
      exact ⟨hj.phase, hj.authority, hj.entries⟩
  · have hchecks : s.round.phase.outside = false → TickChecks (s.advance t) i := fun ho => ⟨hv, hyoung, ho, h1, h2⟩
    have hmark : (s.advance t).toMark i = true ↔ absent := by rw [habsent, hx]; exact toMark_advance hown he hc
    refine ⟨fun hp => ?_, fun hp ha => ?_⟩
    · obtain ⟨g1, g2⟩ := tick_entry (s := s.advance t) (e := e) hp
        (hchecks (by rcases hp with h | h <;> rw [h] <;> rfl)) he
      exact ⟨_, exec_reportTick hr hd, fun ha => g1 (hmark.mpr ha),
        fun hn => g2 (Bool.eq_false_iff.mpr fun hm => hn (hmark.mp hm))⟩
    · exact ⟨_, exec_reportTick hr hd, tick_trips (s := s.advance t) hp
        (hchecks (by rcases hp with h | h <;> rw [h] <;> rfl)) (hmark.mpr ha)⟩
  · exact exec_reportTick_early hr hd
  · obtain ⟨g1, g2, g3⟩ := tick_registers (s.advance t)
    exact ⟨_, exec_reportTick hr hd, g1, g2, g3⟩

end Sys2Proof.Proofs
